-- ==== Sys2Proof/Word.lean ====
section
/-!
DEFINITION. The bit vectors of the part: what the manual itself treats as bits. Quantities (masses, positions, drafts,
ratios) are whole numbers (00 section 5.2) and are `Int` or `Nat`.
-/

namespace Sys2Proof

/-- One character of a telegram (R177). -/
abbrev Byte := BitVec 8

/-- A CRC-16 check word (R9, R98, R179). -/
abbrev CheckWord := BitVec 16

/-- The condition version, a 32-bit count that wraps (R35). -/
abbrev Version := BitVec 32

/-- One field of an image record as WRITE DATA carries it: a 32-bit two's-complement number (R9, R12). -/
abbrev FieldWord := BitVec 32

end Sys2Proof
end

