-- ==== Sys2Proof/Syntax.lean ====
section
/-!
DEFINITION. The commands of the part: one constructor of `Instr` for each row of the table of operations and events.
The operands are those the rule of each row gives. Where a field of a request is a code and the rule says what
happens when it is none of its values, the operand is an `Option` and `none` stands for such a code.
-/

namespace Sys2Proof

/-- The four serial ports (R177). -/
inductive Port where
  | portP | portB | portC1 | portC2
deriving DecidableEq, Repr

/-- The two crane ports, each the owner of one lift record: L1 for C1, L2 for C2 (R123). -/
inductive Crane where
  | crane1 | crane2
deriving DecidableEq, Repr

/-- A port named inside a request; `unknown` is a code that names none of the four. -/
inductive PortRef where
  | port (p : Port)
  | unknown
deriving DecidableEq, Repr

/-- A character on a receive line: its data and whether its stop bit is good (R177, R180). -/
structure RxChar where
  data : Byte
  stopGood : Bool
deriving DecidableEq, Repr

/-- The levels of the two rate straps, true for high (R177). -/
structure Straps where
  rate1 : Bool
  rate0 : Bool
deriving DecidableEq, Repr

/-- A position of a hook: x, y, z in cm. -/
structure Point where
  x : Int
  y : Int
  z : Int
deriving DecidableEq, Repr

/-- A placement (R26). -/
structure Placement where
  comp : Nat
  xAft : Int
  xFore : Int
  y : Int
  z : Int
  restsOn : Option Nat
deriving DecidableEq, Repr

/-- A plan, destination or landing: a placement, or the marker ASHORE (R23). -/
inductive Goal where
  | place (pl : Placement)
  | ashore
deriving DecidableEq, Repr

/-- Item kinds (R23). -/
inductive ItemKind where
  | cargo | constant
deriving DecidableEq, Repr

/-- The states in which ADD ITEMS may declare an item (R38). -/
inductive Declared where
  | pending | aboard
deriving DecidableEq, Repr

/-- One entry of ADD ITEMS (R38). -/
structure Entry where
  tag : Nat
  kind : Option ItemKind
  state : Option Declared
  mass : Int
  dport : Int
  place : Goal
  plan : Option Goal
deriving DecidableEq, Repr

/-- The open flag of a compartment (R30). -/
inductive OpenFlag where
  | opened | closed
deriving DecidableEq, Repr

/-- Criterion codes (R7, R104). -/
inductive Code where
  | none | gmMin | area30Min | area40Min | gz30Min | gzAngleMin | heelMax | liftHeelMax | trimMax | draftMax
  | shearMax | bendMax | loadMax | draftAgreeMax | area3040Min
deriving DecidableEq, Repr

/-- Actions of a criterion slot, in their rank order (R103). -/
inductive Action where
  | note | hold | stopCranes | alarm
deriving DecidableEq, Repr

/-- Routine modes (R91). -/
inductive RoutineMode where
  | continuous | onRequest
deriving DecidableEq, Repr

/-- Scopes of a prospect (R89). -/
inductive Scope where
  | actual | departure
deriving DecidableEq, Repr

/-- The selector of READ RESULT (R99). -/
inductive Selector where
  | latest | prior
  | number (n : Nat)
deriving DecidableEq, Repr

/-- Test modes of FIND SPACE (R165). -/
inductive FindMode where
  | atLeast | atMost | equal
deriving DecidableEq, Repr

/-- Attention line modes (R190). -/
inductive LineMode where
  | level | pulse
deriving DecidableEq, Repr

/-- The layer that PUSH TRIAL carries (R169); `neither` is a layer kind that is neither of the two. -/
inductive LayerArg where
  | item (tag : Nat) (goal : Goal)
  | tank (comp : Nat) (fill : Int)
  | neither
deriving DecidableEq, Repr

/-- The changes (R36): the requests whose effect alters the condition. -/
inductive Change where
  | addItems (entries : List Entry)
  | amendItem (item : Nat) (mass dport : Option Int)
  | planMove (item : Nat) (plan : Option Goal)
  | cancelPlan (item : Nat)
  | removeItem (item : Nat)
  | setCompartment (comp : Nat) (flag : Option OpenFlag)
  | clearCondition
  | setDensity (density : Int)
  | soundings (pairs : List (Nat × Nat))
  | hookOn (hook : Point)
  | hookAt (hook : Point)
  | landed (landing : Option Goal)
deriving DecidableEq, Repr

/-- The requests of section 8.2 of the ports chapter, each with the fields its rule gives it. -/
inductive Request where
  | identify
  | readLineStatus
  | attentionQuery
  | setAttention (unmasked : List Nat) (mode : Option LineMode)
  | openData
  | writeData (kind index : Nat) (fields : List FieldWord)
  | closeData (expected : CheckWord)
  | change (c : Change)
  | readItem (item : Nat)
  | listItems (start : Nat)
  | readCompartment (comp start : Nat)
  | evaluateNow
  | setEvaluation (mode : Option RoutineMode) (interval : Int)
  | evaluateProspect (scope : Option Scope)
  | readResult (sel : Selector) (part : Nat)
  | readProspect (part : Nat)
  | setCriterion (slot : Nat) (code : Option Code) (limit hyst n : Int) (action : Option Action)
  | setRange (start stop : Nat)
  | resetSlot (slot : Nat)
  | inject (slot : Nat) (value : Int)
  | withdraw (slot : Nat)
  | readAlarms
  | readCriterion (slot : Nat)
  | findSpace (first last : Nat) (mass : Int) (mode : Option FindMode) (skipClosed : Bool) (kinds : List Nat)
  | pushTrial (layer : LayerArg)
  | popTrial
  | clearTrials
  | readTrials
  | drafts (aft fwd : Int)
  | draftZero
  | readDrafts
  | liftRequest (item : Nat) (dest : Option Goal) (outreach hook : Point) (partner : Option PortRef) (share : Option Nat)
  | joinLift (lead : PortRef) (item : Nat) (outreach : Point)
  | abortLift
  | collectOutcome
  | readLift (record : Option Crane)
deriving DecidableEq, Repr

/-- The request kinds of section 8.2 of the ports chapter. -/
inductive ReqKind where
  | identify | readLineStatus | attentionQuery | setAttention
  | openData | writeData | closeData
  | addItems | amendItem | planMove | cancelPlan | removeItem | setCompartment | clearCondition | setDensity
  | readItem | listItems | readCompartment
  | evaluateNow | setEvaluation | evaluateProspect | readResult | readProspect
  | setCriterion | setRange | resetSlot | inject | withdraw | readAlarms | readCriterion
  | findSpace | pushTrial | popTrial | clearTrials | readTrials
  | soundings | drafts | draftZero | readDrafts
  | liftRequest | joinLift | hookOn | hookAt | landed | abortLift | collectOutcome | readLift
deriving DecidableEq, Repr

/-- The kind of a change's request. -/
def Change.kind : Change → ReqKind
  | .addItems _ => .addItems
  | .amendItem .. => .amendItem
  | .planMove .. => .planMove
  | .cancelPlan _ => .cancelPlan
  | .removeItem _ => .removeItem
  | .setCompartment .. => .setCompartment
  | .clearCondition => .clearCondition
  | .setDensity _ => .setDensity
  | .soundings _ => .soundings
  | .hookOn _ => .hookOn
  | .hookAt _ => .hookAt
  | .landed _ => .landed

/-- The kind of a request. -/
def Request.kind : Request → ReqKind
  | .identify => .identify
  | .readLineStatus => .readLineStatus
  | .attentionQuery => .attentionQuery
  | .setAttention .. => .setAttention
  | .openData => .openData
  | .writeData .. => .writeData
  | .closeData _ => .closeData
  | .change c => c.kind
  | .readItem _ => .readItem
  | .listItems _ => .listItems
  | .readCompartment .. => .readCompartment
  | .evaluateNow => .evaluateNow
  | .setEvaluation .. => .setEvaluation
  | .evaluateProspect _ => .evaluateProspect
  | .readResult .. => .readResult
  | .readProspect _ => .readProspect
  | .setCriterion .. => .setCriterion
  | .setRange .. => .setRange
  | .resetSlot _ => .resetSlot
  | .inject .. => .inject
  | .withdraw _ => .withdraw
  | .readAlarms => .readAlarms
  | .readCriterion _ => .readCriterion
  | .findSpace .. => .findSpace
  | .pushTrial _ => .pushTrial
  | .popTrial => .popTrial
  | .clearTrials => .clearTrials
  | .readTrials => .readTrials
  | .drafts .. => .drafts
  | .draftZero => .draftZero
  | .readDrafts => .readDrafts
  | .liftRequest .. => .liftRequest
  | .joinLift .. => .joinLift
  | .abortLift => .abortLift
  | .collectOutcome => .collectOutcome
  | .readLift _ => .readLift

/-- The commands: one constructor for each row of the table of operations and events. A request row carries the port
it arrives on and its sequence tag (R178). -/
inductive Instr where
  -- requests of any port
  | identify (p : Port) (tag : Byte)
  | readLineStatus (p : Port) (tag : Byte)
  | attentionQuery (p : Port) (tag : Byte)
  | setAttention (p : Port) (tag : Byte) (unmasked : List Nat) (mode : Option LineMode)
  -- ship data
  | openData (p : Port) (tag : Byte)
  | writeData (p : Port) (tag : Byte) (kind index : Nat) (fields : List FieldWord)
  | closeData (p : Port) (tag : Byte) (expected : CheckWord)
  -- planning changes
  | addItems (p : Port) (tag : Byte) (entries : List Entry)
  | amendItem (p : Port) (tag : Byte) (item : Nat) (mass dport : Option Int)
  | planMove (p : Port) (tag : Byte) (item : Nat) (plan : Option Goal)
  | cancelPlan (p : Port) (tag : Byte) (item : Nat)
  | removeItem (p : Port) (tag : Byte) (item : Nat)
  | setCompartment (p : Port) (tag : Byte) (comp : Nat) (flag : Option OpenFlag)
  | clearCondition (p : Port) (tag : Byte)
  | setDensity (p : Port) (tag : Byte) (density : Int)
  -- reads of the condition
  | readItem (p : Port) (tag : Byte) (item : Nat)
  | listItems (p : Port) (tag : Byte) (start : Nat)
  | readCompartment (p : Port) (tag : Byte) (comp start : Nat)
  -- evaluation
  | evaluateNow (p : Port) (tag : Byte)
  | setEvaluation (p : Port) (tag : Byte) (mode : Option RoutineMode) (interval : Int)
  | evaluateProspect (p : Port) (tag : Byte) (scope : Option Scope)
  | readResult (p : Port) (tag : Byte) (sel : Selector) (part : Nat)
  | readProspect (p : Port) (tag : Byte) (part : Nat)
  -- limit monitor
  | setCriterion (p : Port) (tag : Byte) (slot : Nat) (code : Option Code) (limit hyst n : Int) (action : Option Action)
  | setRange (p : Port) (tag : Byte) (start stop : Nat)
  | resetSlot (p : Port) (tag : Byte) (slot : Nat)
  | inject (p : Port) (tag : Byte) (slot : Nat) (value : Int)
  | withdraw (p : Port) (tag : Byte) (slot : Nat)
  | readAlarms (p : Port) (tag : Byte)
  | readCriterion (p : Port) (tag : Byte) (slot : Nat)
  -- planning services
  | findSpace (p : Port) (tag : Byte) (first last : Nat) (mass : Int) (mode : Option FindMode) (skipClosed : Bool) (kinds : List Nat)
  | pushTrial (p : Port) (tag : Byte) (layer : LayerArg)
  | popTrial (p : Port) (tag : Byte)
  | clearTrials (p : Port) (tag : Byte)
  | readTrials (p : Port) (tag : Byte)
  -- tanks and drafts
  | soundings (p : Port) (tag : Byte) (pairs : List (Nat × Nat))
  | drafts (p : Port) (tag : Byte) (aft fwd : Int)
  | draftZero (p : Port) (tag : Byte)
  | readDrafts (p : Port) (tag : Byte)
  -- lift clearance
  | liftRequest (p : Port) (tag : Byte) (item : Nat) (dest : Option Goal) (outreach hook : Point) (partner : Option PortRef) (share : Option Nat)
  | joinLift (p : Port) (tag : Byte) (lead : PortRef) (item : Nat) (outreach : Point)
  | hookOn (p : Port) (tag : Byte) (hook : Point)
  | hookAt (p : Port) (tag : Byte) (hook : Point)
  | landed (p : Port) (tag : Byte) (landing : Option Goal)
  | abortLift (p : Port) (tag : Byte)
  | collectOutcome (p : Port) (tag : Byte)
  | readLift (p : Port) (tag : Byte) (record : Option Crane)
  -- line events
  | telegramReceived (p : Port) (chars : List RxChar)
  | receiveGapTimeout (p : Port)
  | replySent (p : Port)
  | breakLine (p : Port)
  | breakRelease (p : Port)
  -- restarts and the ends of verification and commit
  | supplyRise (retained : Bool) (straps : Straps)
  | resetPin (straps : Straps)
  | verifyEnd
  | commitEnd
  -- jobs
  | jobStart
  | captureComplete
  | routineCompletion
  | liftCheckCompletion
  | prospectCompletion
  -- timers
  | intervalTimerExpiry
  | joinWindowExpiry (c : Crane)
  | grantLapseExpiry (c : Crane)
  | reportTimerExpiry (c : Crane)
  | draftReadingStale
  | attentionPulseEnd (p : Port)
  | characterReceived (p : Port) (char : RxChar)
deriving DecidableEq, Repr

end Sys2Proof
end

