-- ==== Sys2Proof/Decode.lean ====
section
/-!
DEFINITION. The decoder of the table's words. Every row of the table of operations and events has neither bits nor
fields, so no word spells a command (log 2); what travels on a line is a telegram, whose reading stands in Ports.
-/

namespace Sys2Proof

/-- The command that a word of the table spells: none, for every word, since no row of the table gives bits (log 2). -/
def decodeTableWord (_nbits _w : Nat) : Option Instr := none

end Sys2Proof
end

