-- ==== Sys2Proof/Config.lean ====
section
/-!
DEFINITION. What the part fixes once and for all: the identification codes, the capacities, and two free values of the
model: the byte layout of the request payloads that the manual does not lay out, and what a criterion slot holds for a
setting that the image does not check. The third, the bytes of the replies that the manual does not lay out, stands in
Layouts.lean, beside the answers it reads.
-/

namespace Sys2Proof.Config

/-- Vendor code reported by IDENTIFY (R21). -/
def vendor : Nat := 79

/-- Part code reported by IDENTIFY (R21). -/
def part : Nat := 48

/-- Revision reported by IDENTIFY (R21). -/
def revision : Nat := 3

/-- Most records the item table holds (R22). -/
def maxItems : Nat := 384

/-- Most entries of one ADD ITEMS (R38). -/
def maxEntries : Nat := 4

/-- Most tags in a LIST ITEMS reply (R48). -/
def listWindow : Nat := 48

/-- Most tags in a READ COMPARTMENT window (R49). -/
def stowWindow : Nat := 40

/-- Most layers of the trial stack (R168). -/
def maxLayers : Nat := 8

/-- Most pairs of one SOUNDINGS (R151). -/
def maxPairs : Nat := 12

/-- Number of criterion slots (R103). -/
def slotCount : Nat := 16

/-- Number of compartment numbers, 0..95 (R1). -/
def compCount : Nat := 96

/-- Greatest payload length of a telegram (R178). -/
def maxPayload : Nat := 120

/-- FREE VALUE (log 8). The fields that a payload of the given kind carries, or none where its length or field count
does not fit the kind (R182). The manual lays out the envelope, the placement field and four replies, and gives no
byte layout for these requests, so nothing is known of this function. -/
opaque requestOfPayload : ReqKind → List Byte → Option Request

/-- FREE VALUE (log 35). What a slot takes for a setting of a CRITERION DEFAULT record with code NONE that lies outside
the range of R103, and that R7 leaves unchecked: by the number of the setting (1 limit, 2 hysteresis, 3 fail count N,
4 action) and the record's value. Nothing is known of this function. -/
opaque unheldSetting : Nat → Int → Int

end Sys2Proof.Config
end

