-- ==== Sys2Proof/Machine/State.lean ====
section
/-!
DEFINITION. Every piece of state the manual gives the part, grouped by the blocks of section 2 of the scope file, the
reasons a step can stop, and the state right after a COLD restart. Plain data: every table is a list with strictly
rising keys and no field is a function.
-/

namespace Sys2Proof.Machine

open Sys2Proof

/-- A table with a numeric key, as a list of pairs whose keys strictly rise. -/
abbrev Table (α : Type) := List (Nat × α)

/-- One value for each port. -/
structure PerPort (α : Type) where
  p : α
  b : α
  c1 : α
  c2 : α
deriving DecidableEq, Repr

/-- One value for each crane port. -/
structure PerCrane (α : Type) where
  c1 : α
  c2 : α
deriving DecidableEq, Repr

/-! ### Ship data store (chapter 01) -/

/-- PARTICULARS (R2). -/
structure Particulars where
  lbp : Int
  rangeStart : Int
  rangeStop : Int
deriving DecidableEq, Repr

/-- LIGHTSHIP BLOCK (R3). -/
structure LightshipBlock where
  mass : Int
  xAft : Int
  xFore : Int
  y : Int
  z : Int
deriving DecidableEq, Repr

/-- HYDRO ROW (R4). -/
structure HydroRow where
  t : Int
  d : Int
  lcb : Int
  lcf : Int
  km : Int
  mtc : Int
  kn10 : Int
  kn20 : Int
  kn30 : Int
  kn40 : Int
  kn50 : Int
  kn60 : Int
deriving DecidableEq, Repr

/-- STATION (R5). -/
structure Station where
  x : Int
  f : Int
  k : Int
  l : Int
  sp : Int
  bp : Int
deriving DecidableEq, Repr

/-- The three kinds of compartment in which items stow (R6). -/
inductive StowKind where
  | hold | tween | deck
deriving DecidableEq, Repr

/-- The fields of a COMPARTMENT record that depend on its kind (R6). -/
inductive CompUse where
  | stow (kind : StowKind) (maxLoad : Int)
  | tank (fullMass cx cy maxFsm : Int)
deriving DecidableEq, Repr

/-- COMPARTMENT (R6). -/
structure CompRecord where
  xAft : Int
  xFore : Int
  yMin : Int
  yMax : Int
  zFloor : Int
  zTop : Int
  use : CompUse
deriving DecidableEq, Repr

/-- CRITERION DEFAULT (R7), its fields as written. -/
structure CriterionRecord where
  code : Int
  limit : Int
  hyst : Int
  n : Int
  action : Int
deriving DecidableEq, Repr

/-- TIMERS (R8). -/
structure Timers where
  joinWindow : Int
  grantLapse : Int
  report : Int
  freshness : Int
deriving DecidableEq, Repr

/-- The records of a ship data image, stored or in the load buffer (R1, R12). -/
structure Image where
  particulars : Option Particulars
  blocks : Table LightshipBlock
  rows : Table HydroRow
  stations : Table Station
  comps : Table CompRecord
  criteria : Table CriterionRecord
  timers : Option Timers
deriving DecidableEq, Repr

/-- Service modes (R15). -/
inductive ServiceMode where
  | verify | inService | dataLoading | dataFault
deriving DecidableEq, Repr

/-- Fault reasons of DATA FAULT (R13, R16). -/
inductive FaultReason where
  | noData | particulars | lightship | hydrostatics | stations | compartments | criteria | timers | checkMismatch
deriving DecidableEq, Repr

/-- Restart causes (R18). -/
inductive RestartCause where
  | cold | warmSupply | warmPin
deriving DecidableEq, Repr

/-- A request the part has taken: the port it came on, its kind byte and tag, and the mark by which the port
interface tells it from every other request of that port (R183, log 11). -/
structure Caller where
  port : Port
  kind : Byte
  tag : Byte
  mark : Nat
deriving DecidableEq, Repr

/-- The ship data store. -/
structure ShipStore where
  image : Image
  present : Bool
  checkWord : CheckWord
  buffer : Image
  mode : ServiceMode
  faultReason : Option FaultReason
  restartCause : RestartCause
  slotsUnloaded : Bool
  retentionMark : Bool
  committing : Option Caller
deriving DecidableEq, Repr

/-! ### Condition store (chapter 02) -/

/-- Item states (R23). -/
inductive ItemState where
  | pending | aboard | slung
deriving DecidableEq, Repr

/-- An item record; its tag is its key in the item table (R23). -/
structure ItemRecord where
  kind : ItemKind
  state : ItemState
  mass : Int
  dport : Int
  actual : Option Placement
  plan : Option Goal
  link : Option Crane
deriving DecidableEq, Repr

/-- The live state of a compartment: open flag, load and stow list, oldest first (R30, R31, R32). -/
structure CompState where
  flag : OpenFlag
  load : Int
  stow : List Nat
deriving DecidableEq, Repr

/-- A change on the hold list, with the request it is (R37). -/
structure Held where
  caller : Caller
  change : Change
deriving DecidableEq, Repr

/-- The condition store. A compartment with no entry in `comps` is OPEN, with load 0 and an empty stow list (log 26). -/
structure Condition where
  items : Table ItemRecord
  comps : Table CompState
  density : Int
  version : Version
  hold : List Held
deriving DecidableEq, Repr

/-! ### Figures and the evaluation unit (chapters 03 and 04) -/

/-- Where a weight of a capture record comes from (R53). -/
inductive Source where
  | lightship (block : Nat)
  | item (tag : Nat)
  | hook (tag : Nat)
  | tank (comp : Nat)
deriving DecidableEq, Repr

/-- One weight of a capture record (R53). -/
structure Weight where
  source : Source
  m : Int
  xa : Int
  xf : Int
  y : Int
  z : Int
  comp : Option Nat
deriving DecidableEq, Repr

/-- A capture record (R53). -/
structure Capture where
  weights : List Weight
  density : Int
  fsm : Int
deriving DecidableEq, Repr

/-- Totals of stage 1 and the equivalent displacement of stage 2 (R58, R59). -/
structure Totals where
  delta : Int
  lcg : Int
  tcg : Int
  vcg : Int
  fsm : Int
  deq : Int
deriving DecidableEq, Repr

/-- The eleven quantities of stage 3 (R60). -/
structure Hydro where
  tm : Int
  lcb : Int
  lcf : Int
  km : Int
  mtc : Int
  kn10 : Int
  kn20 : Int
  kn30 : Int
  kn40 : Int
  kn50 : Int
  kn60 : Int
deriving DecidableEq, Repr

/-- Trim and drafts of stage 4 (R62, R63). -/
structure Trim where
  t : Int
  ta : Int
  tf : Int
deriving DecidableEq, Repr

/-- Stages 5 and 6 (R64 to R66). -/
structure Stability where
  fsc : Int
  kgf : Int
  gmSolid : Int
  gm : Int
  heel : Int
deriving DecidableEq, Repr

/-- Righting levers, areas and the angle of maximum lever, stages 7 and 8 (R67 to R69). -/
structure Levers where
  gz0 : Int
  gz10 : Int
  gz20 : Int
  gz30 : Int
  gz40 : Int
  gz50 : Int
  gz60 : Int
  a30 : Int
  a40 : Int
  a3040 : Int
  angle : Int
deriving DecidableEq, Repr

/-- The figures of one station, stage 9 (R73, R74). -/
structure StationFigures where
  sf : Int
  bm : Int
  shear : Int
  bend : Int
deriving DecidableEq, Repr

/-- The flags of a figure set (R57). -/
structure FigureFlags where
  offLow : Bool
  offHigh : Bool
  trimSaturated : Bool
  negativeGm : Bool
deriving DecidableEq, Repr

/-- A figure set (R57). -/
structure FigureSet where
  totals : Totals
  hydro : Hydro
  trim : Trim
  stab : Stability
  levers : Levers
  stations : List StationFigures
  maxShear : Int
  maxBend : Int
  loadRatio : Int
  flags : FigureFlags
deriving DecidableEq, Repr

/-- Verdicts (R107). -/
inductive Verdict where
  | na | pass | fail
deriving DecidableEq, Repr

/-- A routine result record (R96), with the slung mark of R161. `disagreement` is none when DRAFT CHECK HELD is set. -/
structure RoutineResult where
  seq : Nat
  version : Version
  stale : Bool
  injected : Bool
  stationCount : Nat
  figures : FigureSet
  disagreement : Option Int
  verdicts : List Verdict
  checkWord : CheckWord
  slung : Bool
deriving DecidableEq, Repr

/-- The header of a prospective result: every field of R174 except the figures, with the three ratios (R175). -/
structure ProspectHeader where
  seq : Nat
  scope : Scope
  version : Version
  stale : Bool
  baseLost : Bool
  depth : Nat
  applied : Nat
  skipped : Nat
  flags : FigureFlags
  stationCount : Nat
  verdicts : List Verdict
  failing : Nat
  firstFail : Option (Nat × Int)
  loadRatio : Int
  maxShear : Int
  maxBend : Int
deriving DecidableEq, Repr

/-- The prospective result record (R174). -/
structure ProspectResult where
  header : ProspectHeader
  figures : FigureSet
deriving DecidableEq, Repr

/-- What a routine job captures for the draft check (R158): the fresh reading, if any, and the two offsets. -/
structure DraftCapture where
  reading : Option (Int × Int)
  aftOffset : Int
  fwdOffset : Int
deriving DecidableEq, Repr

/-- What a job works on, by its kind (R82, R87, R88, R89). -/
inductive Work where
  | routine (cap : Capture) (slung : Bool) (draft : DraftCapture)
  | lift (lead : Crane) (path final : Capture)
  | prospect (scope : Scope) (cap : Capture) (depth applied skipped : Nat) (baseLost : Bool) (caller : Caller)
deriving DecidableEq, Repr

/-- Stages of a job (R81). -/
inductive Stage where
  | capturing | computing
deriving DecidableEq, Repr

/-- The job in the engine (R81). -/
structure Job where
  stage : Stage
  version : Version
  work : Work
deriving DecidableEq, Repr

/-- The evaluation unit. -/
structure EvalUnit where
  slotC1 : Option Nat
  slotC2 : Option Nat
  raiseClock : Nat
  slotProspect : Option (Scope × Caller)
  slotRoutine : Bool
  engine : Option Job
  working : Option RoutineResult
  latest : Option RoutineResult
  prior : Option RoutineResult
  lastSeq : Nat
  prospect : Option ProspectResult
  lastProspectSeq : Nat
  routineMode : RoutineMode
  interval : Nat
  intervalTimer : Option Nat
deriving DecidableEq, Repr

/-! ### Limit monitor (chapter 05) -/

/-- The settings of a criterion slot (R103). -/
structure Settings where
  code : Code
  limit : Int
  hyst : Int
  n : Nat
  action : Action
deriving DecidableEq, Repr

/-- A criterion slot (R103); `alarm` is true for ALARM. -/
structure Slot where
  set : Settings
  alarm : Bool
  count : Nat
  injected : Option Int
deriving DecidableEq, Repr

/-- The limit monitor. An effective action of none is NONE (R110). -/
structure Monitor where
  slots : List Slot
  rangeStart : Nat
  rangeStop : Nat
  sticky : PerPort (List Nat)
  primed : Bool
  effective : Option Action
  lastJudged : Nat
deriving DecidableEq, Repr

/-- The output lines of the monitor, true for asserted (R111, R112). -/
structure Lines where
  permit1 : Bool
  permit2 : Bool
  calarm : Bool
deriving DecidableEq, Repr

/-! ### Lift clearance unit (chapter 06) -/

/-- States of a lift record (R123). -/
inductive LiftState where
  | idle | joining | checking | granted | slung | done
deriving DecidableEq, Repr

/-- Roles of a lift record (R123). -/
inductive LiftRole where
  | single | lead | partner
deriving DecidableEq, Repr

/-- The fields of a lift record that are absent in IDLE (R123). -/
structure Lift where
  tag : Nat
  origin : Goal
  dest : Goal
  outreach : Point
  hook : Option Point
  role : LiftRole
  share : Option Nat
deriving DecidableEq, Repr

/-- The lift timers (R123). -/
inductive TimerKind where
  | joinWindow | grantLapse | report
deriving DecidableEq, Repr

/-- A running lift timer with its seconds remaining. -/
structure RunningTimer where
  kind : TimerKind
  remaining : Nat
deriving DecidableEq, Repr

/-- The failing case of a check report (R135). -/
inductive CheckCase where
  | path | final
deriving DecidableEq, Repr

/-- A lift check report (R135): the failure is none when the result is GRANTED, and otherwise the failing case, the
failing slot and that slot's computed figure. -/
structure CheckReport where
  failure : Option (CheckCase × Nat × Int)
  version : Version
  stale : Bool
  pathFlags : FigureFlags
  finalFlags : FigureFlags
  pathHeel : Int
  finalHeel : Int
deriving DecidableEq, Repr

/-- Outcome codes (R146). -/
inductive OutcomeCode where
  | landed | landedOffPlan | landedClamped | aborted | grantLapsed | joinLapsed
deriving DecidableEq, Repr

/-- A lift record (R123). -/
structure LiftRecord where
  state : LiftState
  lift : Option Lift
  timer : Option RunningTimer
  silent : Bool
  report : Option CheckReport
  outcome : Option OutcomeCode
deriving DecidableEq, Repr

/-- What an outcome record keeps beside the lift record's own fields: the mass and the final placement at entry to
DONE (R146). -/
structure Ended where
  mass : Int
  final : Goal
deriving DecidableEq, Repr

/-- The lift clearance unit. -/
structure LiftUnit where
  records : PerCrane LiftRecord
  ended : PerCrane (Option Ended)
  waiting : PerCrane (Option Caller)
deriving DecidableEq, Repr

/-- The outcome record of COLLECT OUTCOME (R146). -/
structure OutcomeRecord where
  tag : Nat
  mass : Int
  role : LiftRole
  outcome : OutcomeCode
  final : Goal
  dest : Goal
  report : Option CheckReport
deriving DecidableEq, Repr

/-! ### Tank and draft unit, planning services (chapters 07 and 08) -/

/-- A held draft reading with its age in seconds (R155, R156). -/
structure DraftReading where
  aft : Int
  fwd : Int
  age : Nat
deriving DecidableEq, Repr

/-- The tank and draft unit. A tank with no entry in `fills` is at fill 0 (log 26). -/
structure TankUnit where
  fills : Table Nat
  reading : Option DraftReading
  aftOffset : Int
  fwdOffset : Int
deriving DecidableEq, Repr

/-- A layer of the trial stack (R168). -/
inductive Layer where
  | item (tag : Nat) (goal : Goal)
  | tank (comp fill : Nat)
deriving DecidableEq, Repr

/-- The trial stack, bottom layer first (R168). -/
structure Trials where
  layers : List Layer
  baseLost : Bool
deriving DecidableEq, Repr

/-! ### Port interface and attention unit (chapters 09 and 10) -/

/-- Receiver states (R180, R185). -/
inductive Receiver where
  | waiting
  | assembling (bytes : List Byte)
  | discarding
  | inBreak
deriving DecidableEq, Repr

/-- The seven error counters of a port (R181). -/
structure Counters where
  framing : Nat
  gap : Nat
  oversize : Nat
  check : Nat
  unknown : Nat
  role : Nat
  dropped : Nat
deriving DecidableEq, Repr

/-- Which of the seven counters (R181). -/
inductive LineErr where
  | framing | gap | oversize | check | unknown | role | dropped
deriving DecidableEq, Repr

/-- Port roles (R177). -/
inductive PortRole where
  | planning | ballast | crane
deriving DecidableEq, Repr

/-- The four rates (R177). -/
inductive Rate where
  | b38400 | b115200 | b230400 | b460800
deriving DecidableEq, Repr

/-- Attention causes, in their priority order (R188). -/
inductive Cause where
  | actionRaised | outcomeReady | silentLift | actionCleared | serviceChange | newResult | lineError
deriving DecidableEq, Repr

/-- Reply statuses (section 8.3 of the ports chapter). -/
inductive Status where
  | done | clamped | warning | granted
  | busy | notReady | notInService | role | unknown | badArgument
  | noSuchItem | tagInUse | tableFull | badPlacement | itemBusy | overstowed | notLiftable | offPlan
  | held | silentLift | outcomePending | nothingPending | noSuchLift | notLead | stillSlung | partner | refusedLimit
  | joinLapsed | liftsActive | noResult | noReading | empty
deriving DecidableEq, Repr

/-- A plan warning (R166, R167). -/
inductive Warning where
  | portOrder (target : Nat) (dport : Int)
  | overLoad (comp : Nat) (planned maxLoad : Int)
deriving DecidableEq, Repr

/-- The finding of FIND SPACE (R165). -/
inductive Finding where
  | hit (comp : Nat) (remaining planned : Int)
  | closedMet (comp : Nat)
  | notFound
deriving DecidableEq, Repr

/-- What READ COMPARTMENT reports (R49); the kind is none for a TANK. -/
structure CompReport where
  kind : Option StowKind
  flag : OpenFlag
  capacity : Int
  load : Int
  planned : Int
  fill : Nat
  stowLength : Nat
  window : List Nat
deriving DecidableEq, Repr

/-- What READ DRAFTS reports (R157). -/
structure DraftReport where
  reading : Option DraftReading
  fresh : Bool
  limit : Int
  aftOffset : Int
  fwdOffset : Int
  corrected : Option (Int × Int)
deriving DecidableEq, Repr

/-- What IDENTIFY reports (R21). -/
structure Identity where
  vendor : Nat
  part : Nat
  revision : Nat
  mode : ServiceMode
  faultReason : Option FaultReason
  restartCause : RestartCause
  present : Bool
  checkWord : CheckWord
  version : Version
  routineMode : RoutineMode
  interval : Nat
deriving DecidableEq, Repr

/-- What READ ALARMS reports (R120). -/
structure AlarmReport where
  states : List (Bool × Nat)
  injected : List Bool
  sticky : List Nat
  effective : Option Action
  primed : Bool
  range : Nat × Nat
  lastJudged : Nat
deriving DecidableEq, Repr

/-- The fields of a reply after its status, as the rule of each request gives them. `layout` holds the payload bytes
after the status byte where section 8 of the ports chapter lays them out; the others are held as their fields (log 9). -/
inductive Body where
  | statusOnly
  | layout (bytes : List Byte)
  | identity (i : Identity)
  | lineStatus (counters : Counters) (role : PortRole) (rate : Rate)
  | attention (cause : Option Cause) (pending : List Cause)
  | attentionSet (unmasked : List Cause) (mode : LineMode) (pending : List Cause)
  | dataFault (reason : FaultReason) (kind index : Nat)
  | committed (checkWord : CheckWord)
  | version (v : Version)
  | entryRefused (entry : Nat) (v : Version)
  | warnings (list : List (Nat × List Warning)) (v : Version)
  | density (value : Int) (v : Version)
  | itemList (count : Nat) (tags : List Nat) (v : Version)
  | compartment (c : CompReport) (v : Version)
  | evaluateNow (raised inFlight : Bool) (seq : Nat)
  | prospect (h : ProspectHeader)
  | setting (effective : Option Action)
  | range (start stop : Nat) (effective : Option Action)
  | slotWas (alarm : Bool) (effective : Option Action)
  | alarms (a : AlarmReport)
  | criterion (s : Slot) (inRange : Bool)
  | finding (f : Finding) (compared : Nat) (v : Version)
  | pushed (depth : Nat) (baseLost : Bool) (dropped : Option Layer)
  | popped (layer : Layer) (depth : Nat) (baseLost : Bool)
  | cleared (count : Nat)
  | trials (depth : Nat) (baseLost : Bool) (layers : List (Layer × Bool)) (v : Version)
  | soundings (applied clamped skipped : Nat) (first : Option Nat) (v : Version)
  | freshness (limit : Int)
  | zeroed (aftOffset fwdOffset : Int) (seq : Nat) (ta tf aft fwd : Int)
  | drafts (d : DraftReport) (v : Version)
  | checkReport (r : CheckReport)
  | landed (outcome : OutcomeCode) (final : Goal) (v : Version)
  | liftRecord (r : LiftRecord) (v : Version)
deriving DecidableEq, Repr

/-- A status and the fields that follow it. -/
structure Answer where
  status : Status
  body : Body
deriving DecidableEq, Repr

/-- A reply telegram (R178): the request's kind plus 128, the request's tag, and the payload. -/
structure Reply where
  kind : Byte
  tag : Byte
  answer : Answer
deriving DecidableEq, Repr

/-- A reply held by a transmitter, with the mark of the outstanding request it answers; none for a BUSY reply of
R184, which answers no outstanding request. -/
structure TxEntry where
  reply : Reply
  answers : Option Nat
deriving DecidableEq, Repr

/-- The state of one port (R180 to R184). The head of `tx` is the reply being sent (log 10). -/
structure PortState where
  rx : Receiver
  outstanding : Option Caller
  deferred : Option Caller
  tx : List TxEntry
  counters : Counters
  nextMark : Nat
deriving DecidableEq, Repr

/-- The attention state of one port (R188, R189, R190). `unmasked` lists the causes whose mask entry is UNMASKED. -/
structure AttnPort where
  pending : List Cause
  unmasked : List Cause
  mode : LineMode
  active : Bool
deriving DecidableEq, Repr

/-! ### The whole part -/

/-- The state of the part, block by block, and the queue of commands that wait, first in, first out. -/
structure State where
  ship : ShipStore
  cond : Condition
  eval : EvalUnit
  mon : Monitor
  lines : Lines
  lifts : LiftUnit
  tanks : TankUnit
  trials : Trials
  ports : PerPort PortState
  rate : Rate
  attn : PerPort AttnPort
  pending : List Instr
deriving DecidableEq, Repr

/-- Why a step stops with a fault. -/
inductive Fault where
  /-- Raised by ROUTINE_COMPLETION, LIFT_CHECK_COMPLETION and PROSPECT_COMPLETION when a divisor that R77 lists is not
  positive under the stored image and the capture record. No image that CLOSE DATA accepts gives one. Safe: the model
  stops where the manual gives no figure set (log 24). -/
  | divisorNotPositive
deriving DecidableEq, Repr

/-- Why a command is refused by the model. -/
inductive Refusal where
  /-- Raised by `exec` for a command that has no meaning yet; no arm of this model answers with it. Safe. -/
  | notModelled (mnemonic : String)
deriving DecidableEq, Repr

/-! ### Values after a restart -/

/-- An image with no record (R1, R10). -/
def Image.blank : Image := ⟨none, [], [], [], [], [], none⟩

/-- The settings of a slot that holds NONE (R7, R103). -/
def Settings.unused : Settings := ⟨.none, 0, 0, 1, .note⟩

/-- A slot that holds NONE, CLEAR with counter 0 and no injected value (R103). -/
def Slot.unused : Slot := ⟨.unused, false, 0, none⟩

/-- The sixteen slots after a COLD restart (R19). -/
def Slot.allNone : List Slot := List.replicate Config.slotCount Slot.unused

/-- An IDLE lift record with no check report (R149). -/
def LiftRecord.idle : LiftRecord := ⟨.idle, none, none, false, none, none⟩

/-- A compartment that is OPEN and empty. -/
def CompState.empty : CompState := ⟨.opened, 0, []⟩

/-- All counters 0 (R20). -/
def Counters.zero : Counters := ⟨0, 0, 0, 0, 0, 0, 0⟩

/-- A port after a restart, whose next request takes mark `n` (R187, log 11). -/
def PortState.fresh (n : Nat) : PortState := ⟨.waiting, none, none, [], .zero, n⟩

/-- The attention state of a port after a restart (R192). -/
def AttnPort.fresh : AttnPort := ⟨[], [], .level, false⟩

/-- One value at every port. -/
def PerPort.all {α : Type} (a : α) : PerPort α := ⟨a, a, a, a⟩

/-- One value at both cranes. -/
def PerCrane.both {α : Type} (a : α) : PerCrane α := ⟨a, a⟩

/-- The part right after the COLD restart of a first power-up: R19, R20, R122, R149, R187 and R192 give every value
but those of the image store (log 1), the sampled straps (log 16) and the model's own counts (logs 11 and 15). -/
def State.reset : State where
  ship := ⟨.blank, false, 0, .blank, .verify, none, .cold, true, true, none⟩
  cond := ⟨[], [], 1025, 0, []⟩
  eval := ⟨none, none, 0, none, false, none, none, none, none, 0, none, 0, .continuous, 5, none⟩
  mon := ⟨Slot.allNone, 0, 0, .all [], false, none, 0⟩
  lines := ⟨false, false, false⟩
  lifts := ⟨.both .idle, .both none, .both none⟩
  tanks := ⟨[], none, 0, 0⟩
  trials := ⟨[], false⟩
  ports := .all (.fresh 0)
  rate := .b38400
  attn := .all .fresh
  pending := []

end Sys2Proof.Machine
end

