-- ==== Sys2Proof/Machine/Tables.lean ====
section
/-!
DEFINITION. Reading and writing tables, per-port and per-crane values, and the canonical sets of causes and slots.
-/

namespace Sys2Proof.Machine

open Sys2Proof

/-! ### Tables with strictly rising keys -/

/-- The entry at key `k`, if there is one. -/
def Table.find {α : Type} (k : Nat) : Table α → Option α
  | [] => none
  | (j, v) :: r => if j = k then some v else Table.find k r

/-- The table with `v` at key `k`; an entry already there is replaced. -/
def Table.put {α : Type} (k : Nat) (v : α) : Table α → Table α
  | [] => [(k, v)]
  | (j, w) :: r => if k < j then (k, v) :: (j, w) :: r else if j = k then (k, v) :: r else (j, w) :: Table.put k v r

/-- The table without an entry at key `k`. -/
def Table.drop {α : Type} (k : Nat) (t : Table α) : Table α := t.filter (fun e => e.1 != k)

/-- The table with every value replaced by `f key value`. -/
def Table.mapVals {α β : Type} (f : Nat → α → β) (t : Table α) : Table β := t.map (fun e => (e.1, f e.1 e.2))

/-- The table with the entry at `k`, if there is one, replaced by `f` of it. -/
def Table.adjust {α : Type} (k : Nat) (f : α → α) (t : Table α) : Table α :=
  t.map (fun e => if e.1 = k then (e.1, f e.2) else e)

/-- The keys of a table, in rising order. -/
def Table.keys {α : Type} (t : Table α) : List Nat := t.map Prod.fst

/-- The canonical form: the keys strictly rise. -/
abbrev Table.Rising {α : Type} (t : Table α) : Prop := t.keys.Pairwise (· < ·)

/-- The value at `k` in a table whose unlisted keys hold `d`. -/
def Table.value {α : Type} (d : α) (k : Nat) (t : Table α) : α := (t.find k).getD d

/-- Sets the value at `k` in a table whose unlisted keys hold `d`: the value `d` is stored by no entry. -/
def Table.store {α : Type} [DecidableEq α] (d : α) (k : Nat) (v : α) (t : Table α) : Table α :=
  if v = d then t.drop k else t.put k v

/-- The canonical form of a table whose unlisted keys hold `d`: rising keys and no entry equal to `d`. -/
abbrev Table.Canonical {α : Type} (d : α) (t : Table α) : Prop := t.Rising ∧ ∀ e ∈ t, e.2 ≠ d

/-! ### Per port and per crane -/

/-- The value of one port. -/
def PerPort.get {α : Type} (m : PerPort α) : Port → α
  | .portP => m.p
  | .portB => m.b
  | .portC1 => m.c1
  | .portC2 => m.c2

/-- The values with one port's replaced. -/
def PerPort.set {α : Type} (m : PerPort α) (p : Port) (a : α) : PerPort α :=
  match p with
  | .portP => { m with p := a }
  | .portB => { m with b := a }
  | .portC1 => { m with c1 := a }
  | .portC2 => { m with c2 := a }

/-- The values with one port's changed by `f`. -/
def PerPort.modify {α : Type} (m : PerPort α) (p : Port) (f : α → α) : PerPort α := m.set p (f (m.get p))

/-- The values with every port's changed by `f`. -/
def PerPort.map {α β : Type} (f : α → β) (m : PerPort α) : PerPort β := ⟨f m.p, f m.b, f m.c1, f m.c2⟩

/-- The value of one crane port. -/
def PerCrane.get {α : Type} (m : PerCrane α) : Crane → α
  | .crane1 => m.c1
  | .crane2 => m.c2

/-- The values with one crane port's replaced. -/
def PerCrane.set {α : Type} (m : PerCrane α) (c : Crane) (a : α) : PerCrane α :=
  match c with
  | .crane1 => { m with c1 := a }
  | .crane2 => { m with c2 := a }

/-- The values with one crane port's changed by `f`. -/
def PerCrane.modify {α : Type} (m : PerCrane α) (c : Crane) (f : α → α) : PerCrane α := m.set c (f (m.get c))

/-- The values with both changed by `f`. -/
def PerCrane.map {α β : Type} (f : α → β) (m : PerCrane α) : PerCrane β := ⟨f m.c1, f m.c2⟩

/-- The other crane. -/
def otherCrane : Crane → Crane
  | .crane1 => .crane2
  | .crane2 => .crane1

/-- The port of a crane. -/
def cranePort : Crane → Port
  | .crane1 => .portC1
  | .crane2 => .portC2

/-- The crane of a port; none for P and B. -/
def craneOf : Port → Option Crane
  | .portC1 => some .crane1
  | .portC2 => some .crane2
  | _ => none

/-- The role of a port, fixed by the wiring (R177). -/
def portRole : Port → PortRole
  | .portP => .planning
  | .portB => .ballast
  | .portC1 => .crane
  | .portC2 => .crane

/-! ### Sets in canonical form -/

/-- The seven causes in priority order (R188). -/
def allCauses : List Cause :=
  [.actionRaised, .outcomeReady, .silentLift, .actionCleared, .serviceChange, .newResult, .lineError]

/-- A set of causes with one more; the list stays in priority order without duplicates (R188). -/
def causeInsert (c : Cause) (l : List Cause) : List Cause := allCauses.filter (fun x => x == c || l.contains x)

/-- A set of causes with one less. -/
def causeRemove (c : Cause) (l : List Cause) : List Cause := l.filter (fun x => x != c)

/-- The union of two sets of slot indices, in rising order without duplicates (R120). -/
def slotUnion (a b : List Nat) : List Nat := (List.range Config.slotCount).filter (fun i => a.contains i || b.contains i)

/-! ### The named updates of the state -/

/-- The state with another ship data store. -/
def State.withShip (s : State) (x : ShipStore) : State := { s with ship := x }

/-- The state with another condition store. -/
def State.withCond (s : State) (x : Condition) : State := { s with cond := x }

/-- The state with another evaluation unit. -/
def State.withEval (s : State) (x : EvalUnit) : State := { s with eval := x }

/-- The state with another limit monitor. -/
def State.withMon (s : State) (x : Monitor) : State := { s with mon := x }

/-- The state with other output lines. -/
def State.withLines (s : State) (x : Lines) : State := { s with lines := x }

/-- The state with another lift clearance unit. -/
def State.withLifts (s : State) (x : LiftUnit) : State := { s with lifts := x }

/-- The state with another tank and draft unit. -/
def State.withTanks (s : State) (x : TankUnit) : State := { s with tanks := x }

/-- The state with another trial stack. -/
def State.withTrials (s : State) (x : Trials) : State := { s with trials := x }

/-- The state with another port interface. -/
def State.withPorts (s : State) (x : PerPort PortState) : State := { s with ports := x }

/-- The state with another rate in force. -/
def State.withRate (s : State) (x : Rate) : State := { s with rate := x }

/-- The state with another attention unit. -/
def State.withAttn (s : State) (x : PerPort AttnPort) : State := { s with attn := x }

/-- The state with another queue. -/
def State.withPending (s : State) (x : List Instr) : State := { s with pending := x }

end Sys2Proof.Machine
end

