-- ==== Sys2Proof/Machine/Numbers.lean ====
section
/-!
DEFINITION. Whole numbers and bytes: the rounding rule (R51), bringing a number into a span, the 32-bit field (R52),
the byte forms of section 8 of the ports chapter, and the CRC-16 (R9, R98, R179).
-/

namespace Sys2Proof.Machine

open Sys2Proof

/-- A rounded quotient, to nearest with ties away from zero, for a positive divisor (R51): twice the magnitude of the
numerator plus the divisor, divided by twice the divisor, with the numerator's sign. -/
def roundDiv (n d : Int) : Int :=
  let q := (2 * (n.natAbs : Int) + d) / (2 * d)
  if n < 0 then -q else q

/-- A value brought into lo..hi: set to the nearer end when it lies outside (R143). -/
def bringInto (lo hi v : Int) : Int := if v < lo then lo else if hi < v then hi else v

/-- Whether a value lies in lo..hi, both ends included. -/
def within (lo hi v : Int) : Bool := decide (lo ≤ v) && decide (v ≤ hi)

/-- A figure as its signed 32-bit field holds it (R52). -/
def hold32 (v : Int) : Int := bringInto (-2147483648) 2147483647 v

/-- The magnitude of a whole number. -/
def magnitude (v : Int) : Int := (v.natAbs : Int)

/-! ### Bytes, high byte first (R178) -/

/-- One byte of a number. -/
def byteOf (v : Int) : Byte := BitVec.ofInt 8 v

/-- Two bytes, high byte first. -/
def bytes2 (v : Int) : List Byte := [byteOf (v / 256), byteOf v]

/-- Four bytes, high byte first. -/
def bytes4 (v : Int) : List Byte := [byteOf (v / 16777216), byteOf (v / 65536), byteOf (v / 256), byteOf v]

/-- A byte whose bits, from bit 7 down, are those of the list. -/
def flagByte (bits : List Bool) : Byte := byteOf (bits.foldl (fun (a : Int) b => 2 * a + (if b then 1 else 0)) 0)

/-- The number two bytes spell, high byte first. -/
def ofBytes2 (hi lo : Byte) : Nat := hi.toNat * 256 + lo.toNat

/-! ### The check (R179) -/

/-- One bit step of the CRC: shift left, and fold the polynomial 1021h in when a one falls out. -/
def crcBit (r : Nat) : Nat := if 32768 ≤ r then ((2 * r) % 65536) ^^^ 4129 else 2 * r

/-- The CRC register after one more character. -/
def crcByte (r : Nat) (b : Byte) : Nat :=
  crcBit (crcBit (crcBit (crcBit (crcBit (crcBit (crcBit (crcBit (r ^^^ (b.toNat * 256)))))))))

/-- The CRC-16 of a message: polynomial 1021h, initial value FFFFh, no reflection and no final inversion (R179). -/
def crc16 (bytes : List Byte) : CheckWord := BitVec.ofNat 16 (bytes.foldl crcByte 65535)

/-- A check word as it is sent, high byte first (R179). -/
def crcBytes (w : CheckWord) : List Byte := bytes2 (w.toNat : Int)

end Sys2Proof.Machine
end

