-- ==== Sys2Proof/Machine/ImageStore.lean ====
section
/-!
DEFINITION. The ship data image: what a WRITE DATA record may be (R12), the tests of CLOSE DATA in their order (R13),
the canonical serialization and its check word (R9), and the slots, range and timers an image gives (R2, R7, R8).
-/

namespace Sys2Proof.Machine

open Sys2Proof

/-! ### Records as WRITE DATA carries them (R12) -/

/-- The greatest index of each kind (R1). -/
def maxIndex : Nat → Option Nat
  | 1 => some 0
  | 2 => some 15
  | 3 => some 63
  | 4 => some 15
  | 5 => some 95
  | 6 => some 15
  | 7 => some 0
  | _ => none

/-- A PARTICULARS record from its fields (R2). -/
def particularsOf : List Int → Option Particulars
  | [lbp, start, stop] => some ⟨lbp, start, stop⟩
  | _ => none

/-- A LIGHTSHIP BLOCK record from its fields (R3). -/
def blockOf : List Int → Option LightshipBlock
  | [m, xa, xf, y, z] => some ⟨m, xa, xf, y, z⟩
  | _ => none

/-- A HYDRO ROW record from its fields (R4). -/
def rowOf : List Int → Option HydroRow
  | [t, d, lcb, lcf, km, mtc, k1, k2, k3, k4, k5, k6] => some ⟨t, d, lcb, lcf, km, mtc, k1, k2, k3, k4, k5, k6⟩
  | _ => none

/-- A STATION record from its fields (R5). -/
def stationOf : List Int → Option Station
  | [x, f, k, l, sp, bp] => some ⟨x, f, k, l, sp, bp⟩
  | _ => none

/-- The kind number of a stow compartment's kind (R6). -/
def stowNumber : StowKind → Nat
  | .hold => 1
  | .tween => 2
  | .deck => 3

/-- A COMPARTMENT record from its fields: 8 for HOLD, TWEEN and DECK, 11 for TANK (R6). -/
def compOfFields : List Int → Option CompRecord
  | [k, xa, xf, ya, yb, za, zb, m] =>
    if k = 1 then some ⟨xa, xf, ya, yb, za, zb, .stow .hold m⟩
    else if k = 2 then some ⟨xa, xf, ya, yb, za, zb, .stow .tween m⟩
    else if k = 3 then some ⟨xa, xf, ya, yb, za, zb, .stow .deck m⟩
    else none
  | [k, xa, xf, ya, yb, za, zb, m, cx, cy, fsm] =>
    if k = 4 then some ⟨xa, xf, ya, yb, za, zb, .tank m cx cy fsm⟩ else none
  | _ => none

/-- A CRITERION DEFAULT record from its fields (R7). -/
def criterionOf : List Int → Option CriterionRecord
  | [code, limit, hyst, n, action] => some ⟨code, limit, hyst, n, action⟩
  | _ => none

/-- A TIMERS record from its fields (R8). -/
def timersOf : List Int → Option Timers
  | [a, b, c, d] => some ⟨a, b, c, d⟩
  | _ => none

/-- An image with one more record, or none where R12 refuses the record: an unknown kind, an index outside the kind's
range, or fields that do not fit the kind. A record already at that kind and index is replaced. -/
def Image.write (img : Image) (kind index : Nat) (fields : List Int) : Option Image :=
  match maxIndex kind with
  | none => none
  | some top =>
    if top < index then none
    else match kind with
      | 1 => (particularsOf fields).map (fun r => { img with particulars := some r })
      | 2 => (blockOf fields).map (fun r => { img with blocks := img.blocks.put index r })
      | 3 => (rowOf fields).map (fun r => { img with rows := img.rows.put index r })
      | 4 => (stationOf fields).map (fun r => { img with stations := img.stations.put index r })
      | 5 => (compOfFields fields).map (fun r => { img with comps := img.comps.put index r })
      | 6 => (criterionOf fields).map (fun r => { img with criteria := img.criteria.put index r })
      | _ => (timersOf fields).map (fun r => { img with timers := some r })

/-! ### The canonical serialization (R9) -/

/-- The fields of a PARTICULARS record, in the order of its table. -/
def Particulars.fields (r : Particulars) : List Int := [r.lbp, r.rangeStart, r.rangeStop]

/-- The fields of a LIGHTSHIP BLOCK record. -/
def LightshipBlock.fields (r : LightshipBlock) : List Int := [r.mass, r.xAft, r.xFore, r.y, r.z]

/-- The fields of a HYDRO ROW record. -/
def HydroRow.fields (r : HydroRow) : List Int :=
  [r.t, r.d, r.lcb, r.lcf, r.km, r.mtc, r.kn10, r.kn20, r.kn30, r.kn40, r.kn50, r.kn60]

/-- The fields of a STATION record. -/
def Station.fields (r : Station) : List Int := [r.x, r.f, r.k, r.l, r.sp, r.bp]

/-- The fields of a COMPARTMENT record. -/
def CompRecord.fields (r : CompRecord) : List Int :=
  match r.use with
  | .stow k m => [(stowNumber k : Int), r.xAft, r.xFore, r.yMin, r.yMax, r.zFloor, r.zTop, m]
  | .tank m cx cy fsm => [4, r.xAft, r.xFore, r.yMin, r.yMax, r.zFloor, r.zTop, m, cx, cy, fsm]

/-- The fields of a CRITERION DEFAULT record. -/
def CriterionRecord.fields (r : CriterionRecord) : List Int := [r.code, r.limit, r.hyst, r.n, r.action]

/-- The fields of a TIMERS record. -/
def Timers.fields (r : Timers) : List Int := [r.joinWindow, r.grantLapse, r.report, r.freshness]

/-- One record of the serialization: kind, index, and each field in four bytes (R9). -/
def recordBytes (kind index : Nat) (fields : List Int) : List Byte :=
  byteOf kind :: byteOf index :: fields.flatMap bytes4

/-- The records of one kind in ascending index order. -/
def tableBytes {α : Type} (kind : Nat) (fields : α → List Int) (t : Table α) : List Byte :=
  t.flatMap (fun e => recordBytes kind e.1 (fields e.2))

/-- The record at index 0 of a kind that has one record at most. -/
def optionBytes {α : Type} (kind : Nat) (fields : α → List Int) : Option α → List Byte
  | none => []
  | some r => recordBytes kind 0 (fields r)

/-- The canonical serialization: every record present in kind-number order and then index order (R9). -/
def Image.serialize (img : Image) : List Byte :=
  optionBytes 1 Particulars.fields img.particulars ++ tableBytes 2 LightshipBlock.fields img.blocks ++
  tableBytes 3 HydroRow.fields img.rows ++ tableBytes 4 Station.fields img.stations ++
  tableBytes 5 CompRecord.fields img.comps ++ tableBytes 6 CriterionRecord.fields img.criteria ++
  optionBytes 7 Timers.fields img.timers

/-- The image check word (R9). -/
def Image.check (img : Image) : CheckWord := crc16 img.serialize

/-! ### The tests of CLOSE DATA (R13) -/

/-- A failed test: the fault reason, the kind number and the index reported. -/
abbrev ImageFault := FaultReason × Nat × Nat

/-- Whether a PARTICULARS record lies in the ranges of R2. -/
def Particulars.ok (r : Particulars) : Bool :=
  within 2000 19000 r.lbp && within 0 15 r.rangeStart && within 0 15 r.rangeStop

/-- Whether a LIGHTSHIP BLOCK record lies in the ranges of R3. -/
def LightshipBlock.ok (r : LightshipBlock) : Bool :=
  within 0 1000000 r.mass && within (-500) 19500 r.xAft && within r.xAft 19500 r.xFore && within (-2500) 2500 r.y &&
  within 0 5000 r.z

/-- Whether a HYDRO ROW record lies in the ranges of R4. -/
def HydroRow.ok (lbp : Int) (r : HydroRow) : Bool :=
  within 0 5000 r.t && within 1 4000000 r.d && within (-500) 19500 r.lcb && within 0 lbp r.lcf &&
  within 0 10000 r.km && within 1 100000000 r.mtc &&
  [r.kn10, r.kn20, r.kn30, r.kn40, r.kn50, r.kn60].all (within (-2500) 10000)

/-- Whether a STATION record lies in the ranges of R5. -/
def Station.ok (lbp : Int) (r : Station) : Bool :=
  within 0 lbp r.x && within 0 10000 r.f && within (-10000) 10000 r.k && within 0 19500 r.l &&
  within 1 4000000 r.sp && within 1 400000000 r.bp

/-- Whether a COMPARTMENT record lies in the ranges of R6. -/
def CompRecord.ok (r : CompRecord) : Bool :=
  within (-500) 19499 r.xAft && within (r.xAft + 1) 19500 r.xFore && within (-2500) 2499 r.yMin &&
  within (r.yMin + 1) 2500 r.yMax && within 0 4999 r.zFloor && within (r.zFloor + 1) 5000 r.zTop &&
  match r.use with
  | .stow _ m => within 1 1000000 m
  | .tank m cx cy fsm =>
    within 1 1000000 m && within r.xAft r.xFore cx && within r.yMin r.yMax cy && within 0 100000000 fsm

/-- Whether a CRITERION DEFAULT record lies in the ranges of R7; with code NONE the other fields are not checked. -/
def CriterionRecord.ok (r : CriterionRecord) : Bool :=
  within 0 14 r.code &&
  (decide (r.code = 0) ||
    (within (-1000000) 1000000 r.limit && within 0 100000 r.hyst && within 1 8 r.n && within 0 3 r.action))

/-- Whether a TIMERS record lies in the ranges of R8. -/
def Timers.ok (r : Timers) : Bool :=
  within 2 30 r.joinWindow && within 10 600 r.grantLapse && within 2 60 r.report && within 5 120 r.freshness

/-- The lowest index, counted from `i`, that the rising keys leave out. -/
def lowestMissing (i : Nat) : List Nat → Nat
  | [] => i
  | k :: ks => if k = i then lowestMissing (i + 1) ks else i

/-- The count and gap test of a kind numbered without gaps: the lowest index at which a required record is missing. -/
def countFault {α : Type} (least : Nat) (t : Table α) : Option Nat :=
  let i := lowestMissing 0 t.keys
  if i = t.length ∧ least ≤ t.length then none else some i

/-- The index of the first record that fails a test of its own or does not exceed the record before it, in ascending
index order (log 18). -/
def orderFault {α : Type} (ok : α → Bool) (exceeds : α → α → Bool) : Option α → Table α → Option Nat
  | _, [] => none
  | before, (i, r) :: rest =>
    if ok r && (match before with | none => true | some q => exceeds r q) then orderFault ok exceeds (some r) rest
    else some i

/-- The first test that fails within a kind numbered without gaps. -/
def kindFault {α : Type} (reason : FaultReason) (kind least : Nat) (ok : α → Bool) (exceeds : α → α → Bool)
    (t : Table α) : Option ImageFault :=
  match countFault least t with
  | some i => some (reason, kind, i)
  | none => (orderFault ok exceeds none t).map (fun i => (reason, kind, i))

/-- The sum of the lightship block masses (R3). -/
def Image.lightshipMass (img : Image) : Int := (img.blocks.map (fun e => e.2.mass)).sum

/-- Test 1 of R13. -/
def particularsFault (img : Image) : Option ImageFault :=
  match img.particulars with
  | none => some (.particulars, 1, 0)
  | some r => if r.ok then none else some (.particulars, 1, 0)

/-- Test 2 of R13. -/
def lightshipFault (img : Image) : Option ImageFault :=
  (kindFault .lightship 2 1 LightshipBlock.ok (fun _ _ => true) img.blocks).or
    (if img.lightshipMass = 0 then some (.lightship, 2, 0) else none)

/-- The LBP of an image (R2). -/
def Image.lbp (img : Image) : Int :=
  match img.particulars with
  | none => 0
  | some r => r.lbp

/-- Test 3 of R13: T and D both strictly increase (R4). -/
def hydroFault (img : Image) : Option ImageFault :=
  kindFault .hydrostatics 3 2 (HydroRow.ok img.lbp) (fun r q => decide (q.t < r.t) && decide (q.d < r.d)) img.rows

/-- Test 4 of R13: x strictly increases (R5). -/
def stationFault (img : Image) : Option ImageFault :=
  kindFault .stations 4 2 (Station.ok img.lbp) (fun r q => decide (q.x < r.x)) img.stations

/-- Test 5 of R13. -/
def compFault (img : Image) : Option ImageFault :=
  if img.comps.isEmpty then some (.compartments, 5, 0)
  else (orderFault CompRecord.ok (fun _ _ => true) none img.comps).map (fun i => (.compartments, 5, i))

/-- Test 6 of R13. -/
def criteriaFault (img : Image) : Option ImageFault :=
  (orderFault CriterionRecord.ok (fun _ _ => true) none img.criteria).map (fun i => (.criteria, 6, i))

/-- Test 7 of R13. -/
def timersFault (img : Image) : Option ImageFault :=
  match img.timers with
  | none => none
  | some r => if r.ok then none else some (.timers, 7, 0)

/-- The first of tests 1 to 7 of R13 that fails. -/
def Image.fault (img : Image) : Option ImageFault :=
  (particularsFault img).or ((lightshipFault img).or ((hydroFault img).or ((stationFault img).or
    ((compFault img).or ((criteriaFault img).or (timersFault img))))))

/-- The first of the eight tests of R13 that fails, against the expected check word. -/
def Image.closeFault (img : Image) (expected : CheckWord) : Option ImageFault :=
  img.fault.or (if img.check = expected then none else some (.checkMismatch, 0, 0))

/-! ### What an image gives the other blocks -/

/-- The criterion code of a number (R7). -/
def codeOfNumber (n : Int) : Code :=
  if n = 1 then .gmMin else if n = 2 then .area30Min else if n = 3 then .area40Min else if n = 4 then .gz30Min
  else if n = 5 then .gzAngleMin else if n = 6 then .heelMax else if n = 7 then .liftHeelMax else if n = 8 then .trimMax
  else if n = 9 then .draftMax else if n = 10 then .shearMax else if n = 11 then .bendMax else if n = 12 then .loadMax
  else if n = 13 then .draftAgreeMax else if n = 14 then .area3040Min else .none

/-- The action of a number (R7). -/
def actionOfNumber (n : Int) : Action :=
  if n = 1 then .hold else if n = 2 then .stopCranes else if n = 3 then .alarm else .note

/-- What a slot with code NONE holds for a setting of its record: the record's value where it lies in the range of R103,
and otherwise a free value of that range (log 35). -/
def unchecked (field : Nat) (lo hi v : Int) : Int :=
  if within lo hi v then v else bringInto lo hi (Config.unheldSetting field v)

/-- The settings that a CRITERION DEFAULT record gives its slot: its own fields (R7, R103). With code NONE the fields are
not checked by R13, and one outside its range of R103 cannot stand in a slot: what the slot then holds is free within the
range, the model's choice where R7 and R103 disagree (log 35, DESIGN CHOICE). -/
def settingsOfRecord (r : CriterionRecord) : Settings :=
  match codeOfNumber r.code with
  | .none => ⟨.none, unchecked 1 (-1000000) 1000000 r.limit, unchecked 2 0 100000 r.hyst, (unchecked 3 1 8 r.n).toNat,
              actionOfNumber (unchecked 4 0 3 r.action)⟩
  | c => ⟨c, r.limit, r.hyst, r.n.toNat, actionOfNumber r.action⟩

/-- The slot that a CRITERION DEFAULT record loads: its settings, CLEAR, with counter 0 and no injected value (R103). -/
def slotOfRecord (r : CriterionRecord) : Slot := ⟨settingsOfRecord r, false, 0, none⟩

/-- The sixteen slots loaded from an image, each CLEAR with counter 0 and no injected value (R103). -/
def Image.slots (img : Image) : List Slot :=
  (List.range Config.slotCount).map (fun i =>
    match img.criteria.find i with
    | none => Slot.unused
    | some r => slotOfRecord r)

/-- The default range of an image (R2). -/
def Image.range (img : Image) : Nat × Nat :=
  match img.particulars with
  | none => (0, 0)
  | some r => (r.rangeStart.toNat, r.rangeStop.toNat)

/-- The timer lengths in force: those of the TIMERS record, or the defaults of R8. -/
def Image.timerLengths (img : Image) : Timers := img.timers.getD ⟨10, 120, 10, 30⟩

/-- The number of stations in the image (R96). -/
def Image.stationCount (img : Image) : Nat := img.stations.length

/-- The record of a compartment, where the image has one (R1). -/
def Image.comp (img : Image) (n : Nat) : Option CompRecord := img.comps.find n

/-- The stow kind and max load of a HOLD, TWEEN or DECK compartment. -/
def Image.stowComp (img : Image) (n : Nat) : Option (CompRecord × StowKind × Int) :=
  match img.comp n with
  | none => none
  | some r =>
    match r.use with
    | .stow k m => some (r, k, m)
    | .tank .. => none

/-- Whether a compartment number names a TANK of the image. -/
def Image.isTank (img : Image) (n : Nat) : Bool :=
  match img.comp n with
  | none => false
  | some r =>
    match r.use with
    | .stow .. => false
    | .tank .. => true

end Sys2Proof.Machine
end

