-- ==== Sys2Proof/Machine/Operands.lean ====
section
/-!
DEFINITION. What the operands of the commands mean against the state: coordinates, items named by lift records,
placements and the tests of their uses (R26, R27), intended compartments and planned loads (R33), and tank contents
(R153, R154).
-/

namespace Sys2Proof.Machine

open Sys2Proof

/-! ### Coordinates (00 section 5.3, R126) -/

/-- Whether a hook position lies in the ranges of the opening file. -/
def pointOk (q : Point) : Bool := within (-500) 19500 q.x && within (-2500) 2500 q.y && within 0 5000 q.z

/-- Whether the coordinates of a placement lie in the ranges of the opening file. The compartment number is no coordinate:
a number above 95, outside the field range of R26, leaves the placement well formed here, so that a LIFT REQUEST or a PLAN
MOVE with it is answered BAD PLACEMENT and a LANDED is clamped, not BAD ARGUMENT. R126 speaks of a placement whose fields are
in range and R141 of what is no placement; that the number counts for neither is the model's choice (log 37, DESIGN CHOICE).
PUSH TRIAL follows R169, whose test 1 names the coordinates alone. -/
def placementOk (pl : Placement) : Bool :=
  within (-500) 19500 pl.xAft && within (-500) 19500 pl.xFore && within (-2500) 2500 pl.y && within 0 5000 pl.z

/-- Whether the coordinates of a destination or landing lie in the ranges; ASHORE has none. -/
def goalOk : Goal → Bool
  | .place pl => placementOk pl
  | .ashore => true

/-! ### Items and lift records (R25) -/

/-- The record of an item, where the table holds its tag. -/
def State.item (s : State) (tag : Nat) : Option ItemRecord := s.cond.items.find tag

/-- Whether a record is in JOINING, CHECKING, GRANTED or SLUNG. -/
def liftActive (r : LiftRecord) : Bool :=
  match r.state with
  | .idle | .done => false
  | .joining | .checking | .granted | .slung => true

/-- Whether a record names the item (R25). -/
def recordNames (r : LiftRecord) (tag : Nat) : Bool :=
  liftActive r && (match r.lift with | none => false | some l => l.tag == tag)

/-- Whether some lift record names the item. -/
def State.named (s : State) (tag : Nat) : Bool :=
  recordNames s.lifts.records.c1 tag || recordNames s.lifts.records.c2 tag

/-- Whether a placement rests on the item. -/
def restsOn (pl : Placement) (tag : Nat) : Bool := pl.restsOn == some tag

/-- Whether a goal is a placement that rests on the item. -/
def goalRestsOn (g : Goal) (tag : Nat) : Bool :=
  match g with
  | .place pl => restsOn pl tag
  | .ashore => false

/-- Whether the destination of an active record rests on the item (R44, R127). -/
def recordRestsOn (r : LiftRecord) (tag : Nat) : Bool :=
  liftActive r && (match r.lift with | none => false | some l => goalRestsOn l.dest tag)

/-- Whether an item is ABOARD with its actual placement resting on the other item. -/
def itemRestsOn (it : ItemRecord) (tag : Nat) : Bool :=
  it.state == .aboard && (match it.actual with | none => false | some pl => restsOn pl tag)

/-- Whether the item is overstowed: an ABOARD item or the destination of an active lift rests on it (R44, R127). -/
def State.overstowed (s : State) (tag : Nat) : Bool :=
  s.cond.items.any (fun e => itemRestsOn e.2 tag) || recordRestsOn s.lifts.records.c1 tag ||
  recordRestsOn s.lifts.records.c2 tag

/-- Whether either lift record is in JOINING, CHECKING, GRANTED or SLUNG (R47). -/
def State.liftsActive (s : State) : Bool := liftActive s.lifts.records.c1 || liftActive s.lifts.records.c2

/-- Whether any item is SLUNG. -/
def State.anySlung (s : State) : Bool := s.cond.items.any (fun e => e.2.state == .slung)

/-- Whether either record is SILENT. -/
def State.anySilent (s : State) : Bool := s.lifts.records.c1.silent || s.lifts.records.c2.silent

/-! ### Compartments -/

/-- The live state of a compartment. -/
def State.comp (s : State) (n : Nat) : CompState := s.cond.comps.value .empty n

/-- The fill of a tank (R150). -/
def State.fill (s : State) (n : Nat) : Nat := s.tanks.fills.value 0 n

/-! ### Placements (R26, R27) -/

/-- The uses of a placement (R27). -/
inductive PlacementUse where
  | newPlan | declaration | liftDest | landing
deriving DecidableEq, Repr

/-- Whether a placement is geometrically sound (R26). -/
def geometrySound (img : Image) (pl : Placement) : Bool :=
  match img.stowComp pl.comp with
  | none => false
  | some (r, _, _) =>
    decide (pl.xAft ≤ pl.xFore) && decide (pl.xFore - pl.xAft ≤ 4000) &&
    decide (r.xAft ≤ pl.xAft) && decide (pl.xFore ≤ r.xFore) &&
    within r.yMin r.yMax pl.y && within r.zFloor r.zTop pl.z

/-- Whether an item is ABOARD in the compartment. -/
def aboardIn (it : ItemRecord) (comp : Nat) : Bool :=
  it.state == .aboard && (match it.actual with | none => false | some pl => pl.comp == comp)

/-- Whether an item's planned placement names the compartment. -/
def plannedIn (it : ItemRecord) (comp : Nat) : Bool :=
  match it.plan with
  | some (.place pl) => pl.comp == comp
  | _ => false

/-- The rests-on tests of R27 for the item `tag`: an absent rests-on passes; otherwise the target is not the item
itself, exists and is ABOARD in the compartment (for a new plan, or is planned there), and, but for a new plan, is
named by no lift record. -/
def restsOnOk (s : State) (u : PlacementUse) (tag : Nat) (pl : Placement) : Bool :=
  match pl.restsOn with
  | none => true
  | some r =>
    r != tag &&
    (match s.item r with
     | none => false
     | some it => aboardIn it pl.comp || (u == .newPlan && plannedIn it pl.comp)) &&
    (u == .newPlan || !s.named r)

/-- The open test of R27, required of new plans and lift destinations. -/
def openOk (s : State) (u : PlacementUse) (pl : Placement) : Bool :=
  match u with
  | .newPlan | .liftDest => (s.comp pl.comp).flag == .opened
  | .declaration | .landing => true

/-- Whether a placement of the item `tag` passes every test of its use (R27). -/
def placementValid (s : State) (u : PlacementUse) (tag : Nat) (pl : Placement) : Bool :=
  geometrySound s.ship.image pl && openOk s u pl && restsOnOk s u tag pl

/-! ### Planned load (R33) -/

/-- The compartment of a goal; none for ASHORE. -/
def goalComp : Goal → Option Nat
  | .place pl => some pl.comp
  | .ashore => none

/-- The destination of the SLUNG record that names the item, where there is one. -/
def State.slungDest (s : State) (tag : Nat) : Option Goal :=
  let find (r : LiftRecord) : Option Goal :=
    if r.state == .slung && recordNames r tag then r.lift.map Lift.dest else none
  (find s.lifts.records.c1).or (find s.lifts.records.c2)

/-- The intended compartment of an item (R33). -/
def State.intended (s : State) (tag : Nat) (it : ItemRecord) : Option Nat :=
  match it.plan with
  | some g => goalComp g
  | none =>
    match it.state with
    | .aboard => it.actual.map Placement.comp
    | .slung => (s.slungDest tag).bind goalComp
    | .pending => none

/-- The planned load of a compartment (R33). -/
def State.plannedLoad (s : State) (n : Nat) : Int :=
  (s.cond.items.map (fun e => if s.intended e.1 e.2 = some n then e.2.mass else 0)).sum

/-! ### Tank content (R153, R154) -/

/-- The mass of a tank's content at a fill. -/
def tankMass (fullMass : Int) (fill : Nat) : Int := roundDiv (fullMass * fill) 1000

/-- The height of a tank's content at a fill. -/
def tankHeight (zFloor zTop : Int) (fill : Nat) : Int := zFloor + roundDiv ((zTop - zFloor) * fill) 2000

/-- Whether a tank is slack at a fill. -/
def slack (fill : Nat) : Bool := decide (20 < fill) && decide (fill < 980)

/-! ### Draft reading (R156) -/

/-- The draft freshness limit in force. -/
def State.freshLimit (s : State) : Int := s.ship.image.timerLengths.freshness

/-- Whether a reading is fresh: its age is at most the limit. -/
def readingFresh (limit : Int) (r : DraftReading) : Bool := decide ((r.age : Int) ≤ limit)

/-- The held reading, where there is one and it is fresh. -/
def State.freshReading (s : State) : Option DraftReading := s.tanks.reading.filter (readingFresh s.freshLimit)

/-- A timer length of the image in whole seconds. -/
def seconds (v : Int) : Nat := v.toNat

/-! ### Criterion codes, ranges and indices -/

/-- Whether an index names one of the sixteen slots. -/
def slotIndexOk (i : Nat) : Bool := decide (i < Config.slotCount)

/-- The effective range: start..stop, or the single slot at the start when the start exceeds the stop (R106). -/
def effectiveRange (start stop : Nat) : Nat × Nat := if start ≤ stop then (start, stop) else (start, start)

/-- Whether a slot lies in the effective range. -/
def inRange (start stop i : Nat) : Bool :=
  decide ((effectiveRange start stop).1 ≤ i) && decide (i ≤ (effectiveRange start stop).2)

/-- Whether a part of a result exists for a station count (R99): parts 3, 4 and 5 begin at stations 0, 6 and 12. -/
def partExists (stations part : Nat) : Bool :=
  match part with
  | 0 | 1 | 2 => true
  | 3 => decide (0 < stations)
  | 4 => decide (6 < stations)
  | 5 => decide (12 < stations)
  | _ => false

/-- Whether a request kind may come from a role (section 8.2 of the ports chapter). -/
def roleAllows (k : ReqKind) (r : PortRole) : Bool :=
  match k with
  | .identify | .readLineStatus | .attentionQuery | .setAttention | .readItem | .listItems | .readCompartment
  | .readResult | .readProspect | .readAlarms | .readCriterion | .readTrials | .readDrafts | .readLift => true
  | .openData | .writeData | .closeData | .addItems | .amendItem | .planMove | .cancelPlan | .removeItem
  | .setCompartment | .clearCondition | .setDensity | .evaluateNow | .setEvaluation | .evaluateProspect
  | .setCriterion | .setRange | .resetSlot | .inject | .withdraw | .findSpace | .pushTrial | .popTrial
  | .clearTrials => r == .planning
  | .soundings | .drafts | .draftZero => r == .ballast
  | .liftRequest | .joinLift | .hookOn | .hookAt | .landed | .abortLift | .collectOutcome => r == .crane

/-- The number of a request kind (section 8.2 of the ports chapter). -/
def kindByte : ReqKind → Byte
  | .identify => 0x01 | .readLineStatus => 0x02 | .attentionQuery => 0x03 | .setAttention => 0x04
  | .openData => 0x08 | .writeData => 0x09 | .closeData => 0x0A
  | .addItems => 0x10 | .amendItem => 0x11 | .planMove => 0x12 | .cancelPlan => 0x13 | .removeItem => 0x14
  | .setCompartment => 0x15 | .clearCondition => 0x16 | .setDensity => 0x17
  | .readItem => 0x18 | .listItems => 0x19 | .readCompartment => 0x1A
  | .evaluateNow => 0x20 | .setEvaluation => 0x21 | .evaluateProspect => 0x22 | .readResult => 0x23
  | .readProspect => 0x24
  | .setCriterion => 0x28 | .setRange => 0x29 | .resetSlot => 0x2A | .inject => 0x2B | .withdraw => 0x2C
  | .readAlarms => 0x2D | .readCriterion => 0x2E
  | .findSpace => 0x30 | .pushTrial => 0x31 | .popTrial => 0x32 | .clearTrials => 0x33 | .readTrials => 0x34
  | .soundings => 0x38 | .drafts => 0x39 | .draftZero => 0x3A | .readDrafts => 0x3B
  | .liftRequest => 0x40 | .joinLift => 0x41 | .hookOn => 0x42 | .hookAt => 0x43 | .landed => 0x44
  | .abortLift => 0x45 | .collectOutcome => 0x46 | .readLift => 0x47

/-- Every request kind, in number order. -/
def allKinds : List ReqKind :=
  [.identify, .readLineStatus, .attentionQuery, .setAttention, .openData, .writeData, .closeData, .addItems,
   .amendItem, .planMove, .cancelPlan, .removeItem, .setCompartment, .clearCondition, .setDensity, .readItem,
   .listItems, .readCompartment, .evaluateNow, .setEvaluation, .evaluateProspect, .readResult, .readProspect,
   .setCriterion, .setRange, .resetSlot, .inject, .withdraw, .readAlarms, .readCriterion, .findSpace, .pushTrial,
   .popTrial, .clearTrials, .readTrials, .soundings, .drafts, .draftZero, .readDrafts, .liftRequest, .joinLift,
   .hookOn, .hookAt, .landed, .abortLift, .collectOutcome, .readLift]

/-- The request kind with a number; none for a number outside the table, which is answered UNKNOWN (R182). -/
def kindOfByte (b : Byte) : Option ReqKind := allKinds.find? (fun k => kindByte k == b)

/-- How a service mode answers a request kind, or none where it accepts it (R15). -/
def modeAnswer (m : ServiceMode) (k : ReqKind) : Option Status :=
  match m, k with
  | .verify, .identify => none
  | .verify, _ => some .notReady
  | .inService, .writeData => some .notReady
  | .inService, .closeData => some .notReady
  | .inService, _ => none
  | _, .identify => none
  | _, .readLineStatus => none
  | _, .attentionQuery => none
  | _, .setAttention => none
  | _, .openData => none
  | .dataLoading, .writeData => none
  | .dataLoading, .closeData => none
  | _, .writeData => some .notReady
  | _, .closeData => some .notReady
  | _, _ => some .notInService

end Sys2Proof.Machine
end

