-- ==== Sys2Proof/Machine/Flags.lean ====
section
/-!
DEFINITION. The verdicts, alarm states and output levels: which figure a criterion compares and when it fails (R104),
to which passes it applies (R105), judging (R107, R108), the plain comparison (R115), the effective action (R110), the
permit and alarm lines (R111, R112) and the attention line (R190).
-/

namespace Sys2Proof.Machine

open Sys2Proof

/-! ### Comparing a figure with a limit -/

/-- The five kinds of pass (R105). -/
inductive PassKind where
  | r | rl | lp | lf | p
deriving DecidableEq, Repr

/-- Whether a code applies to a kind of pass (R105); NONE applies to none. -/
def applies (c : Code) (k : PassKind) : Bool :=
  match c with
  | .none => false
  | .gmMin | .draftMax | .shearMax | .bendMax => true
  | .area30Min | .area40Min | .area3040Min | .gz30Min | .gzAngleMin | .trimMax | .loadMax => k != .lp
  | .heelMax => k == .r || k == .lf || k == .p
  | .liftHeelMax => k == .rl || k == .lp
  | .draftAgreeMax => k == .r

/-- The figure a code compares (R104); `dis` is the draft disagreement, where it was computed. -/
def compared (f : FigureSet) (dis : Option Int) (c : Code) : Option Int :=
  match c with
  | .none => none
  | .gmMin => some f.stab.gm
  | .area30Min => some f.levers.a30
  | .area40Min => some f.levers.a40
  | .area3040Min => some f.levers.a3040
  | .gz30Min => some f.levers.gz30
  | .gzAngleMin => some f.levers.angle
  | .heelMax => some (magnitude f.stab.heel)
  | .liftHeelMax => some (magnitude f.stab.heel)
  | .trimMax => some (magnitude f.trim.t)
  | .draftMax => some (max f.trim.ta f.trim.tf)
  | .shearMax => some f.maxShear
  | .bendMax => some f.maxBend
  | .loadMax => some f.loadRatio
  | .draftAgreeMax => dis

/-- Whether a code has the minimum sense (R104). -/
def isMinimum : Code → Bool
  | .gmMin | .area30Min | .area40Min | .area3040Min | .gz30Min | .gzAngleMin => true
  | _ => false

/-- Whether a value fails a slot's limit; a value equal to the limit does not (R104). -/
def failsLimit (st : Settings) (v : Int) : Bool :=
  if isMinimum st.code then decide (v < st.limit) else decide (st.limit < v)

/-- Whether a value has recovered past the hysteresis (R108). -/
def recovered (st : Settings) (v : Int) : Bool :=
  if isMinimum st.code then decide (st.limit + st.hyst ≤ v) else decide (v ≤ st.limit - st.hyst)

/-! ### Judging a routine result (R107, R108) -/

/-- The value on which slot `i` is judged on a routine result, and whether it is an injected one; none when the
verdict is N/A (R107). -/
def judgedValue (m : Monitor) (k : PassKind) (f : FigureSet) (dis : Option Int) (i : Nat) (st : Slot) :
    Option (Int × Bool) :=
  if inRange m.rangeStart m.rangeStop i && applies st.set.code k then
    match compared f dis st.set.code with
    | none => none
    | some v => match st.injected with
      | none => some (v, false)
      | some w => some (w, true)
  else none

/-- The counter and alarm state of a slot judged on a value (R108). -/
def moveSlot (st : Slot) (v : Int) : Slot :=
  if st.alarm then
    if recovered st.set v then { st with alarm := false, count := 0 } else { st with count := st.set.n }
  else if failsLimit st.set v then
    if st.count + 1 < st.set.n then { st with count := st.count + 1 }
    else { st with alarm := true, count := st.set.n }
  else { st with count := 0 }

/-- What judging gives one slot: its verdict, whether it was given on an injected value, and the slot after. -/
structure Judged where
  verdict : Verdict
  injected : Bool
  slot : Slot
deriving DecidableEq, Repr

/-- Judges slot `i` (R107, R108). -/
def judgeSlot (m : Monitor) (k : PassKind) (f : FigureSet) (dis : Option Int) (i : Nat) (st : Slot) : Judged :=
  match judgedValue m k f dis i st with
  | none => ⟨.na, false, st⟩
  | some (v, inj) => ⟨if failsLimit st.set v then .fail else .pass, inj, moveSlot st v⟩

/-- Judges the slots from index `i` on. -/
def judgeFrom (m : Monitor) (k : PassKind) (f : FigureSet) (dis : Option Int) : Nat → List Slot → List Judged
  | _, [] => []
  | i, st :: rest => judgeSlot m k f dis i st :: judgeFrom m k f dis (i + 1) rest

/-- The indices, from `i` on, of the slots that moved from CLEAR to ALARM (R109). -/
def enteredFrom : Nat → List Slot → List Judged → List Nat
  | i, a :: as, b :: bs => if !a.alarm && b.slot.alarm then i :: enteredFrom (i + 1) as bs else enteredFrom (i + 1) as bs
  | _, _, _ => []

/-! ### The plain comparison (R115) -/

/-- The verdict of slot `i` in a plain comparison, with the computed figure it was given on. -/
def plainVerdict (m : Monitor) (k : PassKind) (f : FigureSet) (i : Nat) (st : Slot) : Verdict × Option Int :=
  if inRange m.rangeStart m.rangeStop i && applies st.set.code k then
    match compared f none st.set.code with
    | none => (.na, none)
    | some v => (if failsLimit st.set v then .fail else .pass, some v)
  else (.na, none)

/-- The plain comparison of the slots from index `i` on. -/
def plainFrom (m : Monitor) (k : PassKind) (f : FigureSet) : Nat → List Slot → List (Verdict × Option Int)
  | _, [] => []
  | i, st :: rest => plainVerdict m k f i st :: plainFrom m k f (i + 1) rest

/-- The verdict list of a figure set. -/
def plainCompare (m : Monitor) (k : PassKind) (f : FigureSet) : List (Verdict × Option Int) := plainFrom m k f 0 m.slots

/-- The lowest index, counted from `i`, with verdict FAIL and its computed figure. -/
def firstFail : Nat → List (Verdict × Option Int) → Option (Nat × Int)
  | _, [] => none
  | i, (.fail, v) :: _ => some (i, v.getD 0)
  | i, _ :: rest => firstFail (i + 1) rest

/-! ### Effective action and lines -/

/-- The rank of an effective action: NONE below NOTE, then the actions in their order (R103, R110). -/
def actionRank : Option Action → Nat
  | none => 0
  | some .note => 1
  | some .hold => 2
  | some .stopCranes => 3
  | some .alarm => 4

/-- The higher of two effective actions. -/
def higherAction (a b : Option Action) : Option Action := if actionRank a < actionRank b then b else a

/-- The highest-ranked action among the slots in ALARM, or NONE (R110). -/
def effectiveOf (slots : List Slot) : Option Action :=
  slots.foldr (fun st a => if st.alarm then higherAction (some st.set.action) a else a) none

/-- The levels of the lines: both permits asserted only IN SERVICE, primed and below STOP CRANES (R111); CALARM
asserted while the effective action is ALARM (R112). -/
def lineLevels (mode : ServiceMode) (primed : Bool) (effective : Option Action) : Lines :=
  let permit := mode == .inService && primed && decide (actionRank effective < 3)
  ⟨permit, permit, effective == some .alarm⟩

/-! ### The attention line (R190) -/

/-- The LEVEL value of an attention line: some unmasked cause is pending. -/
def levelOf (pending unmasked : List Cause) : Bool := pending.any (fun c => unmasked.contains c)

/-- The port with its line following the pending set and mask, in LEVEL mode. -/
def AttnPort.relevel (a : AttnPort) : AttnPort :=
  match a.mode with
  | .level => { a with active := levelOf a.pending a.unmasked }
  | .pulse => a

/-- A cause raised into a pending set: nothing changes where it is already there; otherwise in LEVEL mode the line
follows, and in PULSE mode an unmasked cause gives or extends a pulse (R188, R190). -/
def AttnPort.raise (c : Cause) (a : AttnPort) : AttnPort :=
  if a.pending.contains c then a
  else
    match a.mode with
    | .level => { a with pending := causeInsert c a.pending, active := levelOf (causeInsert c a.pending) a.unmasked }
    | .pulse => { a with pending := causeInsert c a.pending, active := a.active || a.unmasked.contains c }

/-- A cause removed from a pending set; in LEVEL mode the line follows (R188, R190). -/
def AttnPort.remove (c : Cause) (a : AttnPort) : AttnPort :=
  AttnPort.relevel { a with pending := causeRemove c a.pending }

end Sys2Proof.Machine
end

