-- ==== Sys2Proof/Machine/Figures.lean ====
section
/-!
DEFINITION. The condition arithmetic (chapter 03): the ten stages that turn a capture record and the image into a
figure set. Every division is `roundDiv` (R51); sums, differences and products are exact, and a figure is brought into
its 32-bit field only where the figure set is put together (R52, log 27).
-/

namespace Sys2Proof.Machine

open Sys2Proof

/-- The sum of a term over the weights of a capture record. -/
def sumOver (f : Weight → Int) (ws : List Weight) : Int := (ws.map f).sum

/-! ### Stages 1 and 2 -/

/-- Totals and equivalent displacement (R58, R59). -/
def totalsOf (cap : Capture) : Totals :=
  let delta := sumOver (fun w => w.m) cap.weights
  { delta := delta
    lcg := roundDiv (sumOver (fun w => w.m * (w.xa + w.xf)) cap.weights) (2 * delta)
    tcg := roundDiv (sumOver (fun w => w.m * w.y) cap.weights) delta
    vcg := roundDiv (sumOver (fun w => w.m * w.z) cap.weights) delta
    fsm := cap.fsm
    deq := roundDiv (delta * 1025) cap.density }

/-! ### Stage 3 -/

/-- A row's own quantities (R61). -/
def rowValues (r : HydroRow) : Hydro :=
  ⟨r.t, r.lcb, r.lcf, r.km, r.mtc, r.kn10, r.kn20, r.kn30, r.kn40, r.kn50, r.kn60⟩

/-- The quantities between two rows at displacement `deq`, each interpolated and rounded on its own (R60). -/
def interpolate (lo hi : HydroRow) (deq : Int) : Hydro :=
  let q (a b : Int) : Int := a + roundDiv ((b - a) * (deq - lo.d)) (hi.d - lo.d)
  ⟨q lo.t hi.t, q lo.lcb hi.lcb, q lo.lcf hi.lcf, q lo.km hi.km, q lo.mtc hi.mtc, q lo.kn10 hi.kn10,
   q lo.kn20 hi.kn20, q lo.kn30 hi.kn30, q lo.kn40 hi.kn40, q lo.kn50 hi.kn50, q lo.kn60 hi.kn60⟩

/-- The lowest two neighbouring rows that bracket a displacement (R60). -/
def bracket (deq : Int) : List HydroRow → Option (HydroRow × HydroRow)
  | a :: b :: rest => if a.d ≤ deq ∧ deq ≤ b.d then some (a, b) else bracket deq (b :: rest)
  | _ => none

/-- What stage 3 answers: the quantities and the two OFF TABLE flags. -/
structure HydroAt where
  values : Hydro
  offLow : Bool
  offHigh : Bool
deriving DecidableEq, Repr

/-- Stage 3 over the rows in index order; none for a table without rows (R60, R61). -/
def hydroAt (deq : Int) (rows : List HydroRow) : Option HydroAt :=
  match rows.head?, rows.getLast? with
  | some first, some last =>
    if deq < first.d then some ⟨rowValues first, true, false⟩
    else if last.d < deq then some ⟨rowValues last, false, true⟩
    else match bracket deq rows with
      | some (lo, hi) => some ⟨interpolate lo hi deq, false, false⟩
      | none => none
  | _, _ => none

/-- The rows of an image in index order. -/
def Image.rowList (img : Image) : List HydroRow := img.rows.map Prod.snd

/-- The stations of an image in index order. -/
def Image.stationList (img : Image) : List Station := img.stations.map Prod.snd

/-! ### Stages 4 to 6 -/

/-- The trim before saturation (R62). -/
def rawTrim (tot : Totals) (h : Hydro) : Int := roundDiv (tot.delta * (h.lcb - tot.lcg)) h.mtc

/-- Trim and drafts (R62, R63). -/
def trimOf (lbp : Int) (tot : Totals) (h : Hydro) : Trim :=
  let t := bringInto (-2000) 2000 (rawTrim tot h)
  let ta := h.tm + roundDiv (t * h.lcf) lbp
  ⟨t, ta, ta - t⟩

/-- Whether the trim is saturated (R62). -/
def trimSaturated (tot : Totals) (h : Hydro) : Bool := !within (-2000) 2000 (rawTrim tot h)

/-- The heel (R65, R66). -/
def heelOf (gm tcg : Int) : Int :=
  if 0 < gm then bringInto (-300) 300 (roundDiv (573 * tcg) gm)
  else if 0 ≤ tcg then 300 else -300

/-- Free surface, metacentric heights and heel (R64 to R66). -/
def stabilityOf (tot : Totals) (h : Hydro) : Stability :=
  let fsc := roundDiv tot.fsm tot.delta
  let kgf := tot.vcg + fsc
  let gm := h.km - kgf
  ⟨fsc, kgf, h.km - tot.vcg, gm, heelOf gm tot.tcg⟩

/-! ### Stages 7 and 8 -/

/-- The lever at an angle whose per-mille sine and cosine are given (R67). -/
def leverAt (kgf tcg kn sine cosine : Int) : Int := kn - roundDiv (kgf * sine) 1000 - roundDiv (tcg * cosine) 1000

/-- The angle, in tenths of a degree, of the first greatest lever of the list (R69). -/
def greatestAngle : List (Int × Int) → Int
  | [] => 0
  | (a, g) :: rest => (rest.foldl (fun (best : Int × Int) e => if best.2 < e.2 then e else best) (a, g)).1

/-- Righting levers, areas and the angle of maximum lever (R67 to R69). -/
def leversOf (tot : Totals) (h : Hydro) (st : Stability) : Levers :=
  let g0 := -tot.tcg
  let g1 := leverAt st.kgf tot.tcg h.kn10 174 985
  let g2 := leverAt st.kgf tot.tcg h.kn20 342 940
  let g3 := leverAt st.kgf tot.tcg h.kn30 500 866
  let g4 := leverAt st.kgf tot.tcg h.kn40 643 766
  let g5 := leverAt st.kgf tot.tcg h.kn50 766 643
  let g6 := leverAt st.kgf tot.tcg h.kn60 866 500
  { gz0 := g0, gz10 := g1, gz20 := g2, gz30 := g3, gz40 := g4, gz50 := g5, gz60 := g6
    a30 := 5 * (g0 + 2 * g1 + 2 * g2 + g3)
    a40 := 5 * (g0 + 2 * g1 + 2 * g2 + 2 * g3 + g4)
    a3040 := 5 * (g3 + g4)
    angle := greatestAngle [(100, g1), (200, g2), (300, g3), (400, g4), (500, g5), (600, g6)] }

/-! ### Stage 9 -/

/-- The part of a weight aft of a station at `xk` (R70). -/
def partAft (w : Weight) (xk : Int) : Int :=
  if w.xa = w.xf then (if w.xa ≤ xk then w.m else 0)
  else if w.xf ≤ xk then w.m
  else if xk ≤ w.xa then 0
  else roundDiv (w.m * (xk - w.xa)) (w.xf - w.xa)

/-- The moment of that part about the station, in dt·cm (R70). -/
def momentAft (w : Weight) (xk : Int) : Int :=
  if w.xa = w.xf then (if w.xa ≤ xk then w.m * (xk - w.xa) else 0)
  else if w.xf ≤ xk then roundDiv (w.m * (2 * xk - w.xa - w.xf)) 2
  else if xk ≤ w.xa then 0
  else roundDiv (w.m * ((xk - w.xa) * (xk - w.xa))) (2 * (w.xf - w.xa))

/-- The buoyancy fraction term in units of 1/1,000,000, within its bounds (R72). -/
def buoyancyTerm (st : Station) (t : Int) : Int := bringInto 0 1000000 (100 * st.f + st.k * t)

/-- The figures of one station, as computed (R71 to R74). -/
def stationFigures (ws : List Weight) (delta t : Int) (st : Station) : StationFigures :=
  let b := roundDiv (delta * buoyancyTerm st t) 1000000
  let sf := sumOver (fun w => partAft w st.x) ws - b
  let bm := roundDiv (sumOver (fun w => momentAft w st.x) ws - b * st.l) 100
  ⟨sf, bm, roundDiv (1000 * magnitude sf) st.sp, roundDiv (1000 * magnitude bm) st.bp⟩

/-- The greatest of a list of ratios, 0 for an empty list. -/
def greatest (l : List Int) : Int := l.foldl max 0

/-! ### Stage 10 -/

/-- The captured load of a compartment: the masses of the weights whose compartment field names it (R75). -/
def capturedLoad (ws : List Weight) (n : Nat) : Int := sumOver (fun w => if w.comp = some n then w.m else 0) ws

/-- The load ratio of a compartment; 0 for a TANK. -/
def compRatio (ws : List Weight) (n : Nat) (r : CompRecord) : Int :=
  match r.use with
  | .stow _ m => roundDiv (1000 * capturedLoad ws n) m
  | .tank .. => 0

/-- The load ratio (R75). -/
def loadRatioOf (img : Image) (ws : List Weight) : Int := greatest (img.comps.map (fun e => compRatio ws e.1 e.2))

/-! ### The figure set -/

/-- Whether the divisors that R77 lists are positive: Δ, the density, LBP, MTC, the D difference of the bracketing rows,
every SP and BP, and every max load. -/
def divisorsPositive (img : Image) (cap : Capture) : Bool :=
  decide (0 < (totalsOf cap).delta) && decide (0 < cap.density) && decide (0 < img.lbp) &&
  (match hydroAt (totalsOf cap).deq img.rowList with
   | none => false
   | some h => decide (0 < h.values.mtc)) &&
  (match bracket (totalsOf cap).deq img.rowList with
   | none => true
   | some (lo, hi) => decide (lo.d < hi.d)) &&
  img.stationList.all (fun st => decide (0 < st.sp) && decide (0 < st.bp)) &&
  img.comps.all (fun e => match e.2.use with | .stow _ m => decide (0 < m) | .tank .. => true)

/-- Totals held in their fields (R52). -/
def Totals.held (x : Totals) : Totals :=
  ⟨hold32 x.delta, hold32 x.lcg, hold32 x.tcg, hold32 x.vcg, hold32 x.fsm, hold32 x.deq⟩

/-- Hydrostatic quantities held in their fields. -/
def Hydro.held (x : Hydro) : Hydro :=
  ⟨hold32 x.tm, hold32 x.lcb, hold32 x.lcf, hold32 x.km, hold32 x.mtc, hold32 x.kn10, hold32 x.kn20, hold32 x.kn30,
   hold32 x.kn40, hold32 x.kn50, hold32 x.kn60⟩

/-- Trim and drafts held in their fields. -/
def Trim.held (x : Trim) : Trim := ⟨hold32 x.t, hold32 x.ta, hold32 x.tf⟩

/-- Stability figures held in their fields. -/
def Stability.held (x : Stability) : Stability :=
  ⟨hold32 x.fsc, hold32 x.kgf, hold32 x.gmSolid, hold32 x.gm, hold32 x.heel⟩

/-- Levers and areas held in their fields. -/
def Levers.held (x : Levers) : Levers :=
  ⟨hold32 x.gz0, hold32 x.gz10, hold32 x.gz20, hold32 x.gz30, hold32 x.gz40, hold32 x.gz50, hold32 x.gz60,
   hold32 x.a30, hold32 x.a40, hold32 x.a3040, hold32 x.angle⟩

/-- Station figures held in their fields. -/
def StationFigures.held (x : StationFigures) : StationFigures :=
  ⟨hold32 x.sf, hold32 x.bm, hold32 x.shear, hold32 x.bend⟩

/-- The figure set of a capture record against an image (R57); none where a divisor that R77 lists is not positive. -/
def figureSet (img : Image) (cap : Capture) : Option FigureSet :=
  if divisorsPositive img cap then
    match hydroAt (totalsOf cap).deq img.rowList with
    | none => none
    | some h =>
      let tot := totalsOf cap
      let trim := trimOf img.lbp tot h.values
      let stab := stabilityOf tot h.values
      let sts := img.stationList.map (stationFigures cap.weights tot.delta trim.t)
      some
        { totals := tot.held
          hydro := h.values.held
          trim := trim.held
          stab := stab.held
          levers := (leversOf tot h.values stab).held
          stations := sts.map StationFigures.held
          maxShear := hold32 (greatest (sts.map (fun x => x.shear)))
          maxBend := hold32 (greatest (sts.map (fun x => x.bend)))
          loadRatio := hold32 (loadRatioOf img cap.weights)
          flags := ⟨h.offLow, h.offHigh, trimSaturated tot h.values, decide (stab.gm ≤ 0)⟩ }
  else none

/-! ### The draft check (R158, R159) -/

/-- The draft disagreement of a routine job, or none where the check is held. -/
def disagreement (f : FigureSet) (slung : Bool) (d : DraftCapture) : Option Int :=
  if slung then none
  else match d.reading with
    | none => none
    | some (aft, fwd) =>
      some (max (magnitude (f.trim.ta - (aft + d.aftOffset))) (magnitude (f.trim.tf - (fwd + d.fwdOffset))))

end Sys2Proof.Machine
end

