-- ==== Sys2Proof/Machine/Capture.lean ====
section
/-!
DEFINITION. What a job copies at its start (R82): the weights of its capture set (R54 to R56, R86 to R90, R173), the
density and the free-surface total.
-/

namespace Sys2Proof.Machine

open Sys2Proof

/-! ### Weights of one source -/

/-- An item at a placement (R54). -/
def itemAt (tag : Nat) (m : Int) (pl : Placement) : Weight :=
  ⟨.item tag, m, pl.xAft, pl.xFore, pl.y, pl.z, some pl.comp⟩

/-- An item at a goal: one weight at a placement, none for ASHORE. -/
def itemAtGoal (tag : Nat) (m : Int) : Goal → List Weight
  | .place pl => [itemAt tag m pl]
  | .ashore => []

/-- A mass on a hook: a point weight at the hook position, with no compartment (R55). -/
def hookAtPoint (tag : Nat) (m : Int) (q : Point) : Weight := ⟨.hook tag, m, q.x, q.x, q.y, q.z, none⟩

/-- A mass on a hook whose position may be absent. -/
def hookAtMaybe (tag : Nat) (m : Int) : Option Point → List Weight
  | some q => [hookAtPoint tag m q]
  | none => []

/-- The lead weight's mass of a tandem load (R55). -/
def leadMass (m : Int) (share : Nat) : Int := roundDiv (m * share) 1000

/-- The lightship weights (R54). -/
def Image.lightshipWeights (img : Image) : List Weight :=
  img.blocks.map (fun e => ⟨.lightship e.1, e.2.mass, e.2.xAft, e.2.xFore, e.2.y, e.2.z, none⟩)

/-- The TANK weight of a compartment at a fill: none for a tank at fill 0 and for a compartment that is no tank
(R56, R153). -/
def tankWeight (fills : Table Nat) (n : Nat) (r : CompRecord) : List Weight :=
  match r.use with
  | .stow .. => []
  | .tank m cx cy _ =>
    let f := fills.value 0 n
    if f = 0 then [] else [⟨.tank n, tankMass m f, cx, cx, cy, tankHeight r.zFloor r.zTop f, none⟩]

/-- The TANK weights at the given fills. -/
def Image.tankWeights (img : Image) (fills : Table Nat) : List Weight :=
  img.comps.flatMap (fun e => tankWeight fills e.1 e.2)

/-- The free-surface moment that one compartment adds at the given fills (R56, R154). -/
def tankMoment (fills : Table Nat) (n : Nat) (r : CompRecord) : Int :=
  match r.use with
  | .stow .. => 0
  | .tank _ _ _ fsm => if slack (fills.value 0 n) then fsm else 0

/-- The free-surface moment total at the given fills. -/
def Image.freeSurface (img : Image) (fills : Table Nat) : Int :=
  (img.comps.map (fun e => tankMoment fills e.1 e.2)).sum

/-! ### The routine set (R86) -/

/-- The HOOK weights of an item carried on the hooks whose positions are given: one weight of the whole mass for a
single lift, the two shares for a tandem lift (R55). -/
def hookWeights (tag : Nat) (m : Int) (l : Lift) (own other : Option Point) : List Weight :=
  match l.role with
  | .single => hookAtMaybe tag m own
  | _ =>
    let lead := leadMass m (l.share.getD 0)
    hookAtMaybe tag lead own ++ hookAtMaybe tag (m - lead) other

/-- The hook point of a record. -/
def recordHook (r : LiftRecord) : Option Point := r.lift.bind Lift.hook

/-- The outreach point of a record. -/
def recordOutreach (r : LiftRecord) : Option Point := r.lift.map Lift.outreach

/-- The weights of an item in the routine set: at its actual placement when ABOARD, on the hooks of the record its
lift link names when SLUNG, none when PENDING (R86). -/
def routineItem (s : State) (tag : Nat) (it : ItemRecord) : List Weight :=
  match it.state with
  | .pending => []
  | .aboard => (match it.actual with | none => [] | some pl => [itemAt tag it.mass pl])
  | .slung =>
    match it.link with
    | none => []
    | some c =>
      match (s.lifts.records.get c).lift with
      | none => []
      | some l => hookWeights tag it.mass l l.hook (recordHook (s.lifts.records.get (otherCrane c)))

/-- A capture record whose items are placed by `f` and whose tanks stand at the given fills. -/
def captureOf (s : State) (fills : Table Nat) (items : List Weight) : Capture :=
  ⟨s.ship.image.lightshipWeights ++ items ++ s.ship.image.tankWeights fills, s.cond.density,
   s.ship.image.freeSurface fills⟩

/-- The weights of all items, each placed by `f`. -/
def placeItems (s : State) (f : Nat → ItemRecord → List Weight) : List Weight :=
  s.cond.items.flatMap (fun e => f e.1 e.2)

/-- The routine capture (R86). -/
def routineCapture (s : State) : Capture := captureOf s s.tanks.fills (placeItems s (routineItem s))

/-! ### Lift checks (R87, R88) -/

/-- The weights of an item that is not the one being checked: at the other record's outreach point when that record is
GRANTED for it, and otherwise as the routine set has it (R87). -/
def otherItem (s : State) (lead : Crane) (tag : Nat) (it : ItemRecord) : List Weight :=
  let r := s.lifts.records.get (otherCrane lead)
  if r.state == .granted && recordNames r tag then hookAtMaybe tag it.mass (recordOutreach r)
  else routineItem s tag it

/-- The path case: the item at the outreach point or points (R87). -/
def pathCapture (s : State) (lead : Crane) (l : Lift) : Capture :=
  captureOf s s.tanks.fills (placeItems s (fun tag it =>
    if tag = l.tag then
      hookWeights tag it.mass l (some l.outreach) (recordOutreach (s.lifts.records.get (otherCrane lead)))
    else otherItem s lead tag it))

/-- The final case: the item at its destination, or left out for ASHORE (R88). -/
def finalCapture (s : State) (lead : Crane) (l : Lift) : Capture :=
  captureOf s s.tanks.fills (placeItems s (fun tag it =>
    if tag = l.tag then itemAtGoal tag it.mass l.dest else otherItem s lead tag it))

/-! ### Prospects (R89, R90, R173) -/

/-- The weights of an item in the base set of a scope (R89). -/
def baseItem (s : State) (scope : Scope) (tag : Nat) (it : ItemRecord) : List Weight :=
  match scope with
  | .actual => routineItem s tag it
  | .departure =>
    match it.state with
    | .slung => (match s.slungDest tag with | none => [] | some g => itemAtGoal tag it.mass g)
    | .pending => (match it.plan with | none => [] | some g => itemAtGoal tag it.mass g)
    | .aboard =>
      match it.plan with
      | some g => itemAtGoal tag it.mass g
      | none => (match it.actual with | none => [] | some pl => [itemAt tag it.mass pl])

/-- A prospective set while layers are taken: the weights of each item, the fills, and the two counts. -/
structure ProspectSet where
  items : Table (List Weight)
  fills : Table Nat
  applied : Nat
  skipped : Nat
deriving DecidableEq, Repr

/-- Whether a layer is skipped: its item is missing from the item table or SLUNG (R173). -/
def layerSkips (s : State) : Layer → Bool
  | .tank .. => false
  | .item tag _ =>
    match s.item tag with
    | none => true
    | some it => it.state == .slung

/-- One layer taken over the set (R173). -/
def takeLayer (s : State) (q : ProspectSet) (l : Layer) : ProspectSet :=
  if layerSkips s l then { q with skipped := q.skipped + 1 }
  else match l with
    | .item tag g =>
      { q with
        items := q.items.put tag (itemAtGoal tag ((s.item tag).elim 0 (fun it => it.mass)) g)
        applied := q.applied + 1 }
    | .tank n f => { q with fills := q.fills.store 0 n f, applied := q.applied + 1 }

/-- The prospective set: the base of the scope with the layers of the trial stack over it, bottom first. -/
def prospectSet (s : State) (scope : Scope) : ProspectSet :=
  s.trials.layers.foldl (takeLayer s) ⟨s.cond.items.mapVals (baseItem s scope), s.tanks.fills, 0, 0⟩

/-- The prospective capture (R90). -/
def prospectCapture (s : State) (scope : Scope) : Capture :=
  let q := prospectSet s scope
  captureOf s q.fills (q.items.flatMap (fun e => e.2))

/-- What a routine job captures for the draft check (R158). -/
def draftCapture (s : State) : DraftCapture :=
  ⟨s.freshReading.map (fun r => (r.aft, r.fwd)), s.tanks.aftOffset, s.tanks.fwdOffset⟩

end Sys2Proof.Machine
end

