-- ==== Sys2Proof/Machine/Layouts.lean ====
section
/-!
DEFINITION. The layouts of section 8 of the ports chapter: status numbers, the placement field, the item record, the
parts of the two results with the check word (R98), the outcome record, and the telegram of a reply (R178, R179).
-/

namespace Sys2Proof.Machine

open Sys2Proof

/-- Status numbers (section 8.3). -/
def statusByte : Status → Byte
  | .done => 0x00 | .clamped => 0x01 | .warning => 0x02 | .granted => 0x03
  | .busy => 0x10 | .notReady => 0x11 | .notInService => 0x12 | .role => 0x13 | .unknown => 0x14
  | .badArgument => 0x15
  | .noSuchItem => 0x20 | .tagInUse => 0x21 | .tableFull => 0x22 | .badPlacement => 0x23 | .itemBusy => 0x24
  | .overstowed => 0x25 | .notLiftable => 0x26 | .offPlan => 0x27
  | .held => 0x30 | .silentLift => 0x31 | .outcomePending => 0x32 | .nothingPending => 0x33 | .noSuchLift => 0x34
  | .notLead => 0x35 | .stillSlung => 0x36 | .partner => 0x37 | .refusedLimit => 0x38 | .joinLapsed => 0x39
  | .liftsActive => 0x3A
  | .noResult => 0x40 | .noReading => 0x41 | .empty => 0x42

/-- The placement field: 11 bytes (section 8.4). -/
def placementBytes (pl : Placement) : List Byte :=
  byteOf pl.comp :: (bytes2 pl.xAft ++ bytes2 pl.xFore ++ bytes2 pl.y ++ bytes2 pl.z ++ bytes2 (pl.restsOn.getD 0))

/-- A placement that is absent: 11 zero bytes (section 8.5). -/
def noPlacement : List Byte := List.replicate 11 0

/-- A goal's placement field; zeros for ASHORE. -/
def goalBytes : Goal → List Byte
  | .place pl => placementBytes pl
  | .ashore => noPlacement

/-- A goal's form byte: 0 placement, 1 ASHORE (section 8.7). -/
def goalForm : Goal → Byte
  | .place _ => 0
  | .ashore => 1

/-- A four-byte version field. -/
def versionBytes (v : Version) : List Byte := bytes4 (v.toNat : Int)

/-- The lift link of an item record: 0 none, 1 C1, 2 C2. -/
def linkByte : Option Crane → Byte
  | none => 0
  | some .crane1 => 1
  | some .crane2 => 2

/-- Item states: 0 PENDING, 1 ABOARD, 2 SLUNG. -/
def itemStateByte : ItemState → Byte
  | .pending => 0
  | .aboard => 1
  | .slung => 2

/-- Item kinds: 0 CARGO, 1 CONSTANT. -/
def itemKindByte : ItemKind → Byte
  | .cargo => 0
  | .constant => 1

/-- The item record from byte 1 on (section 8.5). -/
def itemBytes (tag : Nat) (it : ItemRecord) (v : Version) : List Byte :=
  bytes2 tag ++ [itemKindByte it.kind, itemStateByte it.state] ++ bytes2 it.mass ++ [byteOf it.dport] ++
  [flagByte [it.link.isSome, it.plan == some .ashore, it.plan.isSome && it.plan != some .ashore, it.actual.isSome],
   linkByte it.link] ++
  (match it.actual with | none => noPlacement | some pl => placementBytes pl) ++
  (match it.plan with | none => noPlacement | some g => goalBytes g) ++ versionBytes v

/-! ### Results (section 8.6) -/

/-- The flags byte of a figure set: bits 6 to 3. -/
def figureFlagBits (f : FigureFlags) : List Bool := [f.offLow, f.offHigh, f.trimSaturated, f.negativeGm]

/-- The two bits of a verdict. -/
def verdictCode : Verdict → Int
  | .na => 0
  | .pass => 1
  | .fail => 2

/-- The verdicts packed two bits each, slot 0 in the top two bits of the first of four bytes. -/
def verdictBytes (vs : List Verdict) : List Byte := bytes4 (vs.foldl (fun a v => 4 * a + verdictCode v) 0)

/-- The figures of part 1. -/
def partOne (f : FigureSet) : List Int :=
  [f.totals.delta, f.totals.lcg, f.totals.tcg, f.totals.vcg, f.totals.fsm, f.totals.deq, f.hydro.tm, f.hydro.lcb,
   f.hydro.lcf, f.hydro.km, f.hydro.mtc, f.trim.t, f.trim.ta, f.trim.tf]

/-- The figures of part 2. -/
def partTwo (f : FigureSet) : List Int :=
  [f.hydro.kn10, f.hydro.kn20, f.hydro.kn30, f.hydro.kn40, f.hydro.kn50, f.hydro.kn60, f.stab.fsc, f.stab.kgf,
   f.stab.gmSolid, f.stab.gm, f.stab.heel, f.levers.gz0, f.levers.gz10, f.levers.gz20, f.levers.gz30, f.levers.gz40,
   f.levers.gz50, f.levers.gz60, f.levers.a30, f.levers.a40, f.levers.a3040, f.levers.angle]

/-- The stations of a part: 0..5, 6..11 or 12..15. -/
def partStations (f : FigureSet) (part : Nat) : List StationFigures :=
  match part with
  | 3 => f.stations.take 6
  | 4 => (f.stations.drop 6).take 6
  | 5 => (f.stations.drop 12).take 4
  | _ => []

/-- The bytes from 6 on of parts 1 to 5, which both results share. -/
def figureBytes (f : FigureSet) (part : Nat) : List Byte :=
  match part with
  | 1 => (partOne f).flatMap bytes4
  | 2 => (partTwo f).flatMap bytes4
  | _ => (partStations f part).flatMap (fun st => [st.sf, st.bm, st.shear, st.bend].flatMap bytes4)

/-- The bytes from 6 on of part 0 of a routine result. -/
def routineHeader (r : RoutineResult) : List Byte :=
  versionBytes r.version ++
  [flagByte ([r.stale] ++ figureFlagBits r.figures.flags ++ [r.disagreement.isNone, r.injected, false])] ++
  [byteOf r.stationCount] ++ verdictBytes r.verdicts ++
  [r.disagreement.getD 0, r.figures.loadRatio, r.figures.maxShear, r.figures.maxBend].flatMap bytes4

/-- The bytes from 6 on of a part of a routine result. -/
def routinePart (r : RoutineResult) (part : Nat) : List Byte :=
  if part = 0 then routineHeader r else figureBytes r.figures part

/-- The parts that exist for a station count, from 0 up (R99). -/
def partsOf (stations : Nat) : List Nat := [0, 1, 2, 3, 4, 5].filter (partExists stations)

/-- The check word of a routine result record: over each existing part from byte 1 on, bytes 4 and 5 left out (R98). -/
def resultCheck (r : RoutineResult) : CheckWord :=
  crc16 ((partsOf r.stationCount).flatMap (fun (n : Nat) => byteOf n :: (bytes2 r.seq ++ routinePart r n)))

/-- A part of a routine result from byte 1 on, as READ RESULT presents it (section 8.6). -/
def resultPartBytes (r : RoutineResult) (part : Nat) : List Byte :=
  byteOf part :: (bytes2 r.seq ++ crcBytes r.checkWord ++ routinePart r part)

/-- The scope byte of a prospect. -/
def scopeByte : Scope → Byte
  | .actual => 0
  | .departure => 1

/-- The bytes from 6 on of part 0 of a prospective result. -/
def prospectHeaderBytes (h : ProspectHeader) : List Byte :=
  versionBytes h.version ++
  [scopeByte h.scope, flagByte ([h.stale] ++ figureFlagBits h.flags ++ [false, false, h.baseLost]),
   byteOf h.stationCount, byteOf h.depth, byteOf h.applied, byteOf h.skipped] ++ verdictBytes h.verdicts ++
  [byteOf h.failing, (match h.firstFail with | none => 0xFF | some (i, _) => byteOf i)] ++
  bytes4 (match h.firstFail with | none => 0 | some (_, v) => v) ++
  [h.loadRatio, h.maxShear, h.maxBend].flatMap bytes4

/-- A part of a prospective result from byte 1 on; bytes 4 and 5 are zero (section 8.6). -/
def prospectPartBytes (r : ProspectResult) (part : Nat) : List Byte :=
  byteOf part :: (bytes2 r.header.seq ++ [0, 0] ++
    (if part = 0 then prospectHeaderBytes r.header else figureBytes r.figures part))

/-! ### The outcome record (section 8.7) -/

/-- Roles: 0 SINGLE, 1 LEAD, 2 PARTNER. -/
def liftRoleByte : LiftRole → Byte
  | .single => 0
  | .lead => 1
  | .partner => 2

/-- Outcomes, 0 to 5. -/
def outcomeByte : OutcomeCode → Byte
  | .landed => 0
  | .landedOffPlan => 1
  | .landedClamped => 2
  | .aborted => 3
  | .grantLapsed => 4
  | .joinLapsed => 5

/-- The flags byte of a case in a check report. -/
def caseFlagByte (f : FigureFlags) : Byte := flagByte ([false] ++ figureFlagBits f ++ [false, false, false])

/-- Bytes 31 to 49: whether a check report is present, and the report. -/
def reportBytes : Option CheckReport → List Byte
  | none => [0, 0, 0, 0xFF] ++ List.replicate 15 0
  | some r =>
    [1] ++
    (match r.failure with
     | none => [0, 0, 0xFF] ++ bytes4 0
     | some (.path, i, v) => [1, 1, byteOf i] ++ bytes4 v
     | some (.final, i, v) => [1, 2, byteOf i] ++ bytes4 v) ++
    versionBytes r.version ++ [flagByte [r.stale, false, false, false, false, false, false, false]] ++
    [caseFlagByte r.pathFlags, caseFlagByte r.finalFlags] ++ bytes2 r.pathHeel ++ bytes2 r.finalHeel

/-- The outcome record from byte 1 on. -/
def outcomeBytes (o : OutcomeRecord) : List Byte :=
  bytes2 o.tag ++ bytes2 o.mass ++ [liftRoleByte o.role, outcomeByte o.outcome, goalForm o.final] ++ goalBytes o.final ++
  [goalForm o.dest] ++ goalBytes o.dest ++ reportBytes o.report

/-! ### Telegrams of replies (R178, R179) -/

end Sys2Proof.Machine

namespace Sys2Proof.Config

/-- FREE VALUE (log 9). The bytes that follow the status of a reply whose fields the manual names and does not lay out.
Nothing is known of this function. -/
opaque replyFields : Machine.Answer → List Byte

end Sys2Proof.Config

namespace Sys2Proof.Machine

open Sys2Proof

/-- The payload of a reply (R178): the status byte, and then the fields the request's rule gives: none for a status alone, a
layout of section 8 as it stands, a condition version in four bytes and a check word in two, high byte first, and for every
other reply bytes that the manual leaves open, at most 119 of them (log 9). -/
def Answer.payload (a : Answer) : List Byte :=
  statusByte a.status ::
    match a.body with
    | .statusOnly => []
    | .layout bytes => bytes
    | .version v => versionBytes v
    | .committed w => crcBytes w
    | _ => (Config.replyFields a).take (Config.maxPayload - 1)

/-- A telegram with its check: kind, tag, length, payload, and the CRC high byte first. -/
def telegram (kind tag : Byte) (payload : List Byte) : List Byte :=
  let head := kind :: tag :: byteOf payload.length :: payload
  head ++ crcBytes (crc16 head)

/-- The characters of a reply: every reply has its envelope and its check (R178, R179). -/
def Reply.telegram (r : Reply) : List Byte := Machine.telegram r.kind r.tag r.answer.payload

end Sys2Proof.Machine
end

