-- ==== Sys2Proof/Machine/Ops.lean ====
section
/-!
DEFINITION. The shared operations of the meanings: raising and removing attention causes, counting line errors,
forming, deferring and delivering replies, advancing the condition version, moving items and lift records, settling
the effective action and the lines, and changing the service mode.
-/

namespace Sys2Proof.Machine

open Sys2Proof

/-! ### Attention causes (R188) -/

/-- Raises a cause on one port. -/
def raiseAt (p : Port) (c : Cause) (s : State) : State := s.withAttn (s.attn.modify p (AttnPort.raise c))

/-- Raises a cause on all four ports. -/
def raiseAll (c : Cause) (s : State) : State := s.withAttn (s.attn.map (AttnPort.raise c))

/-- Removes a cause from one port's pending set. -/
def removeAt (p : Port) (c : Cause) (s : State) : State := s.withAttn (s.attn.modify p (AttnPort.remove c))

/-- Removes a cause from all four pending sets. -/
def removeAll (c : Cause) (s : State) : State := s.withAttn (s.attn.map (AttnPort.remove c))

/-! ### Line error counters (R181) -/

/-- The value of one counter. -/
def Counters.read (n : Counters) : LineErr → Nat
  | .framing => n.framing
  | .gap => n.gap
  | .oversize => n.oversize
  | .check => n.check
  | .unknown => n.unknown
  | .role => n.role
  | .dropped => n.dropped

/-- The counters with one of them one higher. -/
def Counters.bump (n : Counters) : LineErr → Counters
  | .framing => { n with framing := n.framing + 1 }
  | .gap => { n with gap := n.gap + 1 }
  | .oversize => { n with oversize := n.oversize + 1 }
  | .check => { n with check := n.check + 1 }
  | .unknown => { n with unknown := n.unknown + 1 }
  | .role => { n with role := n.role + 1 }
  | .dropped => { n with dropped := n.dropped + 1 }

/-- The state with one port's state changed by `f`. -/
def State.modifyPort (s : State) (p : Port) (f : PortState → PortState) : State := s.withPorts (s.ports.modify p f)

/-- Counts an error of a port and raises LINE ERROR on it; a counter held at 255 does not rise and raises nothing. -/
def countError (p : Port) (e : LineErr) (s : State) : State :=
  if (s.ports.get p).counters.read e < 255 then
    raiseAt p .lineError (s.modifyPort p (fun q => { q with counters := q.counters.bump e }))
  else s

/-! ### Replies (R178, R183, R184) -/

/-- An answer of a status alone. -/
def bare (st : Status) : Answer := ⟨st, .statusOnly⟩

/-- A reply's kind byte: the request's kind with its high bit set (R178). -/
def replyKind (kind : Byte) : Byte := kind ||| 0x80

/-- Hands a reply to a port's transmitter, behind those it holds (R184). -/
def queueReply (p : Port) (e : TxEntry) (s : State) : State := s.modifyPort p (fun q => { q with tx := q.tx ++ [e] })

/-- Forms the reply to a request and hands it to its port's transmitter (R183). -/
def answer (c : Caller) (a : Answer) (s : State) : State :=
  queueReply c.port ⟨⟨replyKind c.kind, c.tag, a⟩, some c.mark⟩ s

/-- Keeps a deferred-reply entry for a request (R183). -/
def defer (c : Caller) (s : State) : State := s.modifyPort c.port (fun q => { q with deferred := some c })

/-- Hands on a deferred reply: sent only if the port's entry still marks this request, and the entry is then removed;
otherwise discarded unsent (R183). -/
def deliver (c : Caller) (a : Answer) (s : State) : State :=
  if (s.ports.get c.port).deferred = some c then
    answer c a (s.modifyPort c.port (fun q => { q with deferred := none }))
  else s

/-- Hands on a deferred reply to a request that may be none. -/
def deliverTo (c : Option Caller) (a : Answer) (s : State) : State :=
  match c with
  | none => s
  | some c => deliver c a s

/-! ### The routine trigger and the condition version (R35, R91) -/

/-- Raises a routine request (R78). -/
def raiseRoutine (s : State) : State := s.withEval { s.eval with slotRoutine := true }

/-- Raises a routine request in the CONTINUOUS mode (R91). -/
def triggerRoutine (s : State) : State := if s.eval.routineMode = .continuous then raiseRoutine s else s

/-- Advances the condition version, which in the CONTINUOUS mode raises a routine request (R35, R91). -/
def advance (s : State) : State := triggerRoutine (s.withCond { s.cond with version := s.cond.version + 1 })

/-- Whether a capture is in progress (R36). -/
def State.capturing (s : State) : Bool :=
  match s.eval.engine with
  | none => false
  | some j => j.stage == .capturing

/-! ### Items and compartments (R31, R32, R45) -/

/-- The state with an item record written. -/
def State.setItem (s : State) (tag : Nat) (it : ItemRecord) : State :=
  s.withCond { s.cond with items := s.cond.items.put tag it }

/-- The state with a compartment's live state written. -/
def State.setComp (s : State) (n : Nat) (cs : CompState) : State :=
  s.withCond { s.cond with comps := s.cond.comps.store .empty n cs }

/-- An item joins a compartment: its tag at the tail of the stow list, its mass in the load. -/
def stowIn (tag : Nat) (mass : Int) (n : Nat) (s : State) : State :=
  s.setComp n { s.comp n with load := (s.comp n).load + mass, stow := (s.comp n).stow ++ [tag] }

/-- An item leaves a compartment: its tag out of the stow list, its mass out of the load. -/
def stowOut (tag : Nat) (mass : Int) (n : Nat) (s : State) : State :=
  s.setComp n { s.comp n with load := (s.comp n).load - mass, stow := (s.comp n).stow.filter (fun t => t != tag) }

/-- An ABOARD item leaves its compartment; any other item is in none. -/
def leaveComp (tag : Nat) (it : ItemRecord) (s : State) : State :=
  match it.state, it.actual with
  | .aboard, some pl => stowOut tag it.mass pl.comp s
  | _, _ => s

/-- An item whose plan rests on the tag loses the rests-on field of that plan (R45). -/
def dropPlanRest (tag : Nat) (it : ItemRecord) : ItemRecord :=
  match it.plan with
  | some (.place pl) => if restsOn pl tag then { it with plan := some (.place { pl with restsOn := none }) } else it
  | _ => it

/-- The deletion of an item record (R45). -/
def deleteItem (tag : Nat) (s : State) : State :=
  match s.item tag with
  | none => s
  | some it =>
    let t := leaveComp tag it s
    t.withCond { t.cond with items := (t.cond.items.drop tag).mapVals (fun _ x => dropPlanRest tag x) }

/-- The mass of an item, 0 where the table does not hold its tag. -/
def State.massOf (s : State) (tag : Nat) : Int := (s.item tag).elim 0 (fun it => it.mass)

/-! ### Effective action and lines (R110 to R113) -/

/-- Drives the permit lines and CALARM from the mode, the priming and the effective action. -/
def driveLines (s : State) : State := s.withLines (lineLevels s.ship.mode s.mon.primed s.mon.effective)

/-- Recomputes the effective action; the lines follow, and a fall raises ACTION CLEARED on all ports. -/
def settle (s : State) : State :=
  let e := effectiveOf s.mon.slots
  let t := driveLines (s.withMon { s.mon with effective := e })
  if actionRank e < actionRank s.mon.effective then raiseAll .actionCleared t else t

/-! ### Service mode (R17) -/

/-- A change of the service mode: the lines follow, and SERVICE CHANGE is raised on all ports when the mode differs. -/
def changeMode (m : ServiceMode) (r : Option FaultReason) (s : State) : State :=
  let t := driveLines (s.withShip { s.ship with mode := m, faultReason := r })
  if s.ship.mode = m then t else raiseAll .serviceChange t

/-- Starts the interval timer with the routine interval, in the CONTINUOUS mode (R92). -/
def startInterval (s : State) : State :=
  match s.eval.routineMode with
  | .continuous => s.withEval { s.eval with intervalTimer := some s.eval.interval }
  | .onRequest => s

/-- Entry to IN SERVICE: the monitor is not primed, a routine request is raised in either mode, the interval timer
starts, and the mode changes (R17, R92). -/
def enterService (s : State) : State :=
  changeMode .inService none (startInterval (raiseRoutine (s.withMon { s.mon with primed := false })))

/-- Loads the criterion slots and the range from the image, makes every compartment OPEN and clears SLOTS UNLOADED
(R14, R16, R103). -/
def loadSlots (s : State) : State :=
  let t := s.withMon { s.mon with slots := s.ship.image.slots, rangeStart := s.ship.image.range.1,
                                  rangeStop := s.ship.image.range.2 }
  let u := t.withCond { t.cond with
    comps := (t.cond.comps.mapVals (fun _ cs => { cs with flag := .opened })).filter (fun e => e.2 != .empty) }
  settle (u.withShip { u.ship with slotsUnloaded := false })

/-! ### Lift records (R124, R132, R140) -/

/-- The state with one lift record written. -/
def State.setRecord (s : State) (c : Crane) (r : LiftRecord) : State :=
  s.withLifts { s.lifts with records := s.lifts.records.set c r }

/-- The lift record of a crane. -/
def State.record (s : State) (c : Crane) : LiftRecord := s.lifts.records.get c

/-- The role of a record; none in IDLE. -/
def liftRole (r : LiftRecord) : Option LiftRole := r.lift.map Lift.role

/-- Whether a record is the lead of a tandem lift whose partner has joined. -/
def State.ledTandem (s : State) (c : Crane) : Bool :=
  liftRole (s.record c) == some .lead && liftRole (s.record (otherCrane c)) == some .partner &&
  (s.record (otherCrane c)).state == (s.record c).state

/-- The cranes whose records move together with the record of `c`: both for a tandem lift, one otherwise (R132). -/
def State.crew (s : State) (c : Crane) : List Crane := if s.ledTandem c then [c, otherCrane c] else [c]

/-- A record returned to IDLE: its last check report is kept (R124). -/
def idleRecord (r : LiftRecord) : LiftRecord := { LiftRecord.idle with report := r.report }

/-- Removes SILENT LIFT from all ports when the last SILENT mark has been cleared between the two states (R188). -/
def endSilence (before s : State) : State :=
  if before.anySilent && !s.anySilent then removeAll .silentLift s else s

/-- A record enters DONE with an outcome: no timer, SILENT clear, the outcome record kept, and OUTCOME READY raised on
its port (R124). The final placement is the origin where none is given (R146). -/
def finishOne (code : OutcomeCode) (final : Option Goal) (mass : Int) (c : Crane) (s : State) : State :=
  match (s.record c).lift with
  | none => s
  | some l =>
    let t := s.setRecord c { s.record c with state := .done, timer := none, silent := false, outcome := some code }
    raiseAt (cranePort c) .outcomeReady
      (t.withLifts { t.lifts with ended := t.lifts.ended.set c (some ⟨mass, final.getD l.origin⟩) })

/-- The records of a crew enter DONE together with the same outcome (R132). -/
def finishLift (code : OutcomeCode) (final : Option Goal) (mass : Int) (cs : List Crane) (s : State) : State :=
  endSilence s (cs.foldl (fun t c => finishOne code final mass c t) s)

/-- The mass of the item that a record names, as the table holds it. -/
def State.liftMass (s : State) (c : Crane) : Int := (s.record c).lift.elim 0 (fun l => s.massOf l.tag)

/-- Raises a lift check in a crane's slot, with its moment (R78, log 15). -/
def raiseLiftCheck (c : Crane) (s : State) : State :=
  match c with
  | .crane1 => s.withEval { s.eval with slotC1 := some s.eval.raiseClock, raiseClock := s.eval.raiseClock + 1 }
  | .crane2 => s.withEval { s.eval with slotC2 := some s.eval.raiseClock, raiseClock := s.eval.raiseClock + 1 }

/-- A lift timer started with its full length. -/
def freshTimer (s : State) (k : TimerKind) : RunningTimer :=
  match k with
  | .joinWindow => ⟨k, seconds s.ship.image.timerLengths.joinWindow⟩
  | .grantLapse => ⟨k, seconds s.ship.image.timerLengths.grantLapse⟩
  | .report => ⟨k, seconds s.ship.image.timerLengths.report⟩

/-- A hook report or landing arrives from a crane whose record is SLUNG: its report timer starts again and its SILENT
mark is cleared (R140). -/
def reportArrives (c : Crane) (s : State) : State :=
  if (s.record c).state = .slung then
    endSilence s (s.setRecord c { s.record c with timer := some (freshTimer s .report), silent := false })
  else s

/-! ### Emptying (R10, R20) -/

/-- The result banks and the prospective result emptied, with both numberings restarted (R100, R101, R120). -/
def emptyResults (s : State) : State :=
  (s.withEval { s.eval with working := none, latest := none, prior := none, lastSeq := 0, prospect := none,
                            lastProspectSeq := 0 }).withMon { s.mon with lastJudged := 0 }

/-- The job slots emptied and the job in the engine abandoned, with the interval timer stopped (R11, R20, R92). -/
def abandonJobs (s : State) : State :=
  s.withEval { s.eval with slotC1 := none, slotC2 := none, slotProspect := none, slotRoutine := false, engine := none,
                           intervalTimer := none }

/-- The next sequence number after `n`: one more, and 1 after 65535 (R95). -/
def nextSeq (n : Nat) : Nat := if n < 65535 then n + 1 else 1

/-! ### The passing of one second (R156 and the timers; log 3) -/

/-- A lift timer one second later. -/
def tickTimer (r : LiftRecord) : LiftRecord :=
  { r with timer := r.timer.map (fun t => { t with remaining := t.remaining - 1 }) }

/-- One second passes: every running timer has one second less and the draft reading is one second older. -/
def tick (s : State) : State :=
  let t := s.withLifts { s.lifts with records := s.lifts.records.map tickTimer }
  let u := t.withEval { t.eval with intervalTimer := t.eval.intervalTimer.map (fun n => n - 1) }
  u.withTanks { u.tanks with reading := u.tanks.reading.map (fun r => { r with age := min (r.age + 1) 65535 }) }

end Sys2Proof.Machine
end

