-- ==== Sys2Proof/Machine/Changes.lean ====
section
/-!
DEFINITION. The changes of the condition (R36): the eight planning requests (R34, R38 to R47), SOUNDINGS (R152), and
the taking of a change, at once or on the hold list. Hook and landing reports stand in Lifts.
-/

namespace Sys2Proof.Machine

open Sys2Proof

/-- A change's application: the state after and the answer. -/
abbrev Applied := State × Answer

/-- A change refused: nothing changes, and the reply carries the version (R35, R36). -/
def refuse (st : Status) (s : State) : Applied := (s, ⟨st, .version s.cond.version⟩)

/-- A change applied: the version advances and the reply carries it (R36). -/
def accept (st : Status) (s : State) : Applied :=
  let t := advance s
  (t, ⟨st, .version t.cond.version⟩)

/-! ### ADD ITEMS (R38, R39) -/

/-- Test 1 of an entry: the fields that are out of their values. -/
def entryMalformed (e : Entry) : Bool :=
  e.tag == 0 || e.kind.isNone || e.state.isNone || !within 1 60000 e.mass || !within 0 15 e.dport ||
  (e.kind == some .constant && (e.state == some .pending || e.plan.isSome)) ||
  (e.state == some .pending && (e.place == .ashore || e.plan.isSome)) ||
  (e.state == some .aboard && e.place == .ashore)

/-- Test 3 of an entry: its placement is invalid as a new plan or as a declaration aboard. -/
def entryPlaceInvalid (s : State) (e : Entry) : Bool :=
  match e.place with
  | .ashore => true
  | .place pl => !placementValid s (if e.state == some .pending then .newPlan else .declaration) e.tag pl

/-- Test 4 of an entry: its plan is a placement that is invalid as a new plan. -/
def entryPlanInvalid (s : State) (e : Entry) : Bool :=
  match e.plan with
  | some (.place pl) => !placementValid s .newPlan e.tag pl
  | _ => false

/-- The first test that an entry fails, with the entries before it already applied in `s` (R38). -/
def entryFault (s : State) (e : Entry) : Option Status :=
  if entryMalformed e then some .badArgument
  else if (s.item e.tag).isSome then some .tagInUse
  else if entryPlaceInvalid s e then some .badPlacement
  else if entryPlanInvalid s e then some .badPlacement
  else if Config.maxItems ≤ s.cond.items.length then some .tableFull
  else none

/-- The item record that an entry creates, where its fields have their values (R39). -/
def entryRecord (e : Entry) : ItemRecord :=
  match e.state, e.place with
  | some .aboard, .place pl => ⟨e.kind.getD .cargo, .aboard, e.mass, e.dport, some pl, e.plan, none⟩
  | _, g => ⟨e.kind.getD .cargo, .pending, e.mass, e.dport, none, some g, none⟩

/-- One entry applied: its record, and for an ABOARD entry its compartment's stow list and load (R39). -/
def applyEntry (s : State) (e : Entry) : State :=
  let t := s.setItem e.tag (entryRecord e)
  match e.state, e.place with
  | some .aboard, .place pl => stowIn e.tag e.mass pl.comp t
  | _, _ => t

/-- The entries from number `k` on, each tested with those before it applied: the state with all applied, or the first
failing status with its entry number (R38). -/
def addEntries (k : Nat) (s : State) : List Entry → Except (Status × Nat) State
  | [] => .ok s
  | e :: rest =>
    match entryFault s e with
    | some st => .error (st, k)
    | none => addEntries (k + 1) (applyEntry s e) rest

/-- The warnings of an item's plan against the condition as it stands (R166, R167). -/
def planWarnings (s : State) (dport : Int) (pl : Placement) : List Warning :=
  (match pl.restsOn with
   | none => []
   | some r =>
     match s.item r with
     | none => []
     | some it =>
       if it.dport ≠ 0 ∧ dport ≠ 0 ∧ it.dport < dport then [.portOrder r it.dport] else []) ++
  (match s.ship.image.stowComp pl.comp with
   | none => []
   | some (_, _, m) =>
     if m < s.plannedLoad pl.comp then [.overLoad pl.comp (s.plannedLoad pl.comp) m] else [])

/-- The planned placement that an entry carries, if any (R167). -/
def entryPlan (e : Entry) : Option Placement :=
  let g := if e.state == some .pending then some e.place else e.plan
  match g with
  | some (.place pl) => some pl
  | _ => none

/-- The entries that carry warnings, with their numbers from `k` on (R39). -/
def entryWarnings (s : State) : Nat → List Entry → List (Nat × List Warning)
  | _, [] => []
  | k, e :: rest =>
    match (entryPlan e).elim [] (planWarnings s e.dport) with
    | [] => entryWarnings s (k + 1) rest
    | ws => (k, ws) :: entryWarnings s (k + 1) rest

/-- DONE, or WARNING with the warnings found (R39, R41, R167). -/
def acceptWarned (ws : List (Nat × List Warning)) (s : State) : Applied :=
  match ws with
  | [] => accept .done s
  | _ =>
    let t := advance s
    (t, ⟨.warning, .warnings ws t.cond.version⟩)

/-- ADD ITEMS applied (R38, R39). -/
def applyAddItems (es : List Entry) (s : State) : Applied :=
  if es.length = 0 ∨ Config.maxEntries < es.length then (s, ⟨.badArgument, .entryRefused 0 s.cond.version⟩)
  else
    match addEntries 1 s es with
    | .error (st, k) => (s, ⟨st, .entryRefused k s.cond.version⟩)
    | .ok t => acceptWarned (entryWarnings t 1 es) t

/-! ### AMEND ITEM, PLAN MOVE, CANCEL PLAN, REMOVE ITEM -/

/-- Whether an item is SLUNG or named by a lift record (R25). -/
def State.itemBusy (s : State) (tag : Nat) (it : ItemRecord) : Bool := it.state == .slung || s.named tag

/-- The compartment load of an ABOARD item changed by a difference of its mass (R31). -/
def shiftLoad (it : ItemRecord) (diff : Int) (s : State) : State :=
  match it.state, it.actual with
  | .aboard, some pl => s.setComp pl.comp { s.comp pl.comp with load := (s.comp pl.comp).load + diff }
  | _, _ => s

/-- AMEND ITEM applied (R40). -/
def applyAmendItem (tag : Nat) (mass dport : Option Int) (s : State) : Applied :=
  if (mass.isNone && dport.isNone) || !(mass.elim true (within 1 60000)) || !(dport.elim true (within 0 15)) then
    refuse .badArgument s
  else match s.item tag with
    | none => refuse .noSuchItem s
    | some it =>
      if s.itemBusy tag it then refuse .itemBusy s
      else
        let m := mass.getD it.mass
        accept .done (shiftLoad it (m - it.mass) (s.setItem tag { it with mass := m, dport := dport.getD it.dport }))

/-- Whether a plan is a placement that is invalid as a new plan of the item. -/
def planInvalid (s : State) (tag : Nat) : Goal → Bool
  | .ashore => false
  | .place pl => !placementValid s .newPlan tag pl

/-- The warnings of a PLAN MOVE; its one item stands as entry 1. -/
def moveWarnings (s : State) (dport : Int) (g : Goal) : List (Nat × List Warning) :=
  match g with
  | .ashore => []
  | .place pl =>
    match planWarnings s dport pl with
    | [] => []
    | ws => [(1, ws)]

/-- PLAN MOVE applied (R41). A plan is malformed when it is neither a placement nor ASHORE, and when a coordinate lies
outside the ranges of the opening file, as R126, R141 and R169 have it (log 36, DEDUCED). -/
def applyPlanMove (tag : Nat) (plan : Option Goal) (s : State) : Applied :=
  match plan with
  | none => refuse .badArgument s
  | some g =>
    if goalOk g = false then refuse .badArgument s
    else match s.item tag with
    | none => refuse .noSuchItem s
    | some it =>
      if it.kind = .constant then refuse .notLiftable s
      else if s.itemBusy tag it then refuse .itemBusy s
      else if it.state = .pending ∧ g = .ashore then refuse .badArgument s
      else if planInvalid s tag g then refuse .badPlacement s
      else
        let t := s.setItem tag { it with plan := some g }
        acceptWarned (moveWarnings t it.dport g) t

/-- CANCEL PLAN applied (R42). -/
def applyCancelPlan (tag : Nat) (s : State) : Applied :=
  match s.item tag with
  | none => refuse .noSuchItem s
  | some it =>
    if s.itemBusy tag it then refuse .itemBusy s
    else if it.state = .pending then refuse .badArgument s
    else if it.plan.isNone then refuse .badArgument s
    else accept .done (s.setItem tag { it with plan := none })

/-- REMOVE ITEM applied (R44, R45). -/
def applyRemoveItem (tag : Nat) (s : State) : Applied :=
  match s.item tag with
  | none => refuse .noSuchItem s
  | some it =>
    if s.itemBusy tag it then refuse .itemBusy s
    else if s.overstowed tag then refuse .overstowed s
    else accept .done (deleteItem tag s)

/-! ### SET COMPARTMENT, CLEAR CONDITION, SET DENSITY -/

/-- SET COMPARTMENT applied (R46). -/
def applySetCompartment (n : Nat) (flag : Option OpenFlag) (s : State) : Applied :=
  match s.ship.image.stowComp n, flag with
  | some _, some f => accept .done (s.setComp n { s.comp n with flag := f })
  | _, _ => refuse .badArgument s

/-- Every stow list emptied and every load 0; the open flags are kept. -/
def emptyStows (s : State) : State :=
  s.withCond { s.cond with
    items := []
    comps := (s.cond.comps.mapVals (fun _ cs => { cs with load := 0, stow := [] })).filter (fun e => e.2 != .empty) }

/-- CLEAR CONDITION applied (R47). -/
def applyClearCondition (s : State) : Applied :=
  if s.liftsActive then refuse .liftsActive s
  else
    let t := emptyStows s
    accept .done ((t.withTanks { t.tanks with fills := [] }).withTrials ⟨[], false⟩)

/-- SET DENSITY applied (R34). -/
def applySetDensity (d : Int) (s : State) : Applied :=
  let v := bringInto 990 1030 d
  let t := advance (s.withCond { s.cond with density := v })
  (t, ⟨if v = d then .done else .clamped, .density v t.cond.version⟩)

/-! ### SOUNDINGS (R152) -/

/-- The counts of a SOUNDINGS while its pairs are taken. -/
structure Sounded where
  fills : Table Nat
  applied : Nat
  clamped : Nat
  skipped : Nat
  first : Option Nat
deriving DecidableEq, Repr

/-- One pair of a SOUNDINGS. -/
def soundPair (img : Image) (q : Sounded) (pair : Nat × Nat) : Sounded :=
  if img.isTank pair.1 then
    { q with
      fills := q.fills.store 0 pair.1 (min pair.2 1000)
      applied := q.applied + 1
      clamped := if 1000 < pair.2 then q.clamped + 1 else q.clamped }
  else { q with skipped := q.skipped + 1, first := q.first.or (some pair.1) }

/-- SOUNDINGS applied (R152). -/
def applySoundings (pairs : List (Nat × Nat)) (s : State) : Applied :=
  let q := pairs.foldl (soundPair s.ship.image) ⟨s.tanks.fills, 0, 0, 0, none⟩
  if q.applied = 0 then (s, ⟨.badArgument, .soundings 0 0 q.skipped q.first s.cond.version⟩)
  else
    let t := advance (s.withTanks { s.tanks with fills := q.fills })
    (t, ⟨if q.clamped = 0 then .done else .clamped, .soundings q.applied q.clamped q.skipped q.first t.cond.version⟩)

end Sys2Proof.Machine
end

