-- ==== Sys2Proof/Machine/Lifts.lean ====
section
/-!
DEFINITION. The lift clearance unit (chapter 06): the lift requests and joins, hook and landing reports, aborts and
outcomes, and the two timers that end a lift.
-/

namespace Sys2Proof.Machine

open Sys2Proof

/-! ### LIFT REQUEST (R126 to R128) -/

/-- The tests of form of a LIFT REQUEST (R126). -/
def liftMalformed (dest : Option Goal) (outreach hook : Point) (partner : Option PortRef) (share : Option Nat) : Bool :=
  !(dest.elim false goalOk) || !pointOk outreach || !pointOk hook ||
  (match partner, share with
   | none, none => false
   | none, some _ => true
   | some _, none => true
   | some _, some n => !(decide (100 ≤ n) && decide (n ≤ 900)))

/-- Whether a goal equals a plan (R28); an absent plan is met by any goal. -/
def meetsPlan (plan : Option Goal) (g : Goal) : Bool :=
  match plan with
  | none => true
  | some p => p == g

/-- Whether a destination passes the lift destination tests; ASHORE passes (R127, check 11). -/
def destValid (s : State) (tag : Nat) : Goal → Bool
  | .ashore => true
  | .place pl => placementValid s .liftDest tag pl

/-- Whether the named partner is the other crane port (R127, check 12). -/
def partnerOk (c : Crane) : Option PortRef → Bool
  | none => true
  | some r => r == .port (cranePort (otherCrane c))

/-- Checks 2 to 5 of R127, which JOIN LIFT shares (R130): the own record, SILENT marks and the effective action. -/
def ownFault (s : State) (c : Crane) : Option Status :=
  if (s.record c).state = .done then some .outcomePending
  else if (s.record c).state ≠ .idle then some .busy
  else if s.anySilent then some .silentLift
  else if 2 ≤ actionRank s.mon.effective then some .held
  else none

/-- Checks 6 to 12 of R127, on the item and the destination. -/
def itemFault (s : State) (c : Crane) (tag : Nat) (dest : Goal) (partner : Option PortRef) : Option Status :=
  match s.item tag with
  | none => some .noSuchItem
  | some it =>
    if it.kind = .constant then some .notLiftable
    else if it.state = .slung ∨ recordNames (s.record (otherCrane c)) tag = true then some .itemBusy
    else if s.overstowed tag then some .overstowed
    else if meetsPlan it.plan dest = false then some .offPlan
    else if destValid s tag dest = false then some .badPlacement
    else if partnerOk c partner = false then some .partner
    else none

/-- The origin of a lift: the actual placement of an ABOARD item, ASHORE for a PENDING one (R128). -/
def originOf (it : Option ItemRecord) : Goal :=
  match it with
  | none => .ashore
  | some r =>
    match r.actual with
    | none => .ashore
    | some pl => .place pl

/-- A record that leaves IDLE: the lift's fields written, no check report, SILENT clear and no outcome (R124). -/
def startRecord (st : LiftState) (l : Lift) (t : Option RunningTimer) : LiftRecord := ⟨st, some l, t, false, none, none⟩

/-- The state with the request noted whose reply waits on a crane's record. -/
def State.awaitLift (s : State) (c : Crane) (w : Option Caller) : State :=
  s.withLifts { s.lifts with waiting := s.lifts.waiting.set c w }

/-- A LIFT REQUEST accepted: a single lift enters CHECKING and raises its check; a tandem lead enters JOINING and
starts the join window. The reply is deferred (R128). -/
def startLift (c : Crane) (q : Caller) (tag : Nat) (dest : Goal) (outreach hook : Point) (share : Option Nat)
    (s : State) : State :=
  let origin := originOf (s.item tag)
  let t :=
    match share with
    | none => raiseLiftCheck c (s.setRecord c (startRecord .checking ⟨tag, origin, dest, outreach, some hook, .single, none⟩ none))
    | some n =>
      s.setRecord c (startRecord .joining ⟨tag, origin, dest, outreach, some hook, .lead, some n⟩
        (some (freshTimer s .joinWindow)))
  defer q (t.awaitLift c (some q))

/-- LIFT REQUEST taken by the unit (R126, R127, R128). -/
def takeLiftRequest (tag : Nat) (dest : Option Goal) (outreach hook : Point) (partner : Option PortRef)
    (share : Option Nat) (q : Caller) (s : State) : State :=
  match craneOf q.port, dest with
  | some c, some g =>
    if liftMalformed dest outreach hook partner share then answer q (bare .badArgument) s
    else
      match (ownFault s c).or (itemFault s c tag g partner) with
      | some st => answer q (bare st) s
      | none => startLift c q tag g outreach hook (if partner.isSome then share else none) s
  | _, _ => answer q (bare .badArgument) s

/-! ### JOIN LIFT (R130) -/

/-- Check 1 of R130: the lead port is the other crane's and its record is JOINING for the item. -/
def noSuchJoin (s : State) (c : Crane) (lead : PortRef) (tag : Nat) : Bool :=
  !(lead == .port (cranePort (otherCrane c))) || !((s.record (otherCrane c)).state == .joining) ||
  !(recordNames (s.record (otherCrane c)) tag)

/-- A JOIN LIFT accepted (R130): the window stops, the partner takes the lift's fields, both records enter CHECKING,
and one check is raised in the lead's slot. -/
def joinTandem (c : Crane) (q : Caller) (outreach : Point) (l : Lift) (s : State) : State :=
  let lead := otherCrane c
  let t := s.setRecord lead { s.record lead with state := .checking, timer := none }
  let u := t.setRecord c (startRecord .checking { l with outreach := outreach, hook := none, role := .partner } none)
  defer q ((raiseLiftCheck lead u).awaitLift c (some q))

/-- JOIN LIFT taken by the unit (R130). -/
def takeJoinLift (leadRef : PortRef) (tag : Nat) (outreach : Point) (q : Caller) (s : State) : State :=
  match craneOf q.port with
  | none => answer q (bare .badArgument) s
  | some c =>
    if pointOk outreach = false then answer q (bare .badArgument) s
    else if noSuchJoin s c leadRef tag then answer q (bare .noSuchLift) s
    else
      match ownFault s c, (s.record (otherCrane c)).lift with
      | some st, _ => answer q (bare st) s
      | none, some l => joinTandem c q outreach l s
      | none, none => answer q (bare .noSuchLift) s

/-! ### HOOK ON, HOOK AT (R137 to R140) -/

/-- A HOOK ON arrives: the grant lapse timer of a single or lead record in GRANTED stops (R137). -/
def hookArrives (c : Crane) (s : State) : State :=
  if (s.record c).state = .granted ∧ liftRole (s.record c) ≠ some .partner then
    s.setRecord c { s.record c with timer := none }
  else s

/-- A record enters SLUNG at a hook point and its report timer starts (R138). -/
def slingRecord (c : Crane) (q : Point) (s : State) : State :=
  s.setRecord c { s.record c with
    state := .slung, lift := (s.record c).lift.map (fun l => { l with hook := some q }),
    timer := some (freshTimer s .report) }

/-- The item of a HOOK ON becomes SLUNG: it leaves its compartment, if it was ABOARD, and its lift link is set (R138). -/
def slingItem (tag : Nat) (c : Crane) (s : State) : State :=
  match s.item tag with
  | none => s
  | some it => (leaveComp tag it s).setItem tag { it with state := .slung, actual := none, link := some c }

/-- A tandem partner enters SLUNG at its own outreach point (R138). -/
def slingPartner (c : Crane) (s : State) : State :=
  match recordOutreach (s.record c) with
  | none => s
  | some q => slingRecord c q s

/-- HOOK ON applied (R137, R138). -/
def applyHookOn (c : Crane) (q : Point) (s : State) : Applied :=
  if liftRole (s.record c) = some .partner then refuse .notLead s
  else
    match (s.record c).state, (s.record c).lift with
    | .granted, some l =>
      let t := slingItem l.tag c s
      let u := if s.ledTandem c then slingPartner (otherCrane c) t else t
      accept .done (slingRecord c q u)
    | _, _ => refuse .noSuchLift s

/-- HOOK AT applied (R139). -/
def applyHookAt (c : Crane) (q : Point) (s : State) : Applied :=
  if (s.record c).state = .slung then
    accept .done (s.setRecord c { s.record c with lift := (s.record c).lift.map (fun l => { l with hook := some q }) })
  else refuse .noSuchLift s

/-! ### LANDED (R141 to R144) -/

/-- The span of a landing, x aft and x fore, brought into a compartment and cut to 4000 cm (R143, steps 2 and 3). -/
def clampSpan (r : CompRecord) (xa xf : Int) : Int × Int :=
  let a := bringInto r.xAft r.xFore xa
  let f := bringInto r.xAft r.xFore xf
  if f < a then (a, a) else if 4000 < f - a then (a, a + 4000) else (a, f)

/-- A landing placement clamped into a compartment (R143). -/
def clampInto (s : State) (tag : Nat) (n : Nat) (pl : Placement) : Placement :=
  match s.ship.image.comp n with
  | none => { pl with comp := n }
  | some r =>
    let x := clampSpan r pl.xAft pl.xFore
    let q : Placement := ⟨n, x.1, x.2, bringInto r.yMin r.yMax pl.y, bringInto r.zFloor r.zTop pl.z, pl.restsOn⟩
    if restsOnOk s .landing tag q then q else { q with restsOn := none }

/-- The compartment into which an invalid landing is clamped: the destination's, or the origin's when the destination
is ASHORE (R143). -/
def clampComp (l : Lift) (pl : Placement) : Nat := (goalComp l.dest).getD ((goalComp l.origin).getD pl.comp)

/-- The outcome and the final placement of a landing (R142). -/
def landingOutcome (s : State) (l : Lift) : Goal → OutcomeCode × Goal
  | .ashore => (if l.dest = .ashore then .landed else .landedOffPlan, .ashore)
  | .place pl =>
    if placementValid s .landing l.tag pl then
      (if l.dest = .place pl then .landed else .landedOffPlan, .place pl)
    else (.landedClamped, .place (clampInto s l.tag (clampComp l pl) pl))

/-- The item set down at its final placement, or deleted when that is ASHORE (R144). -/
def setDown (tag : Nat) (final : Goal) (s : State) : State :=
  match final with
  | .ashore => deleteItem tag s
  | .place pl =>
    match s.item tag with
    | none => s
    | some it =>
      stowIn tag it.mass pl.comp (s.setItem tag
        { it with state := .aboard, actual := some pl, link := none,
                  plan := if it.plan = some final then none else it.plan })

/-- LANDED applied (R141, R142, R144). -/
def applyLanded (c : Crane) (g : Goal) (s : State) : Applied :=
  if liftRole (s.record c) = some .partner then refuse .notLead s
  else
    match (s.record c).state, (s.record c).lift with
    | .slung, some l =>
      let o := landingOutcome s l g
      let t := advance (finishLift o.1 (some o.2) (s.massOf l.tag) (s.crew c) (setDown l.tag o.2 s))
      (t, ⟨.done, .landed o.1 o.2 t.cond.version⟩)
    | _, _ => refuse .noSuchLift s

/-! ### Taking a change (R36, R37) -/

/-- A change validated and applied as one whole, from the port it came on (R36). -/
def applyChange (p : Port) (ch : Change) (s : State) : Applied :=
  match ch with
  | .addItems es => applyAddItems es s
  | .amendItem tag m d => applyAmendItem tag m d s
  | .planMove tag g => applyPlanMove tag g s
  | .cancelPlan tag => applyCancelPlan tag s
  | .removeItem tag => applyRemoveItem tag s
  | .setCompartment n f => applySetCompartment n f s
  | .clearCondition => applyClearCondition s
  | .setDensity d => applySetDensity d s
  | .soundings ps => applySoundings ps s
  | .hookOn q =>
    match craneOf p with
    | none => refuse .noSuchLift s
    | some c => applyHookOn c q s
  | .hookAt q =>
    match craneOf p with
    | none => refuse .noSuchLift s
    | some c => applyHookAt c q s
  | .landed g =>
    match craneOf p, g with
    | some c, some g => applyLanded c g s
    | _, _ => refuse .noSuchLift s

/-- The tests of form made at arrival, before a request is taken as a change (R36, R137, R139, R141, R151). -/
def changeMalformed : Change → Bool
  | .soundings ps => decide (ps.length = 0) || decide (Config.maxPairs < ps.length)
  | .hookOn q => !pointOk q
  | .hookAt q => !pointOk q
  | .landed g => !(g.elim false goalOk)
  | _ => false

/-- What the arrival of a hook or landing report does to its record's timers (R137, R140). -/
def changeArrives (p : Port) (ch : Change) (s : State) : State :=
  match ch, craneOf p with
  | .hookOn _, some c => hookArrives c s
  | .hookAt _, some c => reportArrives c s
  | .landed _, some c => reportArrives c s
  | _, _ => s

/-- A change taken by the condition store: refused for its form at arrival; held while a capture is in progress, or
answered BUSY when its port's earlier change is still held; otherwise applied at once (R36, R37, R83). -/
def takeChange (ch : Change) (q : Caller) (s : State) : State :=
  if changeMalformed ch then answer q ⟨.badArgument, .version s.cond.version⟩ s
  else
    let t := changeArrives q.port ch s
    if t.capturing then
      if t.cond.hold.any (fun h => h.caller.port == q.port) then answer q (bare .busy) t
      else defer q (t.withCond { t.cond with hold := t.cond.hold ++ [⟨q, ch⟩] })
    else
      let r := applyChange q.port ch t
      answer q r.2 r.1

/-! ### ABORT LIFT, COLLECT OUTCOME, READ LIFT (R125, R145, R146) -/

/-- ABORT LIFT taken by the unit; the rows of R145 from the top. -/
def takeAbortLift (q : Caller) (s : State) : State :=
  match craneOf q.port with
  | none => answer q (bare .noSuchLift) s
  | some c =>
    if (s.record c).state = .idle then answer q (bare .noSuchLift) s
    else if liftRole (s.record c) = some .partner then answer q (bare .notLead) s
    else match (s.record c).state with
      | .idle => answer q (bare .noSuchLift) s
      | .joining => answer q (bare .done) (finishLift .aborted none (s.liftMass c) [c] s)
      | .checking => answer q (bare .busy) s
      | .granted => answer q (bare .done) (finishLift .aborted none (s.liftMass c) (s.crew c) s)
      | .slung => answer q (bare .stillSlung) s
      | .done => answer q (bare .outcomePending) s

/-- The outcome record of a record in DONE (R146). -/
def outcomeOf (s : State) (c : Crane) : Option OutcomeRecord :=
  match (s.record c).state, (s.record c).lift, (s.record c).outcome, s.lifts.ended.get c with
  | .done, some l, some o, some e => some ⟨l.tag, e.mass, l.role, o, e.final, l.dest, (s.record c).report⟩
  | _, _, _, _ => none

/-- A record returned to IDLE, with nothing kept of its outcome (R124). -/
def returnIdle (c : Crane) (s : State) : State :=
  let t := s.setRecord c (idleRecord (s.record c))
  (t.withLifts { t.lifts with ended := t.lifts.ended.set c none }).awaitLift c none

/-- COLLECT OUTCOME taken by the unit (R146); OUTCOME READY ends on that port (R188). -/
def takeCollectOutcome (q : Caller) (s : State) : State :=
  match craneOf q.port with
  | none => answer q (bare .nothingPending) s
  | some c =>
    match outcomeOf s c with
    | none => answer q (bare .nothingPending) s
    | some o => answer q ⟨.done, .layout (outcomeBytes o)⟩ (removeAt q.port .outcomeReady (returnIdle c s))

/-- READ LIFT taken by the unit (R125). -/
def takeReadLift (sel : Option Crane) (q : Caller) (s : State) : State :=
  match sel with
  | none => answer q (bare .badArgument) s
  | some c => answer q ⟨.done, .liftRecord (s.record c) s.cond.version⟩ s

/-! ### Timer expiries (R131, R136, R140) -/

/-- The running timer's kind. -/
def timerKind (r : LiftRecord) : Option TimerKind := r.timer.map RunningTimer.kind

/-- The join window of a lead in JOINING expires (R131). -/
def joinWindowExpires (c : Crane) (s : State) : State :=
  if (s.record c).state = .joining ∧ timerKind (s.record c) = some .joinWindow then
    let w := s.lifts.waiting.get c
    deliverTo w (bare .joinLapsed) ((finishLift .joinLapsed none (s.liftMass c) [c] s).awaitLift c none)
  else s

/-- The grant lapse timer of a single or lead record in GRANTED expires (R136). -/
def grantLapses (c : Crane) (s : State) : State :=
  if (s.record c).state = .granted ∧ timerKind (s.record c) = some .grantLapse then
    finishLift .grantLapsed none (s.liftMass c) (s.crew c) s
  else s

/-- The report timer of a SLUNG record expires (R140): SILENT is set, SILENT LIFT is raised on all ports, and no timer
runs until the next report. -/
def reportLapses (c : Crane) (s : State) : State :=
  if (s.record c).state = .slung ∧ timerKind (s.record c) = some .report then
    raiseAll .silentLift (s.setRecord c { s.record c with timer := none, silent := true })
  else s

end Sys2Proof.Machine
end

