-- ==== Sys2Proof/Machine/ShipData.lean ====
section
/-!
DEFINITION. The ship data store (chapter 01): IDENTIFY, the three requests of a load (R10 to R13), the ends of a commit
and of verification (R14, R16), and the two kinds of restart (R18 to R20, R148, R187, R192).
-/

namespace Sys2Proof.Machine

open Sys2Proof

/-! ### IDENTIFY (R21) -/

/-- What IDENTIFY reports. -/
def identityOf (s : State) : Identity where
  vendor := Config.vendor
  part := Config.part
  revision := Config.revision
  mode := s.ship.mode
  faultReason := if s.ship.mode = .dataFault then s.ship.faultReason else none
  restartCause := s.ship.restartCause
  present := s.ship.present
  checkWord := if s.ship.present then s.ship.checkWord else 0
  version := s.cond.version
  routineMode := s.eval.routineMode
  interval := s.eval.interval

/-- IDENTIFY taken by the ship data store (R21). -/
def takeIdentify (q : Caller) (s : State) : State := answer q ⟨.done, .identity (identityOf s)⟩ s

/-! ### OPEN DATA (R10, R11) -/

/-- Whether a record refuses OPEN DATA in a service mode: in DATA FAULT a SLUNG record does not (R10). -/
def blocksOpen (m : ServiceMode) (r : LiftRecord) : Bool := liftActive r && !(m == .dataFault && r.state == .slung)

/-- Why OPEN DATA is refused, or none where it is accepted (R10). -/
def openFault (s : State) : Option Status :=
  if s.ship.committing.isSome then some .notReady
  else if blocksOpen s.ship.mode s.lifts.records.c1 || blocksOpen s.ship.mode s.lifts.records.c2 then some .liftsActive
  else none

/-- The changes of the hold list discarded unapplied, each port answered NOT IN SERVICE (R11). -/
def rejectHeld (s : State) : State :=
  s.cond.hold.foldl (fun t h => deliver h.caller (bare .notInService) t) (s.withCond { s.cond with hold := [] })

/-- A SLUNG record enters DONE with outcome ABORTED (R10). -/
def abortSlung (c : Crane) (s : State) : State :=
  if (s.record c).state = .slung then finishLift .aborted none (s.liftMass c) [c] s else s

/-- The condition and what belongs to it emptied; the open flags stay until the commit (R10, log 22). -/
def emptyCondition (s : State) : State :=
  let t := emptyStows s
  let u := t.withCond { t.cond with density := 1025, version := 0 }
  (u.withTanks ⟨[], none, 0, 0⟩).withTrials ⟨[], false⟩

/-- Every slot NONE, the range 0..0, the sticky sets empty and the monitor not primed (R10, R19). -/
def unloadSlots (s : State) : State :=
  s.withMon { s.mon with slots := Slot.allNone, rangeStart := 0, rangeStop := 0, sticky := .all [], primed := false }

/-- The stored image erased, the load buffer emptied and the SLOTS UNLOADED mark set (R10). -/
def eraseImage (s : State) : State :=
  s.withShip { s.ship with image := .blank, present := false, buffer := .blank, slotsUnloaded := true }

/-- The effects of an accepted OPEN DATA (R10, R11). -/
def openLoad (s : State) : State :=
  let lifted := abortSlung .crane2 (abortSlung .crane1 s)
  let emptied := emptyResults (abandonJobs (emptyCondition (eraseImage lifted)))
  changeMode .dataLoading none (settle (unloadSlots (rejectHeld emptied)))

/-- OPEN DATA taken by the ship data store (R10). -/
def takeOpenData (q : Caller) (s : State) : State :=
  match openFault s with
  | some st => answer q (bare st) s
  | none => answer q (bare .done) (openLoad s)

/-! ### WRITE DATA and CLOSE DATA (R12, R13) -/

/-- WRITE DATA taken by the ship data store (R12). During a commit, as outside DATA LOADING, every whole WRITE DATA is NOT
READY, one whose field count does not fit its record kind as well: R12 gives both answers, and R182 sets BAD ARGUMENT before
any other refusal only for what does not fit the request kind. The order of the two is the model's choice (log 38, DESIGN
CHOICE); for a payload that is not a kind, an index and whole four-byte fields see `servePayload`. -/
def takeWriteData (kind index : Nat) (fields : List FieldWord) (q : Caller) (s : State) : State :=
  if s.ship.mode ≠ .dataLoading ∨ s.ship.committing.isSome then answer q (bare .notReady) s
  else match s.ship.buffer.write kind index (fields.map BitVec.toInt) with
    | none => answer q (bare .badArgument) s
    | some b => answer q (bare .done) (s.withShip { s.ship with buffer := b })

/-- CLOSE DATA taken by the ship data store (R13): the first failing test ends the load in DATA FAULT; when all pass,
the commit begins and the reply is deferred (R14). -/
def takeCloseData (expected : CheckWord) (q : Caller) (s : State) : State :=
  if s.ship.mode ≠ .dataLoading ∨ s.ship.committing.isSome then answer q (bare .notReady) s
  else match s.ship.buffer.closeFault expected with
    | some (reason, kind, index) =>
      answer q ⟨.badArgument, .dataFault reason kind index⟩
        (changeMode .dataFault (some reason) (s.withShip { s.ship with buffer := .blank }))
    | none => defer q (s.withShip { s.ship with committing := some q })

/-! ### The ends of a commit and of verification (R14, R16) -/

/-- The image written: records, check word and then the presence marker; the load buffer is emptied (R14). -/
def storeImage (s : State) : State :=
  s.withShip { s.ship with image := s.ship.buffer, checkWord := s.ship.buffer.check, present := true,
                           buffer := .blank, committing := none }

/-- The end of a commit (R14). -/
def commitEnds (s : State) : State :=
  match s.ship.committing with
  | none => s
  | some q =>
    let t := enterService (loadSlots (storeImage s))
    deliver q ⟨.done, .committed t.ship.checkWord⟩ t

/-- The end of verification (R16). -/
def verifyEnds (s : State) : State :=
  if s.ship.mode ≠ .verify then s
  else if s.ship.present = false then changeMode .dataFault (some .noData) s
  else if s.ship.image.check ≠ s.ship.checkWord then changeMode .dataFault (some .checkMismatch) s
  else enterService (if s.ship.slotsUnloaded then loadSlots s else s)

/-! ### Restarts (R18, R19, R20) -/

/-- The rate that the straps choose (R177). -/
def strapRate (x : Straps) : Rate :=
  match x.rate1, x.rate0 with
  | false, false => .b38400
  | false, true => .b115200
  | true, false => .b230400
  | true, true => .b460800

/-- What every restart does to the ship data store: the cause is recorded, the load buffer and a commit are lost, and
VERIFY is entered; no cause is raised (R14, R17, R18, R20). -/
def restartShip (cause : RestartCause) (s : State) : State :=
  s.withShip { s.ship with buffer := .blank, mode := .verify, faultReason := none, restartCause := cause, committing := none }

/-- What every restart clears in the condition store, the evaluation unit, the monitor, the planning services unit and
the tank and draft unit (R20). -/
def clearWork (s : State) : State :=
  let t := emptyResults (abandonJobs (s.withCond { s.cond with hold := [] }))
  let u := t.withMon { t.mon with sticky := .all [], primed := false }
  (u.withTrials ⟨[], false⟩).withTanks { u.tanks with reading := none }

/-- What every restart does to the ports and the attention unit, with the straps sampled (R177, R187, R192). -/
def clearPorts (straps : Straps) (s : State) : State :=
  ((s.withPorts (s.ports.map (fun q => PortState.fresh q.nextMark))).withRate (strapRate straps)).withAttn (.all .fresh)

/-- The working state cleared at either restart, with no lift reply awaited (R20). -/
def restartAny (cause : RestartCause) (straps : Straps) (s : State) : State :=
  let t := clearPorts straps (clearWork (restartShip cause s))
  t.withLifts { t.lifts with waiting := .both none }

/-- The lines after a restart: the effective action follows from the alarm states as they stand (R110, R111, R112). -/
def restartLines (s : State) : State := driveLines (s.withMon { s.mon with effective := effectiveOf s.mon.slots })

/-- Retained memory cleared (R19), with the retention mark rewritten (R18). -/
def clearRetained (s : State) : State :=
  let t := s.withCond ⟨[], [], 1025, 0, []⟩
  let u := t.withLifts ⟨.both .idle, .both none, .both none⟩
  let v := u.withTanks ⟨[], none, 0, 0⟩
  let w := unloadSlots (v.withEval { v.eval with routineMode := .continuous, interval := 5 })
  w.withShip { w.ship with slotsUnloaded := true, retentionMark := true }

/-- A COLD restart (R19). -/
def coldRestart (straps : Straps) (s : State) : State := restartLines (clearRetained (restartAny .cold straps s))

/-- One lift record adjusted for a WARM restart (R148). -/
def adjustRecord (r : LiftRecord) : LiftRecord :=
  match r.state with
  | .idle | .done => r
  | .joining | .checking => idleRecord r
  | .granted => { r with state := .done, timer := none, silent := false, outcome := some .grantLapsed }
  | .slung => { r with timer := none, silent := true }

/-- What the outcome record of a record keeps after the adjustment: of a GRANTED record, the mass and its origin
(R146, R148). -/
def adjustEnded (s : State) (c : Crane) : Option Ended :=
  match (s.record c).state, (s.record c).lift with
  | .granted, some l => some ⟨s.massOf l.tag, l.origin⟩
  | .done, _ => s.lifts.ended.get c
  | _, _ => none

/-- Both lift records adjusted for a WARM restart (R148). -/
def adjustLifts (s : State) : State :=
  s.withLifts ⟨s.lifts.records.map adjustRecord, ⟨adjustEnded s .crane1, adjustEnded s .crane2⟩, .both none⟩

/-- OUTCOME READY on the port of a record in DONE (R148, R192). -/
def announceDone (c : Crane) (s : State) : State :=
  if (s.record c).state = .done then raiseAt (cranePort c) .outcomeReady s else s

/-- The causes that a WARM restart itself raises, after the pending sets have been emptied (R148, R192). -/
def announceLifts (s : State) : State :=
  let t := announceDone .crane2 (announceDone .crane1 s)
  if t.anySilent then raiseAll .silentLift t else t

/-- A WARM restart (R20). -/
def warmRestart (cause : RestartCause) (straps : Straps) (s : State) : State :=
  restartLines (announceLifts (restartAny cause straps (adjustLifts s)))

/-- The main supply rises (R18): WARM when retained memory was held up and its mark is intact, COLD otherwise. -/
def supplyRises (retained : Bool) (straps : Straps) (s : State) : State :=
  if retained && s.ship.retentionMark then warmRestart .warmSupply straps s else coldRestart straps s

end Sys2Proof.Machine
end

