-- ==== Sys2Proof/Machine/Attention.lean ====
section
/-!
DEFINITION. The attention requests (R189, R191), the end of a pulse (R190), and READ LINE STATUS (R181).
-/

namespace Sys2Proof.Machine

open Sys2Proof

/-! ### READ LINE STATUS (R181) -/

/-- READ LINE STATUS taken by the port interface: the counters are reported and then become 0. -/
def takeReadLineStatus (q : Caller) (s : State) : State :=
  let t := answer q ⟨.done, .lineStatus (s.ports.get q.port).counters (portRole q.port) s.rate⟩ s
  t.modifyPort q.port (fun x => { x with counters := .zero })

/-! ### ATTENTION QUERY (R191) -/

/-- The highest-priority unmasked pending cause of a port. -/
def AttnPort.head (a : AttnPort) : Option Cause := allCauses.find? (fun c => a.pending.contains c && a.unmasked.contains c)

/-- Whether a cause persists on a port (R188). -/
def persists (s : State) (p : Port) : Cause → Bool
  | .outcomeReady =>
    (match craneOf p with
     | none => false
     | some c => (s.record c).state == .done)
  | .silentLift => s.anySilent
  | _ => false

/-- The state after a query has returned a cause: the cause is removed unless its condition persists. -/
def queried (p : Port) (c : Option Cause) (s : State) : State :=
  match c with
  | none => s
  | some c => if persists s p c then s else removeAt p c s

/-- ATTENTION QUERY taken by the attention unit (R191). -/
def takeAttentionQuery (q : Caller) (s : State) : State :=
  let c := (s.attn.get q.port).head
  let t := queried q.port c s
  answer q ⟨.done, .attention c (t.attn.get q.port).pending⟩ t

/-! ### SET ATTENTION (R189, R190) -/

/-- The cause with a priority number of R188. -/
def causeOfNumber : Nat → Option Cause
  | 1 => some .actionRaised
  | 2 => some .outcomeReady
  | 3 => some .silentLift
  | 4 => some .actionCleared
  | 5 => some .serviceChange
  | 6 => some .newResult
  | 7 => some .lineError
  | _ => none

/-- Whether the mask names none but the seven causes. -/
def maskOk (l : List Nat) : Bool := l.all (fun n => (causeOfNumber n).isSome)

/-- The unmasked causes that a list of numbers names, in priority order without duplicates. -/
def maskOf (l : List Nat) : List Cause := allCauses.filter (fun c => l.any (fun n => causeOfNumber n == some c))

/-- A port's attention state with a new mask and mode: in LEVEL the line takes its LEVEL value, a change to PULSE makes
it inactive, and PULSE kept lets a running pulse run (R190). -/
def AttnPort.reset (u : List Cause) (m : LineMode) (a : AttnPort) : AttnPort :=
  match m, a.mode with
  | .level, _ => { a with unmasked := u, mode := .level, active := levelOf a.pending u }
  | .pulse, .level => { a with unmasked := u, mode := .pulse, active := false }
  | .pulse, .pulse => { a with unmasked := u }

/-- SET ATTENTION taken by the attention unit (R189). -/
def takeSetAttention (unmasked : List Nat) (mode : Option LineMode) (q : Caller) (s : State) : State :=
  match mode with
  | none => answer q (bare .badArgument) s
  | some m =>
    if maskOk unmasked = false then answer q (bare .badArgument) s
    else
      let t := s.withAttn (s.attn.modify q.port (AttnPort.reset (maskOf unmasked) m))
      answer q ⟨.done, .attentionSet (maskOf unmasked) m (t.attn.get q.port).pending⟩ t

/-- A running pulse on a port ends (R190). -/
def pulseEnds (p : Port) (s : State) : State :=
  if (s.attn.get p).mode = .pulse then s.withAttn (s.attn.modify p (fun a => { a with active := false })) else s

end Sys2Proof.Machine
end

