-- ==== Sys2Proof/Machine/Reads.lean ====
section
/-!
DEFINITION. The reads of the condition (R48, R49) and of the results (R99, R176).
-/

namespace Sys2Proof.Machine

open Sys2Proof

/-- READ ITEM taken by the condition store (R48), in the layout of section 8.5 of the ports chapter. -/
def takeReadItem (tag : Nat) (q : Caller) (s : State) : State :=
  match s.item tag with
  | none => answer q (bare .noSuchItem) s
  | some it => answer q ⟨.done, .layout (itemBytes tag it s.cond.version)⟩ s

/-- The tags that LIST ITEMS returns: up to 48, ascending, from the start tag on (R48). -/
def listedTags (s : State) (start : Nat) : List Nat :=
  (s.cond.items.keys.filter (fun t => decide (start ≤ t))).take Config.listWindow

/-- LIST ITEMS taken by the condition store (R48). -/
def takeListItems (start : Nat) (q : Caller) (s : State) : State :=
  answer q ⟨.done, .itemList s.cond.items.length (listedTags s start) s.cond.version⟩ s

/-- What READ COMPARTMENT reports of a compartment (R49). -/
def compReport (s : State) (n start : Nat) (r : CompRecord) : CompReport :=
  match r.use with
  | .stow k m =>
    { kind := some k, flag := (s.comp n).flag, capacity := m, load := (s.comp n).load, planned := s.plannedLoad n,
      fill := 0, stowLength := (s.comp n).stow.length, window := ((s.comp n).stow.drop start).take Config.stowWindow }
  | .tank m _ _ _ =>
    { kind := none, flag := .opened, capacity := m, load := tankMass m (s.fill n), planned := 0, fill := s.fill n,
      stowLength := 0, window := [] }

/-- READ COMPARTMENT taken by the condition store (R49). -/
def takeReadCompartment (n start : Nat) (q : Caller) (s : State) : State :=
  match s.ship.image.comp n with
  | none => answer q (bare .badArgument) s
  | some r => answer q ⟨.done, .compartment (compReport s n start r) s.cond.version⟩ s

/-- The routine result that a selector names (R99). -/
def selected (s : State) : Selector → Option RoutineResult
  | .latest => s.eval.latest
  | .prior => s.eval.prior
  | .number n => (s.eval.latest.filter (fun r => r.seq == n)).or (s.eval.prior.filter (fun r => r.seq == n))

/-- READ RESULT taken by the evaluation unit (R99). -/
def takeReadResult (sel : Selector) (part : Nat) (q : Caller) (s : State) : State :=
  if partExists s.ship.image.stationCount part = false ∨ sel = .number 0 then answer q (bare .badArgument) s
  else match selected s sel with
    | none => answer q (bare .noResult) s
    | some r => answer q ⟨.done, .layout (resultPartBytes r part)⟩ s

/-- READ PROSPECT taken by the evaluation unit (R176). -/
def takeReadProspect (part : Nat) (q : Caller) (s : State) : State :=
  if partExists s.ship.image.stationCount part = false then answer q (bare .badArgument) s
  else match s.eval.prospect with
    | none => answer q (bare .noResult) s
    | some r => answer q ⟨.done, .layout (prospectPartBytes r part)⟩ s

end Sys2Proof.Machine
end

