-- ==== Sys2Proof/Machine/Evaluation.lean ====
section
/-!
DEFINITION. The requests to the evaluation unit (R93, R94, R101) and its jobs: the arbiter's start of a job (R79 to R82),
capture complete (R84), the three completions (R97, R133 to R135, R175) and the interval timer (R92).
-/

namespace Sys2Proof.Machine

open Sys2Proof

/-! ### Requests -/

/-- Whether a routine job is in its capture or compute stage. -/
def routineInFlight (e : EvalUnit) : Bool :=
  match e.engine with
  | none => false
  | some j => match j.work with
    | .routine .. => true
    | .lift .. => false
    | .prospect .. => false

/-- The sequence number of the LATEST bank, 0 when it is empty (R93). -/
def latestSeq (e : EvalUnit) : Nat := e.latest.elim 0 (fun r => r.seq)

/-- EVALUATE NOW taken by the evaluation unit (R93). -/
def takeEvaluateNow (q : Caller) (s : State) : State :=
  answer q ⟨.done, .evaluateNow (!s.eval.slotRoutine) (routineInFlight s.eval) (latestSeq s.eval)⟩ (raiseRoutine s)

/-- SET EVALUATION taken by the evaluation unit (R92, R94). -/
def takeSetEvaluation (mode : Option RoutineMode) (interval : Int) (q : Caller) (s : State) : State :=
  match mode with
  | none => answer q (bare .badArgument) s
  | some m =>
    if within 1 60 interval = false then answer q (bare .badArgument) s
    else answer q (bare .done) (s.withEval { s.eval with
      routineMode := m, interval := interval.toNat,
      intervalTimer := match m with | .continuous => some interval.toNat | .onRequest => none })

/-- EVALUATE PROSPECT taken by the evaluation unit: the slot becomes pending, in place of any request still in it, and
the reply is deferred (R101, R102). -/
def takeEvaluateProspect (scope : Option Scope) (q : Caller) (s : State) : State :=
  match scope with
  | none => answer q (bare .badArgument) s
  | some sc => defer q (s.withEval { s.eval with slotProspect := some (sc, q) })

/-! ### The arbiter (R79, R80, R82) -/

/-- The lift check slot that is served first: the one raised first (R79). -/
def firstLift (e : EvalUnit) : Option Crane :=
  match e.slotC1, e.slotC2 with
  | some a, some b => if b < a then some .crane2 else some .crane1
  | some _, none => some .crane1
  | none, some _ => some .crane2
  | none, none => none

/-- A job in the engine at its start, with the condition version captured (R82). -/
def startWork (w : Work) (s : State) : State := s.withEval { s.eval with engine := some ⟨.capturing, s.cond.version, w⟩ }

/-- A crane's lift check slot emptied. -/
def dropLiftSlot (c : Crane) (s : State) : State :=
  match c with
  | .crane1 => s.withEval { s.eval with slotC1 := none }
  | .crane2 => s.withEval { s.eval with slotC2 := none }

/-- A lift check started: both cases captured (R87, R88). -/
def startLiftCheck (c : Crane) (s : State) : State :=
  match (s.record c).lift with
  | none => dropLiftSlot c s
  | some l => startWork (.lift c (pathCapture s c l) (finalCapture s c l)) (dropLiftSlot c s)

/-- A prospective job started (R89, R90, R173). -/
def startProspect (sc : Scope) (q : Caller) (s : State) : State :=
  let p := prospectSet s sc
  startWork (.prospect sc (prospectCapture s sc) s.trials.layers.length p.applied p.skipped s.trials.baseLost q)
    (s.withEval { s.eval with slotProspect := none })

/-- A routine job started (R86, R158). -/
def startRoutine (s : State) : State :=
  startWork (.routine (routineCapture s) s.anySlung (draftCapture s)) (s.withEval { s.eval with slotRoutine := false })

/-- The arbiter starts the first job in its order, when the mode is IN SERVICE, the engine is free and a slot is pending
(R79, R80). -/
def startJob (s : State) : State :=
  if s.ship.mode = .inService ∧ s.eval.engine = none then
    match firstLift s.eval, s.eval.slotProspect with
    | some c, _ => startLiftCheck c s
    | none, some (sc, q) => startProspect sc q s
    | none, none => if s.eval.slotRoutine then startRoutine s else s
  else s

/-- Whether a job slot that was empty is pending (R78): the first event at which the arbiter starts a job (R80). -/
def becamePending (before now : EvalUnit) : Bool :=
  (before.slotC1.isNone && now.slotC1.isSome) || (before.slotC2.isNone && now.slotC2.isSome) ||
  (before.slotProspect.isNone && now.slotProspect.isSome) || (!before.slotRoutine && now.slotRoutine)

/-- Whether the engine was busy and is free: the second event at which the arbiter starts a job (R80). -/
def becameFree (before now : EvalUnit) : Bool := before.engine.isSome && now.engine.isNone

/-- The arbiter at the end of a step that began with the evaluation unit `before`: where a request became pending or the
engine became free, a job is started at once, chosen among the requests pending then (R80). A step ends with it, so no
other step falls between the event and the start (log 12). -/
def arbitrate (before : EvalUnit) (s : State) : State :=
  if becamePending before s.eval || becameFree before s.eval then startJob s else s

/-! ### Capture complete (R84) -/

/-- One held change at its turn: validated, applied or refused, and answered on its own port. -/
def applyHeld (s : State) (h : Held) : State :=
  let r := applyChange h.caller.port h.change s
  deliver h.caller r.2 r.1

/-- Capture complete: the held changes in arrival order, and then the compute stage. -/
def capturesComplete (s : State) : State :=
  match s.eval.engine with
  | none => s
  | some j =>
    if j.stage = .capturing then
      let t := s.cond.hold.foldl applyHeld (s.withCond { s.cond with hold := [] })
      t.withEval { t.eval with engine := some { j with stage := .computing } }
    else s

/-! ### Routine completion (R97, R109) -/

/-- Adds the slots that entered ALARM to the four sticky sets (R109, R120). -/
def addSticky (entered : List Nat) (m : Monitor) : Monitor := { m with sticky := m.sticky.map (slotUnion entered) }

/-- What judging a routine result gives. -/
structure Judging where
  judged : List Judged
  entered : List Nat
deriving DecidableEq, Repr

/-- The verdicts and moves of every slot, and the slots that entered ALARM (R107, R108). -/
def judgeAll (m : Monitor) (slung : Bool) (f : FigureSet) (dis : Option Int) : Judging :=
  let js := judgeFrom m (if slung then .rl else .r) f dis 0 m.slots
  ⟨js, enteredFrom 0 m.slots js⟩

/-- The judging of one routine result as one event at the monitor (R109). -/
def judgeResult (g : Judging) (seq : Nat) (s : State) : State :=
  let m := addSticky g.entered { s.mon with slots := g.judged.map Judged.slot, primed := true, lastJudged := seq }
  let t := settle (s.withMon m)
  if g.entered.isEmpty then t else raiseAll .actionRaised t

/-- The routine result record, with its check word over the record's fields as read (R96, R98). -/
def routineRecord (s : State) (version : Version) (slung : Bool) (f : FigureSet) (dis : Option Int) (g : Judging) :
    RoutineResult :=
  let r : RoutineResult :=
    { seq := nextSeq s.eval.lastSeq, version := version, stale := decide (s.cond.version ≠ version),
      injected := g.judged.any Judged.injected, stationCount := s.ship.image.stationCount, figures := f,
      disagreement := dis, verdicts := g.judged.map Judged.verdict, checkWord := 0, slung := slung }
  { r with checkWord := resultCheck r }

/-- The banks rotated with a new result (R95). -/
def rotateBanks (r : RoutineResult) (e : EvalUnit) : EvalUnit :=
  { e with working := e.prior, latest := some r, prior := e.latest, lastSeq := r.seq }

/-- A routine job's completion in the order of R97. -/
def completeRoutine (version : Version) (slung : Bool) (f : FigureSet) (dis : Option Int) (s : State) : State :=
  let g := judgeAll s.mon slung f dis
  let r := routineRecord s version slung f dis g
  let t := judgeResult g r.seq s
  let u := startInterval (raiseAll .newResult (t.withEval (rotateBanks r t.eval)))
  u.withEval { u.eval with engine := none }

/-- What a step on a job's work answers: a next state, or the fault of a divisor that is not positive (log 24). -/
abbrev JobOutcome := Host.Outcome State Fault Refusal

/-- ROUTINE COMPLETION: no effect unless a routine job is in its compute stage; the arbiter starts the next job (R80). -/
def routineCompletes (s : State) : JobOutcome :=
  match s.eval.engine with
  | some ⟨.computing, v, .routine cap slung d⟩ =>
    (match figureSet s.ship.image cap with
     | none => .fault .divisorNotPositive
     | some f => .next (arbitrate s.eval (completeRoutine v slung f (disagreement f slung d) s)))
  | _ => .next s

/-! ### Lift check completion (R133 to R135) -/

/-- The failure of a lift check: the path case first, and within a case the lowest slot (R135). -/
def checkFailure (m : Monitor) (path final : FigureSet) : Option (CheckCase × Nat × Int) :=
  ((firstFail 0 (plainCompare m .lp path)).map (fun x => (CheckCase.path, x.1, x.2))).or
    ((firstFail 0 (plainCompare m .lf final)).map (fun x => (CheckCase.final, x.1, x.2)))

/-- The check report of a lift check (R135). -/
def checkReport (s : State) (version : Version) (path final : FigureSet) : CheckReport where
  failure := checkFailure s.mon path final
  version := version
  stale := decide (s.cond.version ≠ version)
  pathFlags := path.flags
  finalFlags := final.flags
  pathHeel := path.stab.heel
  finalHeel := final.stab.heel

/-- The record of a crane at the end of its check: GRANTED, with the grant lapse timer on the single or lead record,
or back to IDLE with its report (R134, R135). -/
def judgedRecord (s : State) (lead : Crane) (r : CheckReport) (c : Crane) : LiftRecord :=
  if r.failure.isNone then
    { s.record c with state := .granted, report := some r,
                      timer := if c = lead then some (freshTimer s .grantLapse) else none }
  else { LiftRecord.idle with report := some r }

/-- The reply of a lift check (R134, R135). -/
def checkAnswer (r : CheckReport) : Answer := ⟨if r.failure.isNone then .granted else .refusedLimit, .checkReport r⟩

/-- One crane's record and deferred reply at the end of the check; a record that is not CHECKING stays. -/
def settleCheck (lead : Crane) (r : CheckReport) (s : State) (c : Crane) : State :=
  if (s.record c).state = .checking then
    deliverTo (s.lifts.waiting.get c) (checkAnswer r) ((s.setRecord c (judgedRecord s lead r c)).awaitLift c none)
  else s

/-- A lift check's completion: the single or lead record, and a tandem partner's. -/
def completeLift (lead : Crane) (version : Version) (path final : FigureSet) (s : State) : State :=
  let t := (s.crew lead).foldl (settleCheck lead (checkReport s version path final)) s
  t.withEval { t.eval with engine := none }

/-- LIFT CHECK COMPLETION: no effect unless a lift check is in its compute stage; the arbiter starts the next job (R80). -/
def liftCompletes (s : State) : JobOutcome :=
  match s.eval.engine with
  | some ⟨.computing, v, .lift lead path final⟩ =>
    (match figureSet s.ship.image path, figureSet s.ship.image final with
     | some p, some f => .next (arbitrate s.eval (completeLift lead v p f s))
     | _, _ => .fault .divisorNotPositive)
  | _ => .next s

/-! ### Prospect completion (R101, R174, R175) -/

/-- Whether a verdict is FAIL. -/
def isFail (x : Verdict × Option Int) : Bool := x.1 == .fail

/-- What a prospective job carried from its start (R174). -/
structure ProspectStart where
  scope : Scope
  depth : Nat
  applied : Nat
  skipped : Nat
  baseLost : Bool
deriving DecidableEq, Repr

/-- The prospective result record (R174). -/
def prospectRecord (s : State) (version : Version) (b : ProspectStart) (f : FigureSet) : ProspectResult :=
  let vs := plainCompare s.mon .p f
  { figures := f
    header :=
      { seq := nextSeq s.eval.lastProspectSeq, scope := b.scope, version := version,
        stale := decide (s.cond.version ≠ version), baseLost := b.baseLost, depth := b.depth, applied := b.applied,
        skipped := b.skipped, flags := f.flags, stationCount := s.ship.image.stationCount,
        verdicts := vs.map Prod.fst, failing := (vs.filter isFail).length, firstFail := firstFail 0 vs,
        loadRatio := f.loadRatio, maxShear := f.maxShear, maxBend := f.maxBend } }

/-- A prospective job's completion: the record is written, and then the deferred reply is sent (R175). -/
def completeProspect (q : Caller) (r : ProspectResult) (s : State) : State :=
  deliver q ⟨.done, .prospect r.header⟩
    (s.withEval { s.eval with prospect := some r, lastProspectSeq := r.header.seq, engine := none })

/-- PROSPECT COMPLETION: no effect unless a prospective job is in its compute stage; the arbiter starts the next job
(R80). -/
def prospectCompletes (s : State) : JobOutcome :=
  match s.eval.engine with
  | some ⟨.computing, v, .prospect sc cap depth applied skipped lost q⟩ =>
    (match figureSet s.ship.image cap with
     | none => .fault .divisorNotPositive
     | some f => .next (arbitrate s.eval (completeProspect q (prospectRecord s v ⟨sc, depth, applied, skipped, lost⟩ f) s)))
  | _ => .next s

/-! ### The interval timer (R92) -/

/-- The interval timer expires: a routine request is raised, the timer starts again, and the arbiter acts (R80). -/
def intervalExpires (s : State) : State :=
  match s.eval.intervalTimer with
  | none => s
  | some _ => arbitrate s.eval (startInterval (raiseRoutine s))

end Sys2Proof.Machine
end

