-- ==== Sys2Proof/Machine/MonitorRequests.lean ====
section
/-!
DEFINITION. The requests to the limit monitor: the settings (R116 to R119) and the reads (R120, R121).
-/

namespace Sys2Proof.Machine

open Sys2Proof

/-- The state with one slot changed by `f`. -/
def State.modifySlot (s : State) (i : Nat) (f : Slot → Slot) : State :=
  s.withMon { s.mon with slots := s.mon.slots.modify i f }

/-- Slot `i`; a slot that holds NONE for an index outside 0..15. -/
def State.slot (s : State) (i : Nat) : Slot := s.mon.slots.getD i .unused

/-- A setting refused: nothing changes, and the reply carries the effective action (log 21). -/
def refuseSetting (q : Caller) (s : State) : State := answer q ⟨.badArgument, .setting s.mon.effective⟩ s

/-- A setting answered DONE with the effective action as it stands after it. -/
def settled (q : Caller) (s : State) : State := answer q ⟨.done, .setting s.mon.effective⟩ s

/-! ### SET CRITERION (R116) -/

/-- Whether the settings of a code lie in the ranges of R103; with NONE the other fields are not looked at. -/
def settingsOk (code : Code) (limit hyst n : Int) (action : Option Action) : Bool :=
  code == .none || (within (-1000000) 1000000 limit && within 0 100000 hyst && within 1 8 n && action.isSome)

/-- A slot with new settings (R116). -/
def newSettings (st : Settings) (o : Slot) : Slot :=
  if st.code = .none then .unused
  else
    { set := st, alarm := o.alarm, count := if o.alarm then st.n else min o.count st.n,
      injected := if st.code = o.set.code then o.injected else none }

/-- The recomputation that follows SET CRITERION: as `settle`, and ACTION RAISED when the effective action rises
(R113, R116). -/
def settleRise (s : State) : State :=
  let t := settle s
  if actionRank s.mon.effective < actionRank t.mon.effective then raiseAll .actionRaised t else t

/-- SET CRITERION taken by the monitor (R116). -/
def takeSetCriterion (i : Nat) (code : Option Code) (limit hyst n : Int) (action : Option Action) (q : Caller)
    (s : State) : State :=
  match code with
  | none => refuseSetting q s
  | some c =>
    if slotIndexOk i = false ∨ settingsOk c limit hyst n action = false then refuseSetting q s
    else
      let st : Settings := ⟨c, limit, hyst, n.toNat, action.getD .note⟩
      settled q (triggerRoutine (settleRise (s.modifySlot i (newSettings st))))

/-! ### SET RANGE (R117) -/

/-- A slot CLEAR with counter 0. -/
def cleared (o : Slot) : Slot := { o with alarm := false, count := 0 }

/-- The slots from index `i` on, those that leave the range cleared. -/
def clearLeavers (was now : Nat → Bool) : Nat → List Slot → List Slot
  | _, [] => []
  | i, o :: rest => (if was i && !now i then cleared o else o) :: clearLeavers was now (i + 1) rest

/-- The monitor with a new range (R117). -/
def Monitor.reRange (m : Monitor) (start stop : Nat) : Monitor :=
  { m with slots := clearLeavers (inRange m.rangeStart m.rangeStop) (inRange start stop) 0 m.slots,
           rangeStart := start, rangeStop := stop }

/-- SET RANGE taken by the monitor (R117). -/
def takeSetRange (start stop : Nat) (q : Caller) (s : State) : State :=
  if slotIndexOk start = false ∨ slotIndexOk stop = false then refuseSetting q s
  else
    let t := triggerRoutine (settle (s.withMon (s.mon.reRange start stop)))
    answer q ⟨.done, .range (effectiveRange start stop).1 (effectiveRange start stop).2 t.mon.effective⟩ t

/-! ### RESET SLOT, INJECT, WITHDRAW (R118, R119) -/

/-- RESET SLOT taken by the monitor (R118). -/
def takeResetSlot (i : Nat) (q : Caller) (s : State) : State :=
  if slotIndexOk i = false then refuseSetting q s
  else
    let t := settle (s.modifySlot i cleared)
    answer q ⟨.done, .slotWas (s.slot i).alarm t.mon.effective⟩ t

/-- INJECT taken by the monitor (R119). -/
def takeInject (i : Nat) (v : Int) (q : Caller) (s : State) : State :=
  if slotIndexOk i = false ∨ within (-1000000) 1000000 v = false then refuseSetting q s
  else settled q (triggerRoutine (s.modifySlot i (fun o => { o with injected := some v })))

/-- WITHDRAW taken by the monitor (R119). -/
def takeWithdraw (i : Nat) (q : Caller) (s : State) : State :=
  if slotIndexOk i = false then refuseSetting q s
  else settled q (triggerRoutine (s.modifySlot i (fun o => { o with injected := none })))

/-! ### READ ALARMS and READ CRITERION (R120, R121) -/

/-- What READ ALARMS reports to a port. -/
def alarmReport (m : Monitor) (p : Port) : AlarmReport where
  states := m.slots.map (fun o => (o.alarm, o.count))
  injected := m.slots.map (fun o => o.injected.isSome)
  sticky := m.sticky.get p
  effective := m.effective
  primed := m.primed
  range := effectiveRange m.rangeStart m.rangeStop
  lastJudged := m.lastJudged

/-- The monitor after a port has read its alarms: the slots now CLEAR are out of that port's sticky set. -/
def Monitor.readBy (m : Monitor) (p : Port) : Monitor :=
  { m with sticky := m.sticky.modify p (fun l => l.filter (fun i => (m.slots.getD i .unused).alarm)) }

/-- READ ALARMS taken by the monitor (R120). -/
def takeReadAlarms (q : Caller) (s : State) : State :=
  let t := answer q ⟨.done, .alarms (alarmReport s.mon q.port)⟩ s
  t.withMon (t.mon.readBy q.port)

/-- READ CRITERION taken by the monitor (R121). -/
def takeReadCriterion (i : Nat) (q : Caller) (s : State) : State :=
  if slotIndexOk i = false then answer q (bare .badArgument) s
  else answer q ⟨.done, .criterion (s.slot i) (inRange s.mon.rangeStart s.mon.rangeStop i)⟩ s

end Sys2Proof.Machine
end

