-- ==== Sys2Proof/Machine/Planning.lean ====
section
/-!
DEFINITION. The stowage planning services: FIND SPACE (R164, R165) and the trial stack (R168 to R172).
-/

namespace Sys2Proof.Machine

open Sys2Proof

/-! ### FIND SPACE -/

/-- Whether a FIND SPACE is malformed (R164). The kinds are numbered as in R6. -/
def findMalformed (first last : Nat) (mass : Int) (mode : Option FindMode) (kinds : List Nat) : Bool :=
  mode.isNone || kinds.isEmpty || !(kinds.all (fun k => decide (1 ≤ k) && decide (k ≤ 3))) ||
  decide (Config.compCount ≤ first) || decide (Config.compCount ≤ last) || !within 0 1000000 mass || decide (last < first)

/-- Whether a remaining capacity meets the test of a mode (R165). -/
def meetsMode (mode : FindMode) (remaining mass : Int) : Bool :=
  match mode with
  | .atLeast => decide (mass ≤ remaining)
  | .atMost => within 0 mass remaining
  | .equal => decide (remaining = mass)

/-- The test that a FIND SPACE carries. -/
structure FindTest where
  mass : Int
  mode : FindMode
  skipClosed : Bool
  kinds : List Nat
deriving DecidableEq, Repr

/-- What a walk makes of one compartment number (R165). -/
inductive WalkStep where
  | passed
  | compared
  | ends (f : Finding) (tested : Nat)
deriving DecidableEq, Repr

/-- One compartment number of the walk, by the first matching row of R165. -/
def walkOne (s : State) (t : FindTest) (n : Nat) : WalkStep :=
  match s.ship.image.stowComp n with
  | none => .passed
  | some (_, k, m) =>
    if t.kinds.contains (stowNumber k) = false then .passed
    else if (s.comp n).flag = .closed then (if t.skipClosed then .passed else .ends (.closedMet n) 0)
    else if meetsMode t.mode (m - s.plannedLoad n) t.mass then .ends (.hit n (m - s.plannedLoad n) (s.plannedLoad n)) 1
    else .compared

/-- The walk over `k` compartment numbers from `n` on, with the count compared so far (R165). -/
def walk (s : State) (t : FindTest) : Nat → Nat → Nat → Finding × Nat
  | 0, _, count => (.notFound, count)
  | k + 1, n, count =>
    match walkOne s t n with
    | .passed => walk s t k (n + 1) count
    | .compared => walk s t k (n + 1) (count + 1)
    | .ends f c => (f, count + c)

/-- FIND SPACE taken by the planning services unit (R164, R165). -/
def takeFindSpace (first last : Nat) (mass : Int) (mode : Option FindMode) (skipClosed : Bool) (kinds : List Nat)
    (q : Caller) (s : State) : State :=
  if findMalformed first last mass mode kinds then answer q (bare .badArgument) s
  else
    let r := walk s ⟨mass, mode.getD .atLeast, skipClosed, kinds⟩ (last + 1 - first) first 0
    answer q ⟨.done, .finding r.1 r.2 s.cond.version⟩ s

/-! ### The trial stack -/

/-- Why a layer is refused, or none; test 1 first (R169). -/
def layerFault (s : State) : LayerArg → Option Status
  | .neither => some .badArgument
  | .item tag g =>
    if tag = 0 ∨ goalOk g = false then some .badArgument
    else if (s.item tag).isNone then some .noSuchItem
    else match g with
      | .ashore => none
      | .place pl => if geometrySound s.ship.image pl then none else some .badPlacement
  | .tank n f =>
    if within 0 65535 f = false then some .badArgument
    else if s.ship.image.isTank n = false then some .badArgument
    else none

/-- The layer that a push stores: a fill above 1000 is stored as 1000 (R170). -/
def storedLayer : LayerArg → Option Layer
  | .neither => none
  | .item tag g => some (.item tag g)
  | .tank n f => some (.tank n (min f.toNat 1000))

/-- Whether a push clamps its fill (R170). -/
def layerClamped : LayerArg → Bool
  | .tank _ f => decide (1000 < f)
  | _ => false

/-- The layer that a push drops from the bottom of a full stack (R170). -/
def droppedLayer (t : Trials) : Option Layer := if t.layers.length < Config.maxLayers then none else t.layers.head?

/-- The stack after a push (R170). -/
def Trials.push (t : Trials) (l : Layer) : Trials :=
  if t.layers.length < Config.maxLayers then { t with layers := t.layers ++ [l] }
  else ⟨t.layers.tail ++ [l], true⟩

/-- PUSH TRIAL taken by the planning services unit (R169, R170). -/
def takePushTrial (a : LayerArg) (q : Caller) (s : State) : State :=
  match layerFault s a, storedLayer a with
  | some st, _ => answer q (bare st) s
  | none, none => answer q (bare .badArgument) s
  | none, some l =>
    let t := s.trials.push l
    answer q ⟨if layerClamped a then .clamped else .done, .pushed t.layers.length t.baseLost (droppedLayer s.trials)⟩
      (s.withTrials t)

/-- The stack after a pop: BASE LOST is cleared when it becomes empty (R171). -/
def Trials.pop (t : Trials) : Trials := ⟨t.layers.dropLast, t.baseLost && !t.layers.dropLast.isEmpty⟩

/-- POP TRIAL taken by the planning services unit (R171). -/
def takePopTrial (q : Caller) (s : State) : State :=
  match s.trials.layers.getLast? with
  | none => answer q (bare .empty) s
  | some l =>
    let t := s.trials.pop
    answer q ⟨.done, .popped l t.layers.length t.baseLost⟩ (s.withTrials t)

/-- CLEAR TRIALS taken by the planning services unit (R171). -/
def takeClearTrials (q : Caller) (s : State) : State :=
  answer q ⟨.done, .cleared s.trials.layers.length⟩ (s.withTrials ⟨[], false⟩)

/-- READ TRIALS taken by the planning services unit; each layer with whether it WOULD SKIP (R172). -/
def takeReadTrials (q : Caller) (s : State) : State :=
  answer q ⟨.done, .trials s.trials.layers.length s.trials.baseLost (s.trials.layers.map (fun l => (l, layerSkips s l)))
    s.cond.version⟩ s

end Sys2Proof.Machine
end

