-- ==== Sys2Proof/Machine/Tanks.lean ====
section
/-!
DEFINITION. The draft requests of the tank and draft unit: DRAFTS (R155), READ DRAFTS (R157), DRAFT ZERO (R161, R162), and
the passing of the freshness limit (R156). SOUNDINGS stands in Changes.
-/

namespace Sys2Proof.Machine

open Sys2Proof

/-- DRAFTS taken by the tank and draft unit (R155). -/
def takeDrafts (aft fwd : Int) (q : Caller) (s : State) : State :=
  if within 0 5000 aft = false ∨ within 0 5000 fwd = false then answer q (bare .badArgument) s
  else answer q ⟨.done, .freshness s.freshLimit⟩ (s.withTanks { s.tanks with reading := some ⟨aft, fwd, 0⟩ })

/-- What READ DRAFTS reports (R157). -/
def draftReport (s : State) : DraftReport where
  reading := s.tanks.reading
  fresh := s.freshReading.isSome
  limit := s.freshLimit
  aftOffset := s.tanks.aftOffset
  fwdOffset := s.tanks.fwdOffset
  corrected := s.tanks.reading.map (fun r => (r.aft + s.tanks.aftOffset, r.fwd + s.tanks.fwdOffset))

/-- READ DRAFTS taken by the tank and draft unit (R157). -/
def takeReadDrafts (q : Caller) (s : State) : State := answer q ⟨.done, .drafts (draftReport s) s.cond.version⟩ s

/-- A draft offset within its bounds (R162). -/
def offsetOf (computed measured : Int) : Int := bringInto (-50) 50 (computed - measured)

/-- The zero set from a result and a reading (R162). -/
def setZero (r : RoutineResult) (d : DraftReading) (q : Caller) (s : State) : State :=
  let a := offsetOf r.figures.trim.ta d.aft
  let f := offsetOf r.figures.trim.tf d.fwd
  let ok := decide (a = r.figures.trim.ta - d.aft) && decide (f = r.figures.trim.tf - d.fwd)
  answer q ⟨if ok then .done else .clamped, .zeroed a f r.seq r.figures.trim.ta r.figures.trim.tf d.aft d.fwd⟩
    (s.withTanks { s.tanks with aftOffset := a, fwdOffset := f })

/-- DRAFT ZERO taken by the tank and draft unit (R161, R162). -/
def takeDraftZero (q : Caller) (s : State) : State :=
  match s.freshReading, s.eval.latest with
  | none, _ => answer q (bare .noReading) s
  | some _, none => answer q (bare .noResult) s
  | some d, some r => if s.anySlung || r.slung then answer q (bare .liftsActive) s else setZero r d q s

/-- The age of the held reading passes the freshness limit: a reading that is still fresh is one second past it
(R156, log 29). -/
def readingStales (s : State) : State :=
  match s.freshReading with
  | none => s
  | some r => s.withTanks { s.tanks with reading := some { r with age := seconds s.freshLimit + 1 } }

end Sys2Proof.Machine
end

