-- ==== Sys2Proof/Machine/Ports.lean ====
section
/-!
DEFINITION. The port interface (chapter 09): handing a request to its owning block, the six tests of R182, the payloads
of telegrams, the receivers (R180), the transmitters (R183, R184), and breaks (R185).
-/

namespace Sys2Proof.Machine

open Sys2Proof

/-! ### The owning blocks -/

/-- A request taken by its owning block (test 6 of R182). -/
def serve (r : Request) (q : Caller) (s : State) : State :=
  match r with
  | .identify => takeIdentify q s
  | .readLineStatus => takeReadLineStatus q s
  | .attentionQuery => takeAttentionQuery q s
  | .setAttention u m => takeSetAttention u m q s
  | .openData => takeOpenData q s
  | .writeData k i fs => takeWriteData k i fs q s
  | .closeData w => takeCloseData w q s
  | .change c => takeChange c q s
  | .readItem t => takeReadItem t q s
  | .listItems t => takeListItems t q s
  | .readCompartment n i => takeReadCompartment n i q s
  | .evaluateNow => takeEvaluateNow q s
  | .setEvaluation m i => takeSetEvaluation m i q s
  | .evaluateProspect sc => takeEvaluateProspect sc q s
  | .readResult sel part => takeReadResult sel part q s
  | .readProspect part => takeReadProspect part q s
  | .setCriterion i c l h n a => takeSetCriterion i c l h n a q s
  | .setRange a b => takeSetRange a b q s
  | .resetSlot i => takeResetSlot i q s
  | .inject i v => takeInject i v q s
  | .withdraw i => takeWithdraw i q s
  | .readAlarms => takeReadAlarms q s
  | .readCriterion i => takeReadCriterion i q s
  | .findSpace a b m mode sk ks => takeFindSpace a b m mode sk ks q s
  | .pushTrial l => takePushTrial l q s
  | .popTrial => takePopTrial q s
  | .clearTrials => takeClearTrials q s
  | .readTrials => takeReadTrials q s
  | .drafts a f => takeDrafts a f q s
  | .draftZero => takeDraftZero q s
  | .readDrafts => takeReadDrafts q s
  | .liftRequest t d o h p sh => takeLiftRequest t d o h p sh q s
  | .joinLift l t o => takeJoinLift l t o q s
  | .abortLift => takeAbortLift q s
  | .collectOutcome => takeCollectOutcome q s
  | .readLift x => takeReadLift x q s

/-! ### The six tests of R182 -/

/-- Whether a transmitter holds a BUSY reply of R184. -/
def holdsBusy (l : List TxEntry) : Bool := l.any (fun e => e.answers.isNone)

/-- A request refused by test 1: a BUSY reply is formed, or DROPPED is counted when one is already held (R184). -/
def refuseBusy (p : Port) (kind tag : Byte) (s : State) : State :=
  if holdsBusy (s.ports.get p).tx then countError p .dropped s
  else queueReply p ⟨⟨replyKind kind, tag, bare .busy⟩, none⟩ s

/-- The mark that a port's next request takes, with the request's kind and tag (R183, log 11). -/
def nextCaller (s : State) (p : Port) (kind tag : Byte) : Caller := ⟨p, kind, tag, (s.ports.get p).nextMark⟩

/-- The request becomes the port's outstanding request (R183). -/
def openRequest (q : Caller) (s : State) : State :=
  s.modifyPort q.port (fun x => { x with outstanding := some q, nextMark := x.nextMark + 1 })

/-- Tests 3 to 6 of R182 on a request of a known kind; `body` is what the owning block does, and the arbiter acts on a
job request that it raised (R80). -/
def receiveKnown (k : ReqKind) (body : Caller → State → State) (q : Caller) (s : State) : State :=
  if s.ship.mode = .verify ∧ k ≠ .identify then answer q (bare .notReady) s
  else if roleAllows k (portRole q.port) = false then answer q (bare .role) (countError q.port .role s)
  else match modeAnswer s.ship.mode k with
    | some st => answer q (bare st) s
    | none => arbitrate s.eval (body q s)

/-- A well-formed request that has arrived on a port: test 1, test 2 and the rest (R182). A port held in a break takes
none (R185). -/
def receive (p : Port) (kind tag : Byte) (k : Option ReqKind) (body : Caller → State → State) (s : State) : State :=
  if (s.ports.get p).rx = .inBreak then s
  else if (s.ports.get p).outstanding.isSome then refuseBusy p kind tag s
  else
    let q := nextCaller s p kind tag
    let t := openRequest q s
    match k with
    | none => answer q (bare .unknown) (countError p .unknown t)
    | some k => receiveKnown k body q t

/-- A request of the table arriving on a port with its fields. -/
def request (p : Port) (tag : Byte) (r : Request) (s : State) : State :=
  receive p (kindByte r.kind) tag (some r.kind) (serve r) s

/-! ### Payloads (R178, R182; log 8) -/

/-- The four-byte fields of a payload, or none where its length is no multiple of four. -/
def fieldWords : List Byte → Option (List FieldWord)
  | [] => some []
  | a :: b :: c :: d :: rest => (fieldWords rest).map (fun l => (a ++ b ++ c ++ d) :: l)
  | _ => none

/-- The pairs of a SOUNDINGS payload: a compartment number and a fill in two bytes. -/
def soundingPairs : List Byte → Option (List (Nat × Nat))
  | [] => some []
  | n :: hi :: lo :: rest => (soundingPairs rest).map (fun l => (n.toNat, ofBytes2 hi lo) :: l)
  | _ => none

/-- A request with no field, where the payload is empty. -/
def bareRequest (r : Request) (payload : List Byte) : Option Request := if payload = [] then some r else none

/-- A request of one tag, where the payload has two bytes. -/
def tagRequest (f : Nat → Request) : List Byte → Option Request
  | [hi, lo] => some (f (ofBytes2 hi lo))
  | _ => none

/-- The free reading of a payload that the manual does not lay out, kept to its kind (log 8). -/
def freeRequest (k : ReqKind) (payload : List Byte) : Option Request :=
  (Config.requestOfPayload k payload).filter (fun r => r.kind == k)

/-- The request that a payload of a kind carries, or none where its length or field count does not fit (R182). -/
def requestOf (k : ReqKind) (payload : List Byte) : Option Request :=
  match k with
  | .identify => bareRequest .identify payload
  | .readLineStatus => bareRequest .readLineStatus payload
  | .attentionQuery => bareRequest .attentionQuery payload
  | .openData => bareRequest .openData payload
  | .clearCondition => bareRequest (.change .clearCondition) payload
  | .evaluateNow => bareRequest .evaluateNow payload
  | .readAlarms => bareRequest .readAlarms payload
  | .popTrial => bareRequest .popTrial payload
  | .clearTrials => bareRequest .clearTrials payload
  | .readTrials => bareRequest .readTrials payload
  | .draftZero => bareRequest .draftZero payload
  | .readDrafts => bareRequest .readDrafts payload
  | .abortLift => bareRequest .abortLift payload
  | .collectOutcome => bareRequest .collectOutcome payload
  | .writeData =>
    (match payload with
     | kind :: index :: rest => (fieldWords rest).map (.writeData kind.toNat index.toNat)
     | _ => none)
  | .closeData =>
    (match payload with
     | [hi, lo] => some (.closeData (hi ++ lo))
     | _ => none)
  | .readItem => tagRequest .readItem payload
  | .listItems => tagRequest .listItems payload
  | .cancelPlan => tagRequest (fun t => .change (.cancelPlan t)) payload
  | .removeItem => tagRequest (fun t => .change (.removeItem t)) payload
  | .soundings => (soundingPairs payload).map (fun l => .change (.soundings l))
  | .setAttention | .addItems | .amendItem | .planMove | .setCompartment | .setDensity | .readCompartment
  | .setEvaluation | .evaluateProspect | .readResult | .readProspect | .setCriterion | .setRange | .resetSlot | .inject
  | .withdraw | .readCriterion | .findSpace | .pushTrial | .drafts | .liftRequest | .joinLift | .hookOn | .hookAt
  | .landed | .readLift => freeRequest k payload

/-- What the reply to a payload that does not fit carries besides BAD ARGUMENT: the version for a change (R35), the
entry number 0 for ADD ITEMS (R38), the effective action for a setting (log 21), and otherwise nothing. -/
def misfitBody (s : State) : ReqKind → Body
  | .addItems => .entryRefused 0 s.cond.version
  | .amendItem | .planMove | .cancelPlan | .removeItem | .setCompartment | .clearCondition | .setDensity | .soundings
  | .hookOn | .hookAt | .landed => .version s.cond.version
  | .setCriterion | .setRange | .resetSlot | .inject | .withdraw => .setting s.mon.effective
  | _ => .statusOnly

/-- What the owning block does with a payload (R182): one whose length or field count does not fit the request kind is BAD
ARGUMENT before any other refusal. Of a WRITE DATA that is a payload of other than a kind, an index and whole four-byte
fields, which is so answered during a commit as well; the number of fields that its record kind asks for is R12's own test,
made in `takeWriteData` after NOT READY (log 38, DESIGN CHOICE). -/
def servePayload (k : ReqKind) (payload : List Byte) (q : Caller) (s : State) : State :=
  match requestOf k payload with
  | none => answer q ⟨.badArgument, misfitBody s k⟩ s
  | some r => serve r q s

/-- A telegram whose check is good, handed on by the receiver (R180, R182). -/
def handOn (p : Port) (kind tag : Byte) (payload : List Byte) (s : State) : State :=
  let k := kindOfByte kind
  receive p kind tag k (fun q t => match k with | none => t | some k => servePayload k payload q t) s

/-! ### Receivers (R180) -/

/-- The state with one receiver set. -/
def State.setRx (s : State) (p : Port) (r : Receiver) : State := s.modifyPort p (fun q => { q with rx := r })

/-- What the characters assembled so far make. -/
inductive Assembly where
  | open
  | oversize
  | badCheck
  | complete (kind tag : Byte) (payload : List Byte)
deriving DecidableEq, Repr

/-- The test of the characters assembled: the length byte is the third, and the telegram ends with two check bytes
(R178, R179, R180). -/
def assembled : List Byte → Assembly
  | kind :: tag :: len :: rest =>
    if rest = [] ∧ Config.maxPayload < len.toNat then .oversize
    else if rest.length = len.toNat + 2 then
      (if rest.drop len.toNat = crcBytes (crc16 (kind :: tag :: len :: rest.take len.toNat))
       then .complete kind tag (rest.take len.toNat) else .badCheck)
    else .open
  | _ => .open

/-- A character with a good stop bit appended to those of a telegram in progress (R180). -/
def takeChar (p : Port) (bytes : List Byte) (s : State) : State :=
  match assembled bytes with
  | .open => s.setRx p (.assembling bytes)
  | .oversize => countError p .oversize (s.setRx p .discarding)
  | .badCheck => countError p .check (s.setRx p .waiting)
  | .complete kind tag payload => handOn p kind tag payload (s.setRx p .waiting)

/-- One character at a receiver (R180); a receiver held in a break takes none (R185). -/
def rxChar (p : Port) (c : RxChar) (s : State) : State :=
  match (s.ports.get p).rx with
  | .inBreak => s
  | .discarding => s
  | .waiting => if c.stopGood then takeChar p [c.data] s else countError p .framing (s.setRx p .discarding)
  | .assembling bytes =>
    if c.stopGood then takeChar p (bytes ++ [c.data]) s else countError p .framing (s.setRx p .discarding)

/-- Characters at a receiver, one after another with no gap between them. -/
def rxChars (p : Port) (cs : List RxChar) (s : State) : State := cs.foldl (fun t c => rxChar p c t) s

/-- More than two character times without a character (R180). -/
def rxGap (p : Port) (s : State) : State :=
  match (s.ports.get p).rx with
  | .assembling _ => countError p .gap (s.setRx p .waiting)
  | .discarding => s.setRx p .waiting
  | .waiting => s
  | .inBreak => s

/-! ### Transmitters (R183, R184) -/

/-- Whether the outstanding request is the one that a reply answers. -/
def answersIt (o : Option Caller) (m : Option Nat) : Bool :=
  match o, m with
  | some q, some n => q.mark == n
  | _, _ => false

/-- The last character of a port's first reply has been sent: it leaves the transmitter, and the request it answers is
outstanding no longer (R183). -/
def PortState.sent (q : PortState) : PortState :=
  match q.tx with
  | [] => q
  | e :: rest => { q with tx := rest, outstanding := if answersIt q.outstanding e.answers then none else q.outstanding }

/-! ### Breaks (R185, R186) -/

/-- A port reset by a break; a break that lasts has no further effect (R185). The reply being sent is the head of the
transmitter (log 10). -/
def PortState.broken (q : PortState) : PortState :=
  if q.rx = .inBreak then q else { q with rx := .inBreak, outstanding := none, deferred := none, tx := q.tx.take 1 }

/-- The line of a port returns to mark: the receiver goes to WAITING (R185). -/
def PortState.released (q : PortState) : PortState := if q.rx = .inBreak then { q with rx := .waiting } else q

end Sys2Proof.Machine
end

