-- ==== Sys2Proof/Machine/Requests.lean ====
section
/-!
DEFINITION. The meanings of the request rows: each is the request, with the fields its rule gives it, arriving on a port and
going through the tests of R182 to its owning block (log 6).
-/

namespace Sys2Proof.Machine

open Sys2Proof

/-- What a command answers. -/
abbrev Answered := Host.Outcome State Fault Refusal

/-- IDENTIFY arrives on a port (R21). -/
def execIdentify (p : Port) (tag : Byte) (s : State) : Answered :=
  .next (request p tag .identify s)

/-- READ LINE STATUS arrives on a port (R181). -/
def execReadLineStatus (p : Port) (tag : Byte) (s : State) : Answered :=
  .next (request p tag .readLineStatus s)

/-- ATTENTION QUERY arrives on a port (R191). -/
def execAttentionQuery (p : Port) (tag : Byte) (s : State) : Answered :=
  .next (request p tag .attentionQuery s)

/-- SET ATTENTION arrives on a port (R189, R190). -/
def execSetAttention (p : Port) (tag : Byte) (unmasked : List Nat) (mode : Option LineMode) (s : State) : Answered :=
  .next (request p tag (.setAttention unmasked mode) s)

/-- OPEN DATA arrives on a port (R10, R11). -/
def execOpenData (p : Port) (tag : Byte) (s : State) : Answered :=
  .next (request p tag .openData s)

/-- WRITE DATA arrives on a port (R12). -/
def execWriteData (p : Port) (tag : Byte) (kind index : Nat) (fields : List FieldWord) (s : State) : Answered :=
  .next (request p tag (.writeData kind index fields) s)

/-- CLOSE DATA arrives on a port (R13, R14). -/
def execCloseData (p : Port) (tag : Byte) (expected : CheckWord) (s : State) : Answered :=
  .next (request p tag (.closeData expected) s)

/-- ADD ITEMS arrives on a port (R38, R39). -/
def execAddItems (p : Port) (tag : Byte) (entries : List Entry) (s : State) : Answered :=
  .next (request p tag (.change (.addItems entries)) s)

/-- AMEND ITEM arrives on a port (R40). -/
def execAmendItem (p : Port) (tag : Byte) (item : Nat) (mass dport : Option Int) (s : State) : Answered :=
  .next (request p tag (.change (.amendItem item mass dport)) s)

/-- PLAN MOVE arrives on a port (R41). -/
def execPlanMove (p : Port) (tag : Byte) (item : Nat) (plan : Option Goal) (s : State) : Answered :=
  .next (request p tag (.change (.planMove item plan)) s)

/-- CANCEL PLAN arrives on a port (R42). -/
def execCancelPlan (p : Port) (tag : Byte) (item : Nat) (s : State) : Answered :=
  .next (request p tag (.change (.cancelPlan item)) s)

/-- REMOVE ITEM arrives on a port (R43 to R45). -/
def execRemoveItem (p : Port) (tag : Byte) (item : Nat) (s : State) : Answered :=
  .next (request p tag (.change (.removeItem item)) s)

/-- SET COMPARTMENT arrives on a port (R46). -/
def execSetCompartment (p : Port) (tag : Byte) (comp : Nat) (flag : Option OpenFlag) (s : State) : Answered :=
  .next (request p tag (.change (.setCompartment comp flag)) s)

/-- CLEAR CONDITION arrives on a port (R47). -/
def execClearCondition (p : Port) (tag : Byte) (s : State) : Answered :=
  .next (request p tag (.change .clearCondition) s)

/-- SET DENSITY arrives on a port (R34). -/
def execSetDensity (p : Port) (tag : Byte) (density : Int) (s : State) : Answered :=
  .next (request p tag (.change (.setDensity density)) s)

/-- READ ITEM arrives on a port (R48). -/
def execReadItem (p : Port) (tag : Byte) (item : Nat) (s : State) : Answered :=
  .next (request p tag (.readItem item) s)

/-- LIST ITEMS arrives on a port (R48). -/
def execListItems (p : Port) (tag : Byte) (start : Nat) (s : State) : Answered :=
  .next (request p tag (.listItems start) s)

/-- READ COMPARTMENT arrives on a port (R49). -/
def execReadCompartment (p : Port) (tag : Byte) (comp start : Nat) (s : State) : Answered :=
  .next (request p tag (.readCompartment comp start) s)

/-- EVALUATE NOW arrives on a port (R93). -/
def execEvaluateNow (p : Port) (tag : Byte) (s : State) : Answered :=
  .next (request p tag .evaluateNow s)

/-- SET EVALUATION arrives on a port (R94). -/
def execSetEvaluation (p : Port) (tag : Byte) (mode : Option RoutineMode) (interval : Int) (s : State) : Answered :=
  .next (request p tag (.setEvaluation mode interval) s)

/-- EVALUATE PROSPECT arrives on a port (R101, R102). -/
def execEvaluateProspect (p : Port) (tag : Byte) (scope : Option Scope) (s : State) : Answered :=
  .next (request p tag (.evaluateProspect scope) s)

/-- READ RESULT arrives on a port (R99). -/
def execReadResult (p : Port) (tag : Byte) (sel : Selector) (part : Nat) (s : State) : Answered :=
  .next (request p tag (.readResult sel part) s)

/-- READ PROSPECT arrives on a port (R176). -/
def execReadProspect (p : Port) (tag : Byte) (part : Nat) (s : State) : Answered :=
  .next (request p tag (.readProspect part) s)

/-- SET CRITERION arrives on a port (R116). -/
def execSetCriterion (p : Port) (tag : Byte) (slot : Nat) (code : Option Code) (limit hyst n : Int)
    (action : Option Action) (s : State) : Answered :=
  .next (request p tag (.setCriterion slot code limit hyst n action) s)

/-- SET RANGE arrives on a port (R117). -/
def execSetRange (p : Port) (tag : Byte) (start stop : Nat) (s : State) : Answered :=
  .next (request p tag (.setRange start stop) s)

/-- RESET SLOT arrives on a port (R118). -/
def execResetSlot (p : Port) (tag : Byte) (slot : Nat) (s : State) : Answered :=
  .next (request p tag (.resetSlot slot) s)

/-- INJECT arrives on a port (R119). -/
def execInject (p : Port) (tag : Byte) (slot : Nat) (value : Int) (s : State) : Answered :=
  .next (request p tag (.inject slot value) s)

/-- WITHDRAW arrives on a port (R119). -/
def execWithdraw (p : Port) (tag : Byte) (slot : Nat) (s : State) : Answered :=
  .next (request p tag (.withdraw slot) s)

/-- READ ALARMS arrives on a port (R120). -/
def execReadAlarms (p : Port) (tag : Byte) (s : State) : Answered :=
  .next (request p tag .readAlarms s)

/-- READ CRITERION arrives on a port (R121). -/
def execReadCriterion (p : Port) (tag : Byte) (slot : Nat) (s : State) : Answered :=
  .next (request p tag (.readCriterion slot) s)

/-- FIND SPACE arrives on a port (R164, R165). -/
def execFindSpace (p : Port) (tag : Byte) (first last : Nat) (mass : Int) (mode : Option FindMode)
    (skipClosed : Bool) (kinds : List Nat) (s : State) : Answered :=
  .next (request p tag (.findSpace first last mass mode skipClosed kinds) s)

/-- PUSH TRIAL arrives on a port (R169, R170). -/
def execPushTrial (p : Port) (tag : Byte) (layer : LayerArg) (s : State) : Answered :=
  .next (request p tag (.pushTrial layer) s)

/-- POP TRIAL arrives on a port (R171). -/
def execPopTrial (p : Port) (tag : Byte) (s : State) : Answered :=
  .next (request p tag .popTrial s)

/-- CLEAR TRIALS arrives on a port (R171). -/
def execClearTrials (p : Port) (tag : Byte) (s : State) : Answered :=
  .next (request p tag .clearTrials s)

/-- READ TRIALS arrives on a port (R172). -/
def execReadTrials (p : Port) (tag : Byte) (s : State) : Answered :=
  .next (request p tag .readTrials s)

/-- SOUNDINGS arrives on a port (R151, R152). -/
def execSoundings (p : Port) (tag : Byte) (pairs : List (Nat × Nat)) (s : State) : Answered :=
  .next (request p tag (.change (.soundings pairs)) s)

/-- DRAFTS arrives on a port (R155). -/
def execDrafts (p : Port) (tag : Byte) (aft fwd : Int) (s : State) : Answered :=
  .next (request p tag (.drafts aft fwd) s)

/-- DRAFT ZERO arrives on a port (R161, R162). -/
def execDraftZero (p : Port) (tag : Byte) (s : State) : Answered :=
  .next (request p tag .draftZero s)

/-- READ DRAFTS arrives on a port (R157). -/
def execReadDrafts (p : Port) (tag : Byte) (s : State) : Answered :=
  .next (request p tag .readDrafts s)

/-- LIFT REQUEST arrives on a port (R126 to R128). -/
def execLiftRequest (p : Port) (tag : Byte) (item : Nat) (dest : Option Goal) (outreach hook : Point)
    (partner : Option PortRef) (share : Option Nat) (s : State) : Answered :=
  .next (request p tag (.liftRequest item dest outreach hook partner share) s)

/-- JOIN LIFT arrives on a port (R130). -/
def execJoinLift (p : Port) (tag : Byte) (lead : PortRef) (item : Nat) (outreach : Point) (s : State) : Answered :=
  .next (request p tag (.joinLift lead item outreach) s)

/-- HOOK ON arrives on a port (R137, R138). -/
def execHookOn (p : Port) (tag : Byte) (hook : Point) (s : State) : Answered :=
  .next (request p tag (.change (.hookOn hook)) s)

/-- HOOK AT arrives on a port (R139, R140). -/
def execHookAt (p : Port) (tag : Byte) (hook : Point) (s : State) : Answered :=
  .next (request p tag (.change (.hookAt hook)) s)

/-- LANDED arrives on a port (R141 to R144). -/
def execLanded (p : Port) (tag : Byte) (landing : Option Goal) (s : State) : Answered :=
  .next (request p tag (.change (.landed landing)) s)

/-- ABORT LIFT arrives on a port (R145). -/
def execAbortLift (p : Port) (tag : Byte) (s : State) : Answered :=
  .next (request p tag .abortLift s)

/-- COLLECT OUTCOME arrives on a port (R146). -/
def execCollectOutcome (p : Port) (tag : Byte) (s : State) : Answered :=
  .next (request p tag .collectOutcome s)

/-- READ LIFT arrives on a port (R125). -/
def execReadLift (p : Port) (tag : Byte) (record : Option Crane) (s : State) : Answered :=
  .next (request p tag (.readLift record) s)

end Sys2Proof.Machine
end

