-- ==== Sys2Proof/Machine/Events.lean ====
section
/-!
DEFINITION. The meanings of the event rows: line events, restarts, the ends of verification and commit, job events and
timer expiries. An event that cannot occur in the state it meets leaves the state as it is (log 5).
-/

namespace Sys2Proof.Machine

open Sys2Proof

/-- TELEGRAM RECEIVED (R180, R182; its characters in order, the last of which hands a sound telegram on (log 7)). -/
def execTelegramReceived (p : Port) (chars : List RxChar) (s : State) : Answered :=
  .next (rxChars p chars s)

/-- RECEIVE GAP TIMEOUT (R180). -/
def execReceiveGapTimeout (p : Port) (s : State) : Answered :=
  .next (rxGap p s)

/-- REPLY SENT (R183, R184). -/
def execReplySent (p : Port) (s : State) : Answered :=
  .next (s.modifyPort p PortState.sent)

/-- BREAK (R185, R186). -/
def execBreakLine (p : Port) (s : State) : Answered :=
  .next (s.modifyPort p PortState.broken)

/-- BREAK RELEASE (R185). -/
def execBreakRelease (p : Port) (s : State) : Answered :=
  .next (s.modifyPort p PortState.released)

/-- SUPPLY RISE (R18). -/
def execSupplyRise (retained : Bool) (straps : Straps) (s : State) : Answered :=
  .next (supplyRises retained straps s)

/-- RESET PIN (R18, R20). -/
def execResetPin (straps : Straps) (s : State) : Answered :=
  .next (warmRestart .warmPin straps s)

/-- VERIFY END (R16, R17); the routine request of an entry to IN SERVICE is the arbiter's first (R80). -/
def execVerifyEnd (s : State) : Answered :=
  .next (arbitrate s.eval (verifyEnds s))

/-- COMMIT END (R14, R17); the routine request of the entry to IN SERVICE is the arbiter's first (R80). -/
def execCommitEnd (s : State) : Answered :=
  .next (arbitrate s.eval (commitEnds s))

/-- JOB START (R79, R80, R82): the start of a job for a request that is pending while the engine is free. The steps that
raise a request or free the engine end with the same start (log 12). -/
def execJobStart (s : State) : Answered :=
  .next (startJob s)

/-- CAPTURE COMPLETE (R84). -/
def execCaptureComplete (s : State) : Answered :=
  .next (capturesComplete s)

/-- ROUTINE COMPLETION (R97, R109). -/
def execRoutineCompletion (s : State) : Answered :=
  routineCompletes s

/-- LIFT CHECK COMPLETION (R133 to R135). -/
def execLiftCheckCompletion (s : State) : Answered :=
  liftCompletes s

/-- PROSPECT COMPLETION (R101, R175). -/
def execProspectCompletion (s : State) : Answered :=
  prospectCompletes s

/-- INTERVAL TIMER EXPIRY (R92). -/
def execIntervalTimerExpiry (s : State) : Answered :=
  .next (intervalExpires s)

/-- JOIN WINDOW EXPIRY (R131). -/
def execJoinWindowExpiry (c : Crane) (s : State) : Answered :=
  .next (joinWindowExpires c s)

/-- GRANT LAPSE EXPIRY (R136). -/
def execGrantLapseExpiry (c : Crane) (s : State) : Answered :=
  .next (grantLapses c s)

/-- REPORT TIMER EXPIRY (R140). -/
def execReportTimerExpiry (c : Crane) (s : State) : Answered :=
  .next (reportLapses c s)

/-- DRAFT READING STALE (R156). -/
def execDraftReadingStale (s : State) : Answered :=
  .next (readingStales s)

/-- ATTENTION PULSE END (R190). -/
def execAttentionPulseEnd (p : Port) (s : State) : Answered :=
  .next (pulseEnds p s)

/-- CHARACTER RECEIVED (R180). -/
def execCharacterReceived (p : Port) (char : RxChar) (s : State) : Answered :=
  .next (rxChar p char s)

end Sys2Proof.Machine
end

