-- ==== Sys2Proof/Machine/Dispatch.lean ====
section
/-!
DEFINITION. The dispatch: one arm for each command.
-/

namespace Sys2Proof.Machine

open Sys2Proof

/-- What a command does to everything but the queue. -/
def exec (i : Instr) (s : State) : Host.Outcome State Fault Refusal :=
  match i with
  | .identify p tag => Sys2Proof.Machine.execIdentify p tag s
  | .readLineStatus p tag => Sys2Proof.Machine.execReadLineStatus p tag s
  | .attentionQuery p tag => Sys2Proof.Machine.execAttentionQuery p tag s
  | .setAttention p tag unmasked mode => Sys2Proof.Machine.execSetAttention p tag unmasked mode s
  | .openData p tag => Sys2Proof.Machine.execOpenData p tag s
  | .writeData p tag kind index fields => Sys2Proof.Machine.execWriteData p tag kind index fields s
  | .closeData p tag expected => Sys2Proof.Machine.execCloseData p tag expected s
  | .addItems p tag entries => Sys2Proof.Machine.execAddItems p tag entries s
  | .amendItem p tag item mass dport => Sys2Proof.Machine.execAmendItem p tag item mass dport s
  | .planMove p tag item plan => Sys2Proof.Machine.execPlanMove p tag item plan s
  | .cancelPlan p tag item => Sys2Proof.Machine.execCancelPlan p tag item s
  | .removeItem p tag item => Sys2Proof.Machine.execRemoveItem p tag item s
  | .setCompartment p tag comp flag => Sys2Proof.Machine.execSetCompartment p tag comp flag s
  | .clearCondition p tag => Sys2Proof.Machine.execClearCondition p tag s
  | .setDensity p tag density => Sys2Proof.Machine.execSetDensity p tag density s
  | .readItem p tag item => Sys2Proof.Machine.execReadItem p tag item s
  | .listItems p tag start => Sys2Proof.Machine.execListItems p tag start s
  | .readCompartment p tag comp start => Sys2Proof.Machine.execReadCompartment p tag comp start s
  | .evaluateNow p tag => Sys2Proof.Machine.execEvaluateNow p tag s
  | .setEvaluation p tag mode interval => Sys2Proof.Machine.execSetEvaluation p tag mode interval s
  | .evaluateProspect p tag scope => Sys2Proof.Machine.execEvaluateProspect p tag scope s
  | .readResult p tag sel part => Sys2Proof.Machine.execReadResult p tag sel part s
  | .readProspect p tag part => Sys2Proof.Machine.execReadProspect p tag part s
  | .setCriterion p tag slot code limit hyst n action => Sys2Proof.Machine.execSetCriterion p tag slot code limit hyst n action s
  | .setRange p tag start stop => Sys2Proof.Machine.execSetRange p tag start stop s
  | .resetSlot p tag slot => Sys2Proof.Machine.execResetSlot p tag slot s
  | .inject p tag slot value => Sys2Proof.Machine.execInject p tag slot value s
  | .withdraw p tag slot => Sys2Proof.Machine.execWithdraw p tag slot s
  | .readAlarms p tag => Sys2Proof.Machine.execReadAlarms p tag s
  | .readCriterion p tag slot => Sys2Proof.Machine.execReadCriterion p tag slot s
  | .findSpace p tag first last mass mode skipClosed kinds => Sys2Proof.Machine.execFindSpace p tag first last mass mode skipClosed kinds s
  | .pushTrial p tag layer => Sys2Proof.Machine.execPushTrial p tag layer s
  | .popTrial p tag => Sys2Proof.Machine.execPopTrial p tag s
  | .clearTrials p tag => Sys2Proof.Machine.execClearTrials p tag s
  | .readTrials p tag => Sys2Proof.Machine.execReadTrials p tag s
  | .soundings p tag pairs => Sys2Proof.Machine.execSoundings p tag pairs s
  | .drafts p tag aft fwd => Sys2Proof.Machine.execDrafts p tag aft fwd s
  | .draftZero p tag => Sys2Proof.Machine.execDraftZero p tag s
  | .readDrafts p tag => Sys2Proof.Machine.execReadDrafts p tag s
  | .liftRequest p tag item dest outreach hook partner share => Sys2Proof.Machine.execLiftRequest p tag item dest outreach hook partner share s
  | .joinLift p tag lead item outreach => Sys2Proof.Machine.execJoinLift p tag lead item outreach s
  | .hookOn p tag hook => Sys2Proof.Machine.execHookOn p tag hook s
  | .hookAt p tag hook => Sys2Proof.Machine.execHookAt p tag hook s
  | .landed p tag landing => Sys2Proof.Machine.execLanded p tag landing s
  | .abortLift p tag => Sys2Proof.Machine.execAbortLift p tag s
  | .collectOutcome p tag => Sys2Proof.Machine.execCollectOutcome p tag s
  | .readLift p tag record => Sys2Proof.Machine.execReadLift p tag record s
  | .telegramReceived p chars => Sys2Proof.Machine.execTelegramReceived p chars s
  | .receiveGapTimeout p => Sys2Proof.Machine.execReceiveGapTimeout p s
  | .replySent p => Sys2Proof.Machine.execReplySent p s
  | .breakLine p => Sys2Proof.Machine.execBreakLine p s
  | .breakRelease p => Sys2Proof.Machine.execBreakRelease p s
  | .supplyRise retained straps => Sys2Proof.Machine.execSupplyRise retained straps s
  | .resetPin straps => Sys2Proof.Machine.execResetPin straps s
  | .verifyEnd => Sys2Proof.Machine.execVerifyEnd s
  | .commitEnd => Sys2Proof.Machine.execCommitEnd s
  | .jobStart => Sys2Proof.Machine.execJobStart s
  | .captureComplete => Sys2Proof.Machine.execCaptureComplete s
  | .routineCompletion => Sys2Proof.Machine.execRoutineCompletion s
  | .liftCheckCompletion => Sys2Proof.Machine.execLiftCheckCompletion s
  | .prospectCompletion => Sys2Proof.Machine.execProspectCompletion s
  | .intervalTimerExpiry => Sys2Proof.Machine.execIntervalTimerExpiry s
  | .joinWindowExpiry c => Sys2Proof.Machine.execJoinWindowExpiry c s
  | .grantLapseExpiry c => Sys2Proof.Machine.execGrantLapseExpiry c s
  | .reportTimerExpiry c => Sys2Proof.Machine.execReportTimerExpiry c s
  | .draftReadingStale => Sys2Proof.Machine.execDraftReadingStale s
  | .attentionPulseEnd p => Sys2Proof.Machine.execAttentionPulseEnd p s
  | .characterReceived p char => Sys2Proof.Machine.execCharacterReceived p char s

end Sys2Proof.Machine
end

