-- ==== Sys2Proof/Safety.lean ====
section
/-!
DEFINITION. What counts as a safe state of the part, in the terms the claims use: the invariants that the manual states
of its blocks, each for any state and not only for those that a run reaches.
-/

namespace Sys2Proof.Machine

open Sys2Proof

/-- A property that holds at every port. -/
def PerPort.Forall {α : Type} (P : α → Prop) (m : PerPort α) : Prop := P m.p ∧ P m.b ∧ P m.c1 ∧ P m.c2

/-! ### Lines (R110, R111, R112, R190) -/

/-- The effective action is that of the slots in ALARM, and the three output lines carry the levels that the service
mode, the priming and the effective action give them (R110, R111, R112). -/
def LinesFollow (s : State) : Prop :=
  s.mon.effective = effectiveOf s.mon.slots ∧ s.lines = lineLevels s.ship.mode s.mon.primed s.mon.effective

/-- A pending set is a set of the seven causes, and in LEVEL mode the line is active exactly while an unmasked cause is
pending (R188, R190). -/
def AttnPort.Follows (a : AttnPort) : Prop :=
  a.pending = allCauses.filter (fun c => a.pending.contains c) ∧ (a.mode = .level → a.active = levelOf a.pending a.unmasked)

/-- Every attention line follows its pending set and mask. -/
def AttentionFollows (s : State) : Prop := s.attn.Forall AttnPort.Follows

/-! ### Persistent causes (R124, R188) -/

/-- A record is SILENT only while it is SLUNG (R124, R140). -/
def SilentOnlySlung (s : State) : Prop := ∀ c, (s.record c).silent = true → (s.record c).state = .slung

/-- OUTCOME READY is pending on a crane port exactly while its record is DONE and never on P or B, and SILENT LIFT is
pending on every port exactly while some record is SILENT (R188). -/
def CausesPersist (s : State) : Prop :=
  (∀ c, Cause.outcomeReady ∈ (s.attn.get (cranePort c)).pending ↔ (s.record c).state = .done) ∧
  Cause.outcomeReady ∉ s.attn.p.pending ∧ Cause.outcomeReady ∉ s.attn.b.pending ∧
  (∀ p, Cause.silentLift ∈ (s.attn.get p).pending ↔ s.anySilent = true)

/-! ### Lift records (R123, R124) -/

/-- The lift timer that may run in a state (R131, R136, R140). -/
def timerOf : LiftState → Option TimerKind
  | .joining => some .joinWindow
  | .granted => some .grantLapse
  | .slung => some .report
  | .idle | .checking | .done => none

/-- A record holds the fields that its state gives it (R123, R124): the lift's fields exactly outside IDLE, an outcome
exactly in DONE, no timer but that of its state, a share exactly for LEAD and PARTNER within 100..900, a lead alone in
JOINING, a hook point but for a partner before HOOK ON, and no timer on a partner but the report timer (R136). -/
def LiftRecord.Shaped (r : LiftRecord) : Prop :=
  (r.lift.isSome = true ↔ r.state ≠ .idle) ∧
  (r.outcome.isSome = true ↔ r.state = .done) ∧
  (∀ t ∈ r.timer, timerOf r.state = some t.kind) ∧
  (∀ l ∈ r.lift, (l.share.isSome = true ↔ l.role ≠ .single) ∧ (∀ n ∈ l.share, 100 ≤ n ∧ n ≤ 900) ∧
    (r.state = .joining → l.role = .lead) ∧ (l.hook = none → l.role = .partner ∧ r.state ≠ .slung) ∧
    (l.role = .partner → ∀ t ∈ r.timer, t.kind = .report))

/-- Both records are shaped, SILENT only when SLUNG, and their outcome records are kept exactly in DONE (R123, R124). -/
def LiftsShaped (s : State) : Prop :=
  (∀ c, (s.record c).Shaped) ∧ SilentOnlySlung s ∧ (∀ c, (s.lifts.ended.get c).isSome = true ↔ (s.record c).state = .done)

/-- Two records that carry an item in tandem: a partner in an active state has the lead beside it, in the same state
and for the same item; and a lead past JOINING and not yet DONE has its partner beside it (R132). -/
def TandemPaired (s : State) : Prop :=
  ∀ c, (liftActive (s.record c) = true → liftRole (s.record c) = some .partner →
      (s.record (otherCrane c)).state = (s.record c).state ∧ liftRole (s.record (otherCrane c)) = some .lead ∧
      (s.record (otherCrane c)).lift.map Lift.tag = (s.record c).lift.map Lift.tag) ∧
    (liftActive (s.record c) = true → liftRole (s.record c) = some .lead → (s.record c).state ≠ .joining →
      (s.record (otherCrane c)).state = (s.record c).state ∧ liftRole (s.record (otherCrane c)) = some .partner)

/-- An item that both records name is carried in tandem (R123, R129). -/
def NamedOnce (s : State) : Prop :=
  ∀ tag, recordNames (s.record .crane1) tag = true → recordNames (s.record .crane2) tag = true →
    liftRole (s.record .crane1) = some .partner ∨ liftRole (s.record .crane2) = some .partner

/-- Whether a lift check waits in a crane's slot. -/
def checkPending (e : EvalUnit) : Crane → Bool
  | .crane1 => e.slotC1.isSome
  | .crane2 => e.slotC2.isSome

/-- Whether the engine runs a crane's lift check. -/
def checkRunning (e : EvalUnit) (c : Crane) : Bool :=
  match e.engine with
  | none => false
  | some j => match j.work with
    | .lift lead _ _ => lead == c
    | .routine .. => false
    | .prospect .. => false

/-- A check waits or runs for a crane exactly while its record is CHECKING and not a partner, and not both at once
(R78, R133). -/
def ChecksMatch (s : State) : Prop :=
  ∀ c, ((checkPending s.eval c || checkRunning s.eval c) = true ↔
      (s.record c).state = .checking ∧ liftRole (s.record c) ≠ some .partner) ∧
    (checkPending s.eval c && checkRunning s.eval c) = false

/-- The request whose reply waits on a record came on the record's own port (R128, R130). -/
def WaitersOwn (s : State) : Prop := ∀ c q, s.lifts.waiting.get c = some q → q.port = cranePort c

/-! ### Items (R22, R23, R25) -/

/-- An item record has the fields that its state gives it (R23). -/
def ItemRecord.Shaped (it : ItemRecord) : Prop :=
  (it.actual.isSome = true ↔ it.state = .aboard) ∧ (it.link.isSome = true ↔ it.state = .slung) ∧
  (it.state = .pending → it.plan.isSome = true) ∧ (it.kind = .constant → it.state = .aboard ∧ it.plan = none) ∧
  1 ≤ it.mass ∧ it.mass ≤ 60000 ∧ 0 ≤ it.dport ∧ it.dport ≤ 15

/-- The item table: tags strictly rising and not 0, at most 384 records, each shaped (R22, R23). -/
def ItemsShaped (s : State) : Prop :=
  s.cond.items.Rising ∧ s.cond.items.length ≤ Config.maxItems ∧ ∀ e ∈ s.cond.items, e.1 ≠ 0 ∧ e.2.Shaped

/-- An item is SLUNG exactly when a record in SLUNG names it, its lift link is a record that made the HOOK ON, and every
item that an active record names is a CARGO item of the table (R25). -/
def SlungOnHooks (s : State) : Prop :=
  (∀ c l, liftActive (s.record c) = true → (s.record c).lift = some l →
    ∃ it, s.item l.tag = some it ∧ it.kind = .cargo ∧ (it.state = .slung ↔ (s.record c).state = .slung)) ∧
  (∀ tag it, s.item tag = some it → it.state = .slung →
    ∃ c, it.link = some c ∧ (s.record c).state = .slung ∧ recordNames (s.record c) tag = true ∧
      liftRole (s.record c) ≠ some .partner)

/-! ### Loads and stow lists (R31, R32) -/

/-- The sum of the masses of the ABOARD items of a compartment. -/
def massAboard (items : Table ItemRecord) (n : Nat) : Int := (items.map (fun e => if aboardIn e.2 n then e.2.mass else 0)).sum

/-- Every compartment's load is the mass aboard there, and its stow list holds each item aboard there once and no other
(R31, R32). -/
def LoadsAgree (s : State) : Prop :=
  ∀ n, (s.comp n).load = massAboard s.cond.items n ∧ (s.comp n).stow.Nodup ∧
    ∀ tag, tag ∈ (s.comp n).stow ↔ ∃ it, s.item tag = some it ∧ aboardIn it n = true

/-- The lift records, the items and the compartments agree with one another: the record shapes, the persistent causes, the
tandem pairs, the pending checks, the item table, the SLUNG items, and the loads and stow lists. -/
structure LiftsAgree (s : State) : Prop where
  shaped : LiftsShaped s
  causes : CausesPersist s
  paired : TandemPaired s
  once : NamedOnce s
  checks : ChecksMatch s
  waiters : WaitersOwn s
  items : ItemsShaped s
  slung : SlungOnHooks s
  loads : LoadsAgree s
  comps : s.cond.comps.Rising

/-! ### The limit monitor (R103, R106, R108) -/

/-- A slot's counter stays within 0..N and is N in ALARM, N is 1..8, and a slot that holds NONE is CLEAR with counter 0. -/
def Slot.Shaped (o : Slot) : Prop :=
  1 ≤ o.set.n ∧ o.set.n ≤ 8 ∧ o.count ≤ o.set.n ∧ (o.alarm = true → o.count = o.set.n) ∧
  (o.set.code = .none → o.alarm = false ∧ o.count = 0)

/-- Sixteen shaped slots, a range within 0..15, and every slot outside the effective range CLEAR with counter 0. -/
def MonitorShaped (s : State) : Prop :=
  s.mon.slots.length = Config.slotCount ∧ (∀ o ∈ s.mon.slots, o.Shaped) ∧
  s.mon.rangeStart < Config.slotCount ∧ s.mon.rangeStop < Config.slotCount ∧
  ∀ i, inRange s.mon.rangeStart s.mon.rangeStop i = false → (s.slot i).alarm = false ∧ (s.slot i).count = 0

/-! ### Ship data (R1, R13, R14, R16) -/

/-- A stored image that is PRESENT passes tests 1 to 7 of R13, and so does a buffer that is being committed; IN SERVICE
the image is PRESENT, and a commit runs in DATA LOADING alone. -/
def ImageChecked (s : State) : Prop :=
  (s.ship.present = true → s.ship.image.fault = none) ∧
  (s.ship.committing.isSome = true → s.ship.buffer.fault = none ∧ s.ship.mode = .dataLoading) ∧
  (s.ship.mode = .inService → s.ship.present = true)

/-! ### Values (R34, R150, R160, R168) -/

/-- The quantities of the condition, the tanks, the trial stack and the evaluation unit lie in their ranges. -/
def ValuesInRange (s : State) : Prop :=
  990 ≤ s.cond.density ∧ s.cond.density ≤ 1030 ∧ (∀ e ∈ s.tanks.fills, e.2 ≤ 1000) ∧
  -50 ≤ s.tanks.aftOffset ∧ s.tanks.aftOffset ≤ 50 ∧ -50 ≤ s.tanks.fwdOffset ∧ s.tanks.fwdOffset ≤ 50 ∧
  s.trials.layers.length ≤ Config.maxLayers ∧ (s.trials.layers = [] → s.trials.baseLost = false) ∧
  1 ≤ s.eval.interval ∧ s.eval.interval ≤ 60

/-! ### Tables (log 26) -/

/-- Every table of the state is in its one canonical form. -/
def TablesCanonical (s : State) : Prop :=
  s.cond.items.Rising ∧ s.cond.comps.Canonical .empty ∧ s.tanks.fills.Canonical 0 ∧
  (∀ img, img = s.ship.image ∨ img = s.ship.buffer →
    img.blocks.Rising ∧ img.rows.Rising ∧ img.stations.Rising ∧ img.comps.Rising ∧ img.criteria.Rising)

/-! ### The hold list and the engine (R37, R83, R15) -/

/-- The hold list holds one change at most from each port, and none but while a capture is in progress (R37, R83). -/
def HoldListKept (s : State) : Prop :=
  (s.cond.hold.map (fun h => h.caller.port)).Nodup ∧ (s.cond.hold ≠ [] → s.capturing = true)

/-- A job runs IN SERVICE alone (R15), on captures from which a figure set can be formed (R77). -/
def EngineSound (s : State) : Prop :=
  ∀ j, s.eval.engine = some j → s.ship.mode = .inService ∧
    match j.work with
    | .routine cap _ _ => (figureSet s.ship.image cap).isSome = true
    | .lift _ path final => (figureSet s.ship.image path).isSome = true ∧ (figureSet s.ship.image final).isSome = true
    | .prospect _ cap _ _ _ _ _ => (figureSet s.ship.image cap).isSome = true

/-- No job slot is pending (R78). -/
def SlotsEmpty (e : EvalUnit) : Prop := e.slotC1 = none ∧ e.slotC2 = none ∧ e.slotProspect = none ∧ e.slotRoutine = false

/-- No request waits for a free engine, and outside IN SERVICE no slot is pending and no job runs (R80); and the interval
timer runs IN SERVICE alone, in the CONTINUOUS mode (R92). -/
def ArbiterKept (s : State) : Prop :=
  (s.eval.engine = none ∨ s.ship.mode ≠ .inService → SlotsEmpty s.eval) ∧
  (s.eval.engine.isSome = true → s.ship.mode = .inService) ∧
  (s.eval.intervalTimer.isSome = true → s.ship.mode = .inService ∧ s.eval.routineMode = .continuous)

/-! ### Ports (R181, R183, R184) -/

/-- No counter of a port is above 255 (R181). -/
def Counters.Saturated (n : Counters) : Prop := ∀ e, n.read e ≤ 255

/-- A port holds one reply at most to its outstanding request and one BUSY reply at most; a deferred reply belongs to
the outstanding request, which then has no reply yet; and no mark in use is still to be given (R183, R184). -/
def PortState.Ordered (q : PortState) : Prop :=
  q.counters.Saturated ∧ (q.tx.filter (fun e => e.answers.isNone)).length ≤ 1 ∧
  (∀ c, q.outstanding = some c → c.mark < q.nextMark ∧ (q.tx.filter (fun e => e.answers == some c.mark)).length ≤ 1) ∧
  (∀ c, q.deferred = some c → q.outstanding = some c ∧ ∀ e ∈ q.tx, e.answers ≠ some c.mark) ∧
  (∀ e ∈ q.tx, ∀ m, e.answers = some m → m < q.nextMark)

/-- Every port is ordered. -/
def PortsOrdered (s : State) : Prop := s.ports.Forall PortState.Ordered

/-! ### Terms of the claims: requests and their replies -/

/-- A port takes a request: its line is not in a break and no request is outstanding (R183, R185). -/
abbrev Ready (s : State) (p : Port) : Prop := (s.ports.get p).rx ≠ .inBreak ∧ (s.ports.get p).outstanding = none

/-- A port takes a request and the part is IN SERVICE. -/
abbrev Serving (s : State) (p : Port) : Prop := Ready s p ∧ s.ship.mode = .inService

/-- As `Serving`, and no capture is in progress, so that a change is applied at once (R36). -/
abbrev Applying (s : State) (p : Port) : Prop := Serving s p ∧ s.capturing = false

/-- The ports after a request has been taken on a port and answered at once: it is outstanding, and its reply is behind
those the transmitter held (R183, R184). -/
def answeredPorts (s : State) (p : Port) (k : ReqKind) (tag : Byte) (a : Answer) : PerPort PortState :=
  let q := s.ports.get p
  s.ports.set p { q with
    outstanding := some (nextCaller s p (kindByte k) tag)
    nextMark := q.nextMark + 1
    tx := q.tx ++ [⟨⟨replyKind (kindByte k), tag, a⟩, some q.nextMark⟩] }

/-- The ports after a request has been taken on a port and its reply deferred (R183). -/
def deferredPorts (s : State) (p : Port) (k : ReqKind) (tag : Byte) : PerPort PortState :=
  let q := s.ports.get p
  s.ports.set p { q with
    outstanding := some (nextCaller s p (kindByte k) tag)
    deferred := some (nextCaller s p (kindByte k) tag)
    nextMark := q.nextMark + 1 }

/-- The next state of a request that is answered at once and changes nothing else. -/
def answersOnly (s : State) (p : Port) (k : ReqKind) (tag : Byte) (a : Answer) : Host.Outcome State Fault Refusal :=
  .next { s with ports := answeredPorts s p k tag a }

/-- The next state of a change that is refused: nothing else changes, and the reply carries the version (R35, R36). -/
def refusesOnly (s : State) (p : Port) (k : ReqKind) (tag : Byte) (st : Status) : Host.Outcome State Fault Refusal :=
  answersOnly s p k tag ⟨st, .version s.cond.version⟩

/-- The evaluation unit after an event that raises a routine request in the CONTINUOUS mode alone (R91). -/
def routineRaised (s : State) : EvalUnit :=
  { s.eval with slotRoutine := s.eval.slotRoutine || decide (s.eval.routineMode = .continuous) }

/-- The next state of a change that leaves the condition as `c` but for the version, which advances, and is answered
with `a`; a routine request is raised in the CONTINUOUS mode, on which the arbiter acts (R35, R36, R80, R91). -/
def changesCond (s : State) (p : Port) (k : ReqKind) (tag : Byte) (c : Condition) (a : Answer) :
    Host.Outcome State Fault Refusal :=
  .next (arbitrate s.eval { s with
    cond := { c with version := s.cond.version + 1 }
    eval := routineRaised s
    ports := answeredPorts s p k tag a })

/-- The monitor after its slots have been changed and the effective action recomputed (R110). -/
def Monitor.recomputed (m : Monitor) : Monitor := { m with effective := effectiveOf m.slots }

/-- The attention unit after a recomputation that leaves the effective action at `now`: ACTION CLEARED is raised on all
ports when that is lower than before (R113). -/
def attnAfter (s : State) (now : Option Action) : PerPort AttnPort :=
  if actionRank now < actionRank s.mon.effective then s.attn.map (AttnPort.raise .actionCleared) else s.attn

/-- The request rows of the table, with the port, the tag and the request each carries. -/
def requestRow : Instr → Option (Port × Byte × Request)
  | .identify p tag => some (p, tag, .identify)
  | .readLineStatus p tag => some (p, tag, .readLineStatus)
  | .attentionQuery p tag => some (p, tag, .attentionQuery)
  | .setAttention p tag unmasked mode => some (p, tag, .setAttention unmasked mode)
  | .openData p tag => some (p, tag, .openData)
  | .writeData p tag kind index fields => some (p, tag, .writeData kind index fields)
  | .closeData p tag expected => some (p, tag, .closeData expected)
  | .addItems p tag entries => some (p, tag, .change (.addItems entries))
  | .amendItem p tag item mass dport => some (p, tag, .change (.amendItem item mass dport))
  | .planMove p tag item plan => some (p, tag, .change (.planMove item plan))
  | .cancelPlan p tag item => some (p, tag, .change (.cancelPlan item))
  | .removeItem p tag item => some (p, tag, .change (.removeItem item))
  | .setCompartment p tag comp flag => some (p, tag, .change (.setCompartment comp flag))
  | .clearCondition p tag => some (p, tag, .change .clearCondition)
  | .setDensity p tag density => some (p, tag, .change (.setDensity density))
  | .readItem p tag item => some (p, tag, .readItem item)
  | .listItems p tag start => some (p, tag, .listItems start)
  | .readCompartment p tag comp start => some (p, tag, .readCompartment comp start)
  | .evaluateNow p tag => some (p, tag, .evaluateNow)
  | .setEvaluation p tag mode interval => some (p, tag, .setEvaluation mode interval)
  | .evaluateProspect p tag scope => some (p, tag, .evaluateProspect scope)
  | .readResult p tag sel part => some (p, tag, .readResult sel part)
  | .readProspect p tag part => some (p, tag, .readProspect part)
  | .setCriterion p tag slot code limit hyst n action => some (p, tag, .setCriterion slot code limit hyst n action)
  | .setRange p tag start stop => some (p, tag, .setRange start stop)
  | .resetSlot p tag slot => some (p, tag, .resetSlot slot)
  | .inject p tag slot value => some (p, tag, .inject slot value)
  | .withdraw p tag slot => some (p, tag, .withdraw slot)
  | .readAlarms p tag => some (p, tag, .readAlarms)
  | .readCriterion p tag slot => some (p, tag, .readCriterion slot)
  | .findSpace p tag first last mass mode skipClosed kinds => some (p, tag, .findSpace first last mass mode skipClosed kinds)
  | .pushTrial p tag layer => some (p, tag, .pushTrial layer)
  | .popTrial p tag => some (p, tag, .popTrial)
  | .clearTrials p tag => some (p, tag, .clearTrials)
  | .readTrials p tag => some (p, tag, .readTrials)
  | .soundings p tag pairs => some (p, tag, .change (.soundings pairs))
  | .drafts p tag aft fwd => some (p, tag, .drafts aft fwd)
  | .draftZero p tag => some (p, tag, .draftZero)
  | .readDrafts p tag => some (p, tag, .readDrafts)
  | .liftRequest p tag item dest outreach hook partner share => some (p, tag, .liftRequest item dest outreach hook partner share)
  | .joinLift p tag lead item outreach => some (p, tag, .joinLift lead item outreach)
  | .hookOn p tag hook => some (p, tag, .change (.hookOn hook))
  | .hookAt p tag hook => some (p, tag, .change (.hookAt hook))
  | .landed p tag landing => some (p, tag, .change (.landed landing))
  | .abortLift p tag => some (p, tag, .abortLift)
  | .collectOutcome p tag => some (p, tag, .collectOutcome)
  | .readLift p tag record => some (p, tag, .readLift record)
  | .telegramReceived .. | .receiveGapTimeout _ | .replySent _ | .breakLine _ | .breakRelease _ | .supplyRise .. | .resetPin _
  | .verifyEnd | .commitEnd | .jobStart | .captureComplete | .routineCompletion | .liftCheckCompletion | .prospectCompletion
  | .intervalTimerExpiry | .joinWindowExpiry _ | .grantLapseExpiry _ | .reportTimerExpiry _ | .draftReadingStale
  | .attentionPulseEnd _ | .characterReceived .. => none

end Sys2Proof.Machine
end

