-- ==== Sys2Proof/Certificates/Slice0/Obligations.lean ====
section
/-!
DEFINITION. The statements for the provers. Each says what a command does in the form of its whole next state: what a
statement does not name in the record it gives is unchanged. A next state under `arbitrate` is that state with the job that
the arbiter then starts, which ArbiterStartsTheFirstJob states.
-/

open Sys2Proof Sys2Proof.Machine

/-! ### The queue and the port interface -/

/-- The block's step: the command at the front of the queue is run on the state with the queue's rest. The queue is the
model's own (log 2). -/
def Obligations.StepTakesTheFrontCommand : Prop :=
  ∀ (c : Instr) (rest : List Instr) (s : State), s.pending = c :: rest → step s = exec c { s with pending := rest }

/-- On an empty queue one second passes: every running timer has one second less and a held draft reading is one second
older, up to 65535 (R156). That an empty queue is a second is the model's choice (log 3). -/
def Obligations.EmptyQueuePassesOneSecond : Prop :=
  ∀ s : State, s.pending = [] →
    let less (r : LiftRecord) : LiftRecord := { r with timer := r.timer.map (fun t => { t with remaining := t.remaining - 1 }) }
    step s = .next { s with
      lifts := { s.lifts with records := ⟨less s.lifts.records.c1, less s.lifts.records.c2⟩ }
      eval := { s.eval with intervalTimer := s.eval.intervalTimer.map (fun n => n - 1) }
      tanks := { s.tanks with reading := s.tanks.reading.map (fun r => { r with age := min (r.age + 1) 65535 }) } }

/-- The tests of R182 on every request row. That a port in a break takes nothing is read from R185, which holds its receiver
in reset (section 5 of the ports chapter; log 6, DEDUCED); then an outstanding request gives BUSY, or
DROPPED when a BUSY reply is held; then NOT READY in VERIFY, ROLE with its count, and the answer of R15, each making the
request outstanding and answering it at once; and a request that passes is its owning block's.
Which kinds a service mode accepts from a port whose role allows them (R15), and how it answers the others.
Which roles may send a kind, by the From column of section 8.2, and the role of each port (R177): some kinds any port, three
the ballast port, seven the crane ports, and every other the planning port.
The arbiter then acts on a job request that it raised, at the end of the same step (R80; log 12, DEDUCED). -/
def Obligations.RequestTestsDecideInOrder : Prop :=
  (∀ (i : Instr) (p : Port) (tag : Byte) (r : Request) (s : State), requestRow i = some (p, tag, r) →
     let q := s.ports.get p
     let k := r.kind
     (q.rx = .inBreak → exec i s = .next s) ∧
     (q.rx ≠ .inBreak → q.outstanding.isSome = true → holdsBusy q.tx = false →
       exec i s = .next { s with ports := s.ports.set p { q with
         tx := q.tx ++ [⟨⟨replyKind (kindByte k), tag, ⟨.busy, .statusOnly⟩⟩, none⟩] } }) ∧
     (q.rx ≠ .inBreak → q.outstanding.isSome = true → holdsBusy q.tx = true → exec i s = .next (countError p .dropped s)) ∧
     (Ready s p → s.ship.mode = .verify → k ≠ .identify → exec i s = answersOnly s p k tag ⟨.notReady, .statusOnly⟩) ∧
     (Ready s p → s.ship.mode ≠ .verify → roleAllows k (portRole p) = false →
       exec i s = answersOnly (countError p .role s) p k tag ⟨.role, .statusOnly⟩) ∧
     (∀ st, Ready s p → s.ship.mode ≠ .verify → roleAllows k (portRole p) = true → modeAnswer s.ship.mode k = some st →
       exec i s = answersOnly s p k tag ⟨st, .statusOnly⟩) ∧
     (Ready s p → roleAllows k (portRole p) = true → modeAnswer s.ship.mode k = none →
       exec i s = .next (arbitrate s.eval
         (serve r (nextCaller s p (kindByte k) tag) (openRequest (nextCaller s p (kindByte k) tag) s))))) ∧
  (∀ k : ReqKind,
     (modeAnswer .verify k = if k = .identify then none else some .notReady) ∧
     (modeAnswer .inService k = if k = .writeData ∨ k = .closeData then some .notReady else none) ∧
     (modeAnswer .dataLoading k =
       if k ∈ [.identify, .readLineStatus, .attentionQuery, .setAttention, .openData, .writeData, .closeData] then none
       else some .notInService) ∧
     (modeAnswer .dataFault k =
       if k ∈ [.identify, .readLineStatus, .attentionQuery, .setAttention, .openData] then none
       else if k = .writeData ∨ k = .closeData then some .notReady else some .notInService)) ∧
  (portRole .portP = .planning ∧ portRole .portB = .ballast ∧ portRole .portC1 = .crane ∧ portRole .portC2 = .crane) ∧
  (∀ (k : ReqKind) (r : PortRole),
     let ofAny : List ReqKind := [.identify, .readLineStatus, .attentionQuery, .setAttention, .readItem, .listItems,
       .readCompartment, .readResult, .readProspect, .readAlarms, .readCriterion, .readTrials, .readDrafts, .readLift]
     let ofBallast : List ReqKind := [.soundings, .drafts, .draftZero]
     let ofCrane : List ReqKind := [.liftRequest, .joinLift, .hookOn, .hookAt, .landed, .abortLift, .collectOutcome]
     roleAllows k r = true ↔ k ∈ ofAny ∨ (k ∈ ofBallast ∧ r = .ballast) ∨ (k ∈ ofCrane ∧ r = .crane) ∨
       (k ∉ ofAny ∧ k ∉ ofBallast ∧ k ∉ ofCrane ∧ r = .planning))

/-- The table of R180, event by event: CHARACTER RECEIVED and RECEIVE GAP TIMEOUT in each state of the receiver. Not rows of
that table: a receiver held in a break takes no character and no gap (R180's last paragraph and R185; log 6, DEDUCED), and a
gap at a WAITING receiver changes nothing (log 5, DESIGN CHOICE). -/
def Obligations.ReceiverDealsWithEachEvent : Prop :=
  ∀ (p : Port) (s : State) (d : Byte),
    let rx := (s.ports.get p).rx
    let good : RxChar := ⟨d, true⟩
    let bad : RxChar := ⟨d, false⟩
    (rx = .waiting → exec (.characterReceived p good) s = .next (s.setRx p (.assembling [d]))) ∧
    (rx = .waiting → exec (.characterReceived p bad) s = .next (countError p .framing (s.setRx p .discarding))) ∧
    (∀ l, rx = .assembling l → exec (.characterReceived p bad) s = .next (countError p .framing (s.setRx p .discarding))) ∧
    (∀ k t, rx = .assembling [k, t] → 120 < d.toNat →
      exec (.characterReceived p good) s = .next (countError p .oversize (s.setRx p .discarding))) ∧
    (∀ k t payload check, rx = .assembling (k :: t :: byteOf payload.length :: payload ++ [check]) → payload.length ≤ 120 →
      exec (.characterReceived p good) s =
        .next (if [check, d] = crcBytes (crc16 (k :: t :: byteOf payload.length :: payload))
               then handOn p k t payload (s.setRx p .waiting) else countError p .check (s.setRx p .waiting))) ∧
    (∀ l, rx = .assembling l → (∀ k t n rest, l = k :: t :: n :: rest → rest.length ≤ n.toNat) →
      (l.length = 2 → d.toNat ≤ 120) →
      exec (.characterReceived p good) s = .next (s.setRx p (.assembling (l ++ [d])))) ∧
    (∀ l, rx = .assembling l → exec (.receiveGapTimeout p) s = .next (countError p .gap (s.setRx p .waiting))) ∧
    (rx = .discarding → exec (.characterReceived p good) s = .next s ∧ exec (.characterReceived p bad) s = .next s) ∧
    (rx = .discarding → exec (.receiveGapTimeout p) s = .next (s.setRx p .waiting)) ∧
    (rx = .waiting → exec (.receiveGapTimeout p) s = .next s) ∧
    (rx = .inBreak → exec (.characterReceived p good) s = .next s ∧ exec (.characterReceived p bad) s = .next s ∧
      exec (.receiveGapTimeout p) s = .next s)

/-- A sound telegram that arrives whole at a waiting receiver: of a known kind with a payload that fits, it is the
request row with those fields; with a payload that does not fit, it is answered BAD ARGUMENT where its kind is accepted;
of an unknown kind, UNKNOWN is answered and counted. With one wrong check byte, CHECK is counted and nothing else
happens. Which payloads fit is the model's reading (log 8).
The telegram of every reply (R178, R179): the reply's kind, its tag, the length, the status byte of section 8.3, the
fields, and the CRC over all of these, high byte first. A status alone has no field; a layout of section 8 stands as it is; a
version takes four bytes and a check word two; the fields of every other reply are open and at most 119 bytes (log 9).
The numbers of the request kinds (section 8.2), and a reply's kind: the request's plus 128, or the received kind with its
high bit set (R178). The payloads: a WRITE DATA is a kind, an index and fields of four bytes, high byte first, two's
complement (R9, R12), and a CLOSE DATA its check word in two bytes (R13, R178); that a request without a field has an empty
payload, that a request of one tag has two bytes and SOUNDINGS three a pair, high byte first, is the model's choice (log 8,
DESIGN CHOICE); the payloads of the other kinds are free but for their kind (log 8). That a WRITE DATA of other than whole
fields does not fit, during a commit as well, is log 38 (DESIGN CHOICE). What the reply to a misfit carries besides BAD
ARGUMENT: entry 0 and the version for ADD ITEMS, the version for another change, and the effective action for a setting (log
8, DESIGN CHOICE; log 21, DEDUCED). -/
def Obligations.SoundTelegramIsItsRequest : Prop :=
  (∀ (p : Port) (s : State) (kind tag : Byte) (payload : List Byte), payload.length ≤ 120 → (s.ports.get p).rx = .waiting →
     let line (bytes : List Byte) : Instr := .telegramReceived p (bytes.map (fun b => ⟨b, true⟩))
     (∀ k r i, kindOfByte kind = some k → requestOf k payload = some r → requestRow i = some (p, tag, r) →
       ∃ t, exec (line (telegram kind tag payload)) s = .next t ∧ exec i s = .next t) ∧
     (∀ k, kindOfByte kind = some k → requestOf k payload = none → Ready s p → s.ship.mode ≠ .verify →
       roleAllows k (portRole p) = true → modeAnswer s.ship.mode k = none →
       exec (line (telegram kind tag payload)) s = answersOnly s p k tag ⟨.badArgument, misfitBody s k⟩) ∧
     (kindOfByte kind = none → Ready s p →
       exec (line (telegram kind tag payload)) s =
         let t := countError p .unknown s
         .next { t with ports := t.ports.modify p (fun q => { q with
           outstanding := some ⟨p, kind, tag, q.nextMark⟩, nextMark := q.nextMark + 1,
           tx := q.tx ++ [⟨⟨replyKind kind, tag, ⟨.unknown, .statusOnly⟩⟩, some q.nextMark⟩] }) }) ∧
     (∀ a b, [a, b] ≠ crcBytes (crc16 (kind :: tag :: byteOf payload.length :: payload)) →
       exec (line (kind :: tag :: byteOf payload.length :: payload ++ [a, b])) s = .next (countError p .check s))) ∧
  ((∀ r : Reply, ∃ fields : List Byte,
     let head := r.kind :: r.tag :: byteOf (fields.length + 1) :: statusByte r.answer.status :: fields
     r.telegram = head ++ [byteOf ((crc16 head).toNat / 256), byteOf (crc16 head).toNat] ∧
     (r.answer.body = .statusOnly → fields = []) ∧ (∀ bytes, r.answer.body = .layout bytes → fields = bytes) ∧
     (∀ v, r.answer.body = .version v → fields = bytes4 (v.toNat : Int)) ∧
     (∀ w, r.answer.body = .committed w → fields = bytes2 (w.toNat : Int)) ∧
     ((∀ bytes, r.answer.body ≠ .layout bytes) → fields.length ≤ 119)) ∧
   crc16 [0x31, 0x32, 0x33, 0x34, 0x35, 0x36, 0x37, 0x38, 0x39] = 0x29B1 ∧
   (∀ e ∈ [(Status.done, (0x00 : Byte)), (.clamped, 0x01), (.warning, 0x02), (.granted, 0x03), (.busy, 0x10), (.notReady, 0x11),
       (.notInService, 0x12), (.role, 0x13), (.unknown, 0x14), (.badArgument, 0x15), (.noSuchItem, 0x20), (.tagInUse, 0x21),
       (.tableFull, 0x22), (.badPlacement, 0x23), (.itemBusy, 0x24), (.overstowed, 0x25), (.notLiftable, 0x26), (.offPlan, 0x27),
       (.held, 0x30), (.silentLift, 0x31), (.outcomePending, 0x32), (.nothingPending, 0x33), (.noSuchLift, 0x34), (.notLead, 0x35),
       (.stillSlung, 0x36), (.partner, 0x37), (.refusedLimit, 0x38), (.joinLapsed, 0x39), (.liftsActive, 0x3A), (.noResult, 0x40),
       (.noReading, 0x41), (.empty, 0x42)], statusByte e.1 = e.2)) ∧
  ((∀ e ∈ [((0x01 : Byte), ReqKind.identify), (0x02, .readLineStatus), (0x03, .attentionQuery), (0x04, .setAttention),
       (0x08, .openData), (0x09, .writeData), (0x0A, .closeData), (0x10, .addItems), (0x11, .amendItem), (0x12, .planMove),
       (0x13, .cancelPlan), (0x14, .removeItem), (0x15, .setCompartment), (0x16, .clearCondition), (0x17, .setDensity),
       (0x18, .readItem), (0x19, .listItems), (0x1A, .readCompartment), (0x20, .evaluateNow), (0x21, .setEvaluation),
       (0x22, .evaluateProspect), (0x23, .readResult), (0x24, .readProspect), (0x28, .setCriterion), (0x29, .setRange),
       (0x2A, .resetSlot), (0x2B, .inject), (0x2C, .withdraw), (0x2D, .readAlarms), (0x2E, .readCriterion), (0x30, .findSpace),
       (0x31, .pushTrial), (0x32, .popTrial), (0x33, .clearTrials), (0x34, .readTrials), (0x38, .soundings), (0x39, .drafts),
       (0x3A, .draftZero), (0x3B, .readDrafts), (0x40, .liftRequest), (0x41, .joinLift), (0x42, .hookOn), (0x43, .hookAt),
       (0x44, .landed), (0x45, .abortLift), (0x46, .collectOutcome), (0x47, .readLift)], kindByte e.2 = e.1) ∧
   (∀ (b : Byte) (k : ReqKind), kindOfByte b = some k ↔ kindByte k = b) ∧
   (∀ b : Byte, (replyKind b).toNat = if b.toNat < 128 then b.toNat + 128 else b.toNat)) ∧
  (let tagForms : List (ReqKind × (Nat → Request)) := [(.readItem, .readItem), (.listItems, .listItems),
     (.cancelPlan, fun n => .change (.cancelPlan n)), (.removeItem, fun n => .change (.removeItem n))]
   let bareForms : List (ReqKind × Request) := [(.identify, .identify), (.readLineStatus, .readLineStatus),
     (.attentionQuery, .attentionQuery), (.openData, .openData), (.clearCondition, .change .clearCondition),
     (.evaluateNow, .evaluateNow), (.readAlarms, .readAlarms), (.popTrial, .popTrial), (.clearTrials, .clearTrials),
     (.readTrials, .readTrials), (.draftZero, .draftZero), (.readDrafts, .readDrafts), (.abortLift, .abortLift),
     (.collectOutcome, .collectOutcome)]
   (∀ (kind index : Byte) (words : List FieldWord),
     requestOf .writeData (kind :: index :: words.flatMap (fun w => bytes4 w.toInt)) =
       some (.writeData kind.toNat index.toNat words)) ∧
   (∀ payload, requestOf .writeData payload = none ↔ ∀ n, payload.length ≠ 2 + 4 * n) ∧
   (∀ w : CheckWord, requestOf .closeData (bytes2 (w.toNat : Int)) = some (.closeData w)) ∧
   (∀ payload, requestOf .closeData payload = none ↔ payload.length ≠ 2) ∧
   (∀ e ∈ bareForms, requestOf e.1 [] = some e.2 ∧ ∀ payload, payload ≠ [] → requestOf e.1 payload = none) ∧
   (∀ e ∈ tagForms, (∀ hi lo : Byte, requestOf e.1 [hi, lo] = some (e.2 (256 * hi.toNat + lo.toNat))) ∧
     ∀ payload, payload.length ≠ 2 → requestOf e.1 payload = none) ∧
   (∀ pairs : List (Byte × Byte × Byte), requestOf .soundings (pairs.flatMap (fun x => [x.1, x.2.1, x.2.2])) =
     some (.change (.soundings (pairs.map (fun x => (x.1.toNat, 256 * x.2.1.toNat + x.2.2.toNat)))))) ∧
   (∀ payload, requestOf .soundings payload = none ↔ ∀ n, payload.length ≠ 3 * n) ∧
   (∀ k payload r, requestOf k payload = some r → r.kind = k)) ∧
  (∀ (s : State) (k : ReqKind),
     let changes : List ReqKind := [.amendItem, .planMove, .cancelPlan, .removeItem, .setCompartment, .clearCondition, .setDensity,
       .soundings, .hookOn, .hookAt, .landed]
     let settings : List ReqKind := [.setCriterion, .setRange, .resetSlot, .inject, .withdraw]
     (k = .addItems → misfitBody s k = .entryRefused 0 s.cond.version) ∧
     (k ∈ changes → misfitBody s k = .version s.cond.version) ∧
     (k ∈ settings → misfitBody s k = .setting s.mon.effective) ∧
     (k ≠ .addItems → k ∉ changes → k ∉ settings → misfitBody s k = .statusOnly))

/-- A counter below 255 rises by one and raises LINE ERROR on its port alone; at 255 nothing changes (R181). READ LINE
STATUS reports the port's counters, role and rate, and sets them to 0. -/
def Obligations.ErrorCountersSaturate : Prop :=
  (∀ (p : Port) (e : LineErr) (s : State),
    ((s.ports.get p).counters.read e < 255 → countError p e s = { s with
      ports := s.ports.modify p (fun q => { q with counters := q.counters.bump e })
      attn := s.attn.modify p (AttnPort.raise .lineError) }) ∧
    (255 ≤ (s.ports.get p).counters.read e → countError p e s = s)) ∧
  (∀ (n : Counters) (e f : LineErr), (n.bump e).read f = if f = e then n.read f + 1 else n.read f) ∧
  (∀ (p : Port) (tag : Byte) (s : State), Ready s p → s.ship.mode ≠ .verify →
    exec (.readLineStatus p tag) s = .next { s with
      ports := (answeredPorts s p .readLineStatus tag
        ⟨.done, .lineStatus (s.ports.get p).counters (portRole p) s.rate⟩).modify p
          (fun q => { q with counters := ⟨0, 0, 0, 0, 0, 0, 0⟩ }) })

/-- The last character of a reply leaves the part: the first reply leaves the transmitter, and the request it answers,
and no other, is outstanding no longer (R183, R184). With an empty transmitter nothing changes (log 5, DESIGN CHOICE).
A break resets its port alone: the receiver is held, the outstanding request and the deferred-reply entry go, the
reply begun stays and the others are discarded, the counters stay; a break that lasts does nothing more, and the return
to mark sets the receiver WAITING (R185). That the first reply held is the one begun is the model's reading (log 10). A return
to mark on
a line that is not in a break changes nothing (log 5, DESIGN CHOICE). -/
def Obligations.ReplySentAndBreakActOnOnePort : Prop :=
  (∀ (p : Port) (s : State),
     let q := s.ports.get p
     (q.tx = [] → exec (.replySent p) s = .next s) ∧
     (∀ e rest, q.tx = e :: rest → exec (.replySent p) s = .next { s with ports := s.ports.set p { q with
       tx := rest
       outstanding := match q.outstanding, e.answers with
         | some c, some m => if c.mark = m then none else q.outstanding
         | _, _ => q.outstanding } })) ∧
  (∀ (p : Port) (s : State),
     let q := s.ports.get p
     (q.rx ≠ .inBreak → exec (.breakLine p) s = .next { s with ports := s.ports.set p { q with
       rx := .inBreak, outstanding := none, deferred := none, tx := q.tx.take 1 } }) ∧
     (q.rx = .inBreak → exec (.breakLine p) s = .next s) ∧
     (q.rx = .inBreak → exec (.breakRelease p) s = .next { s with ports := s.ports.set p { q with rx := .waiting } }) ∧
     (q.rx ≠ .inBreak → exec (.breakRelease p) s = .next s))

/-! ### Identification and attention -/

/-- IDENTIFY is answered from any port in any mode with the fields of R21, and changes nothing else. -/
def Obligations.IdentifyReports : Prop :=
  ∀ (p : Port) (tag : Byte) (s : State), Ready s p →
    exec (.identify p tag) s = answersOnly s p .identify tag ⟨.done, .identity
      { vendor := 79, part := 48, revision := 3, mode := s.ship.mode,
        faultReason := if s.ship.mode = .dataFault then s.ship.faultReason else none,
        restartCause := s.ship.restartCause, present := s.ship.present,
        checkWord := if s.ship.present = true then s.ship.checkWord else 0, version := s.cond.version,
        routineMode := s.eval.routineMode, interval := s.eval.interval }⟩

/-- ATTENTION QUERY, NOT READY in VERIFY, returns the highest-priority unmasked pending cause; a cause whose condition persists
stays pending, any other is removed, and in LEVEL mode the line then follows (R191, R190). -/
def Obligations.AttentionQueryReturns : Prop :=
  ∀ (p : Port) (tag : Byte) (s : State), Ready s p →
    (s.ship.mode = .verify → exec (.attentionQuery p tag) s = answersOnly s p .attentionQuery tag ⟨.notReady, .statusOnly⟩) ∧
    (s.ship.mode ≠ .verify →
      let a := s.attn.get p
      let c := [Cause.actionRaised, .outcomeReady, .silentLift, .actionCleared, .serviceChange, .newResult, .lineError].find?
        (fun x => a.pending.contains x && a.unmasked.contains x)
      let stays : Bool := match c with
        | none => true
        | some .outcomeReady => (craneOf p).any (fun d => (s.record d).state == .done)
        | some .silentLift => (s.record .crane1).silent || (s.record .crane2).silent
        | some _ => false
      let left := a.pending.filter (fun x => some x != c)
      exec (.attentionQuery p tag) s =
        if stays = true then answersOnly s p .attentionQuery tag ⟨.done, .attention c a.pending⟩
        else .next { s with
          attn := s.attn.set p { a with pending := left, active := if a.mode = .level then levelOf left a.unmasked else a.active }
          ports := answeredPorts s p .attentionQuery tag ⟨.done, .attention c left⟩ })

/-- SET ATTENTION replaces the port's own mask and line mode and sets its line as R190 gives; a mode that is neither or
a mask beyond the seven causes is refused and changes nothing (R189). That the mask is the list of the numbers 1..7 of the
UNMASKED causes is the model's form of it (log 34, DESIGN CHOICE).
How a port's line follows a cause raised or removed, and the end of a pulse (R188, R190): a cause already pending
changes nothing; in LEVEL mode the line is the LEVEL value of the new pending set; in PULSE mode a new unmasked cause
gives or extends a pulse, a masked one does not, and the end of the pulse makes the line inactive. Neither changes the mask
or the mode. The end of a pulse in LEVEL mode changes nothing (log 5, DESIGN CHOICE). -/
def Obligations.AttentionMasksModesAndPulses : Prop :=
  (∀ (p : Port) (tag : Byte) (unmasked : List Nat) (mode : Option LineMode) (s : State), Ready s p → s.ship.mode ≠ .verify →
     let a := s.attn.get p
     let u := allCauses.filter (fun c => unmasked.any (fun n => causeOfNumber n == some c))
     (mode = none ∨ (∃ n ∈ unmasked, n < 1 ∨ 7 < n) →
       exec (.setAttention p tag unmasked mode) s = answersOnly s p .setAttention tag ⟨.badArgument, .statusOnly⟩) ∧
     (∀ m, mode = some m → (∀ n ∈ unmasked, 1 ≤ n ∧ n ≤ 7) →
       exec (.setAttention p tag unmasked mode) s = .next { s with
         attn := s.attn.set p { a with
           unmasked := u
           mode := m
           active := match m, a.mode with
             | .level, _ => a.pending.any (fun c => u.contains c)
             | .pulse, .level => false
             | .pulse, .pulse => a.active }
         ports := answeredPorts s p .setAttention tag ⟨.done, .attentionSet u m a.pending⟩ })) ∧
  (∀ (a : AttnPort) (c : Cause) (p : Port) (s : State),
     (c ∈ a.pending → AttnPort.raise c a = a) ∧
     (c ∉ a.pending → (AttnPort.raise c a).pending = allCauses.filter (fun x => x == c || a.pending.contains x)) ∧
     (c ∉ a.pending → a.mode = .level → (AttnPort.raise c a).active =
       (AttnPort.raise c a).pending.any (fun x => a.unmasked.contains x)) ∧
     (c ∉ a.pending → a.mode = .pulse → (AttnPort.raise c a).active = (a.active || a.unmasked.contains c)) ∧
     ((AttnPort.raise c a).unmasked = a.unmasked ∧ (AttnPort.raise c a).mode = a.mode) ∧
     ((AttnPort.remove c a).unmasked = a.unmasked ∧ (AttnPort.remove c a).mode = a.mode) ∧
     ((AttnPort.remove c a).pending = a.pending.filter (fun x => x != c)) ∧
     (a.mode = .level → (AttnPort.remove c a).active = (AttnPort.remove c a).pending.any (fun x => a.unmasked.contains x)) ∧
     (a.mode = .pulse → (AttnPort.remove c a).active = a.active) ∧
     ((s.attn.get p).mode = .pulse → exec (.attentionPulseEnd p) s =
       .next { s with attn := s.attn.set p { s.attn.get p with active := false } }) ∧
     ((s.attn.get p).mode = .level → exec (.attentionPulseEnd p) s = .next s))

/-! ### Ship data: a load, its ends, verification and restarts -/

/-- OPEN DATA (R10, R11). NOT READY in a commit; LIFTS ACTIVE while a record is in an active state, but for SLUNG in DATA
FAULT; otherwise the load begins: the image is erased, the condition, tanks, trials, results, slots and sticky sets are
emptied, the waiting work is abandoned, the held changes are answered NOT IN SERVICE, a SLUNG record is DONE with outcome
ABORTED and its origin, the lines fall, and the causes are raised and removed in that order (R17, R113, R188). The open flags of
the compartments stay (log 22). -/
def Obligations.OpenDataBeginsALoad : Prop :=
  ∀ (tag : Byte) (s : State), Ready s .portP → s.ship.mode ≠ .verify →
    let blocked := ∃ c, liftActive (s.record c) = true ∧ ¬ (s.ship.mode = .dataFault ∧ (s.record c).state = .slung)
    (s.ship.committing.isSome = true → exec (.openData .portP tag) s = answersOnly s .portP .openData tag ⟨.notReady, .statusOnly⟩) ∧
    (s.ship.committing = none → blocked →
      exec (.openData .portP tag) s = answersOnly s .portP .openData tag ⟨.liftsActive, .statusOnly⟩) ∧
    (s.ship.committing = none → ¬ blocked → (∀ c, (s.record c).state = .slung → (s.record c).lift.isSome = true) →
      ∃ t, exec (.openData .portP tag) s = .next t ∧
        t.ship = { s.ship with image := .blank, present := false, buffer := .blank, mode := .dataLoading, faultReason := none,
                               slotsUnloaded := true } ∧
        (t.cond.items = [] ∧ t.cond.density = 1025 ∧ t.cond.version = 0 ∧ t.cond.hold = []) ∧
        (s.cond.comps.Rising → ∀ n, t.comp n = ⟨(s.comp n).flag, 0, []⟩) ∧
        t.eval = ⟨none, none, s.eval.raiseClock, none, false, none, none, none, none, 0, none, 0, s.eval.routineMode,
                  s.eval.interval, none⟩ ∧
        t.mon = ⟨List.replicate 16 ⟨⟨.none, 0, 0, 1, .note⟩, false, 0, none⟩, 0, 0, ⟨[], [], [], []⟩, false, none, 0⟩ ∧
        t.lines = ⟨false, false, false⟩ ∧ t.tanks = ⟨[], none, 0, 0⟩ ∧ t.trials = ⟨[], false⟩ ∧ t.rate = s.rate ∧
        t.pending = s.pending ∧ t.lifts.waiting = s.lifts.waiting ∧
        (∀ c l, (s.record c).state = .slung → (s.record c).lift = some l →
          t.record c = { s.record c with state := .done, timer := none, silent := false, outcome := some .aborted } ∧
          t.lifts.ended.get c = some ⟨s.massOf l.tag, l.origin⟩) ∧
        (∀ c, (s.record c).state ≠ .slung → t.record c = s.record c ∧ t.lifts.ended.get c = s.lifts.ended.get c) ∧
        (∀ r x, x ∈ (t.attn.get r).pending ↔
          (x = .serviceChange ∧ s.ship.mode ≠ .dataLoading) ∨ (x = .actionCleared ∧ s.mon.effective ≠ none) ∨
          (x = .outcomeReady ∧ ∃ c, r = cranePort c ∧ (s.record c).state = .slung) ∨
          (x ∈ (s.attn.get r).pending ∧ (x = .silentLift → s.anySilent = true → t.anySilent = true))) ∧
        (∀ r, (t.attn.get r).unmasked = (s.attn.get r).unmasked ∧ (t.attn.get r).mode = (s.attn.get r).mode) ∧
        t.attn = (
          let slung (c : Crane) : Bool := (s.record c).state == .slung
          let gone (b : Bool) (a : PerPort AttnPort) := if b = true then a.map (AttnPort.remove .silentLift) else a
          let silent1 := (s.record .crane1).silent
          let silent2 := (s.record .crane2).silent
          let one := if slung .crane1 = true then
            gone (silent1 && !silent2) (s.attn.modify .portC1 (AttnPort.raise .outcomeReady)) else s.attn
          let two := if slung .crane2 = true then
            gone (silent2 && !(silent1 && !slung .crane1)) (one.modify .portC2 (AttnPort.raise .outcomeReady)) else one
          let cleared := if s.mon.effective = none then two else two.map (AttnPort.raise .actionCleared)
          if s.ship.mode = .dataLoading then cleared else cleared.map (AttnPort.raise .serviceChange)) ∧
        t.ports =
          let told (r : Port) : PortState := match (s.ports.get r).deferred with
            | none => s.ports.get r
            | some c => if c.port = r ∧ (∃ h ∈ s.cond.hold, h.caller = c) then
                { s.ports.get r with
                  deferred := none
                  tx := (s.ports.get r).tx ++ [⟨⟨replyKind c.kind, c.tag, ⟨.notInService, .statusOnly⟩⟩, some c.mark⟩] }
              else s.ports.get r
          answeredPorts { s with ports := ⟨told .portP, told .portB, told .portC1, told .portC2⟩ } .portP .openData tag
            ⟨.done, .statusOnly⟩)

/-- WRITE DATA (R12). NOT READY outside DATA LOADING and in a commit, which in a commit goes before a field count that does not
fit the record kind (log 38, DESIGN CHOICE, between R12 and R182); BAD ARGUMENT, with the buffer as it was, for the four
cases of the rule; otherwise the record is in the buffer at its kind and index, in place of one already there. -/
def Obligations.WriteDataPlacesARecord : Prop :=
  (∀ (tag : Byte) (kind index : Nat) (fields : List FieldWord) (s : State), Ready s .portP →
    let first : Int := (fields.map BitVec.toInt).headD 0
    let refused := kind = 0 ∨ 7 < kind ∨ [0, 0, 15, 63, 15, 95, 15, 0].getD kind 0 < index ∨
      (kind ≠ 5 ∧ fields.length ≠ [0, 3, 5, 12, 6, 0, 5, 4].getD kind 0) ∨
      (kind = 5 ∧ ¬ (fields.length = 8 ∧ 1 ≤ first ∧ first ≤ 3) ∧ ¬ (fields.length = 11 ∧ first = 4))
    let placed (b : Image) : Host.Outcome State Fault Refusal := .next { s with
      ship := { s.ship with buffer := b }, ports := answeredPorts s .portP .writeData tag ⟨.done, .statusOnly⟩ }
    let buf := s.ship.buffer
    let i (k : Nat) : Int := (fields.map BitVec.toInt).getD k 0
    let run := exec (.writeData .portP tag kind index fields) s
    (s.ship.mode ≠ .dataLoading ∨ s.ship.committing.isSome = true → run = answersOnly s .portP .writeData tag ⟨.notReady, .statusOnly⟩) ∧
    (s.ship.mode = .dataLoading → s.ship.committing = none → refused →
      run = answersOnly s .portP .writeData tag ⟨.badArgument, .statusOnly⟩) ∧
    (s.ship.mode = .dataLoading → s.ship.committing = none → ¬ refused →
      (kind = 1 → run = placed { buf with particulars := some ⟨i 0, i 1, i 2⟩ }) ∧
      (kind = 2 → run = placed { buf with blocks := buf.blocks.put index ⟨i 0, i 1, i 2, i 3, i 4⟩ }) ∧
      (kind = 3 → run = placed { buf with rows := (buf.rows.put index
        ⟨i 0, i 1, i 2, i 3, i 4, i 5, i 6, i 7, i 8, i 9, i 10, i 11⟩) }) ∧
      (kind = 4 → run = placed { buf with stations := buf.stations.put index ⟨i 0, i 1, i 2, i 3, i 4, i 5⟩ }) ∧
      (kind = 5 → run = placed { buf with comps := (buf.comps.put index
        ⟨i 1, i 2, i 3, i 4, i 5, i 6,
         if i 0 = 4 then .tank (i 7) (i 8) (i 9) (i 10)
         else .stow (if i 0 = 1 then .hold else if i 0 = 2 then .tween else .deck) (i 7)⟩) }) ∧
      (kind = 6 → run = placed { buf with criteria := buf.criteria.put index ⟨i 0, i 1, i 2, i 3, i 4⟩ }) ∧
      (kind = 7 → run = placed { buf with timers := some ⟨i 0, i 1, i 2, i 3⟩ }))) ∧
  (∀ (t : Table CompRecord) (k : Nat) (v : CompRecord), t.Rising →
    (t.put k v).Rising ∧ (t.put k v).find k = some v ∧ ∀ j, j ≠ k → (t.put k v).find j = t.find j)

/-- The tests of CLOSE DATA that need no expected check word accept an image exactly when every field lies in the ranges of
R2 to R8, every kind numbered without gaps is complete, the order and total-mass conditions hold, and a compartment is there
(R13, tests 1 to 7).
Which failure tests 1 to 7 report (R13): the first failing test of the table in its order, with its reason, its kind number
and its index: 0 for PARTICULARS, for a total lightship mass of 0, for no compartment and for TIMERS; for a kind numbered
without gaps first the lowest index at which a required record is missing; otherwise the index of the first record that lies
outside its ranges or does not exceed the record before it. That within HYDRO ROW and STATION a record's ranges and its order
are tested together, record by record, is the model's reading (log 18, DEDUCED). -/
def Obligations.ImageTestsAcceptExactly : Prop :=
  (∀ img : Image, img.blocks.Rising → img.rows.Rising → img.stations.Rising → img.comps.Rising → img.criteria.Rising →
     let lbp : Int := img.lbp
     (img.fault = none ↔
       (∃ p, img.particulars = some p ∧ 2000 ≤ p.lbp ∧ p.lbp ≤ 19000 ∧ 0 ≤ p.rangeStart ∧ p.rangeStart ≤ 15 ∧
         0 ≤ p.rangeStop ∧ p.rangeStop ≤ 15) ∧
       (img.blocks.keys = List.range img.blocks.length ∧ 1 ≤ img.blocks.length ∧
         (∀ e ∈ img.blocks, 0 ≤ e.2.mass ∧ e.2.mass ≤ 1000000 ∧ -500 ≤ e.2.xAft ∧ e.2.xAft ≤ e.2.xFore ∧ e.2.xFore ≤ 19500 ∧
           -2500 ≤ e.2.y ∧ e.2.y ≤ 2500 ∧ 0 ≤ e.2.z ∧ e.2.z ≤ 5000) ∧
         (img.blocks.map (fun e => e.2.mass)).sum ≠ 0) ∧
       (img.rows.keys = List.range img.rows.length ∧ 2 ≤ img.rows.length ∧
         (∀ e ∈ img.rows, 0 ≤ e.2.t ∧ e.2.t ≤ 5000 ∧ 1 ≤ e.2.d ∧ e.2.d ≤ 4000000 ∧ -500 ≤ e.2.lcb ∧ e.2.lcb ≤ 19500 ∧
           0 ≤ e.2.lcf ∧ e.2.lcf ≤ lbp ∧ 0 ≤ e.2.km ∧ e.2.km ≤ 10000 ∧ 1 ≤ e.2.mtc ∧ e.2.mtc ≤ 100000000 ∧
           ∀ v ∈ [e.2.kn10, e.2.kn20, e.2.kn30, e.2.kn40, e.2.kn50, e.2.kn60], -2500 ≤ v ∧ v ≤ 10000) ∧
         (img.rows.map (fun e => e.2.t)).Pairwise (· < ·) ∧ (img.rows.map (fun e => e.2.d)).Pairwise (· < ·)) ∧
       (img.stations.keys = List.range img.stations.length ∧ 2 ≤ img.stations.length ∧
         (∀ e ∈ img.stations, 0 ≤ e.2.x ∧ e.2.x ≤ lbp ∧ 0 ≤ e.2.f ∧ e.2.f ≤ 10000 ∧ -10000 ≤ e.2.k ∧ e.2.k ≤ 10000 ∧
           0 ≤ e.2.l ∧ e.2.l ≤ 19500 ∧ 1 ≤ e.2.sp ∧ e.2.sp ≤ 4000000 ∧ 1 ≤ e.2.bp ∧ e.2.bp ≤ 400000000) ∧
         (img.stations.map (fun e => e.2.x)).Pairwise (· < ·)) ∧
       (img.comps ≠ [] ∧
         (∀ e ∈ img.comps, -500 ≤ e.2.xAft ∧ e.2.xAft < e.2.xFore ∧ e.2.xFore ≤ 19500 ∧ -2500 ≤ e.2.yMin ∧
           e.2.yMin < e.2.yMax ∧ e.2.yMax ≤ 2500 ∧ 0 ≤ e.2.zFloor ∧ e.2.zFloor < e.2.zTop ∧ e.2.zTop ≤ 5000 ∧
           (∀ k m, e.2.use = .stow k m → 1 ≤ m ∧ m ≤ 1000000) ∧
           (∀ m cx cy fsm, e.2.use = .tank m cx cy fsm → 1 ≤ m ∧ m ≤ 1000000 ∧ e.2.xAft ≤ cx ∧ cx ≤ e.2.xFore ∧
             e.2.yMin ≤ cy ∧ cy ≤ e.2.yMax ∧ 0 ≤ fsm ∧ fsm ≤ 100000000))) ∧
       (∀ e ∈ img.criteria, 0 ≤ e.2.code ∧ e.2.code ≤ 14 ∧ (e.2.code ≠ 0 → -1000000 ≤ e.2.limit ∧ e.2.limit ≤ 1000000 ∧
         0 ≤ e.2.hyst ∧ e.2.hyst ≤ 100000 ∧ 1 ≤ e.2.n ∧ e.2.n ≤ 8 ∧ 0 ≤ e.2.action ∧ e.2.action ≤ 3)) ∧
       (∀ t, img.timers = some t → 2 ≤ t.joinWindow ∧ t.joinWindow ≤ 30 ∧ 10 ≤ t.grantLapse ∧ t.grantLapse ≤ 600 ∧
         2 ≤ t.report ∧ t.report ≤ 60 ∧ 5 ≤ t.freshness ∧ t.freshness ≤ 120))) ∧
  (∀ img : Image, img.blocks.Rising → img.rows.Rising → img.stations.Rising → img.comps.Rising → img.criteria.Rising →
     let lbp : Int := img.lbp
     let goodParticulars (p : Particulars) : Prop :=
       2000 ≤ p.lbp ∧ p.lbp ≤ 19000 ∧ 0 ≤ p.rangeStart ∧ p.rangeStart ≤ 15 ∧ 0 ≤ p.rangeStop ∧ p.rangeStop ≤ 15
     let goodBlock (r : LightshipBlock) : Prop := 0 ≤ r.mass ∧ r.mass ≤ 1000000 ∧ -500 ≤ r.xAft ∧ r.xAft ≤ r.xFore ∧
       r.xFore ≤ 19500 ∧ -2500 ≤ r.y ∧ r.y ≤ 2500 ∧ 0 ≤ r.z ∧ r.z ≤ 5000
     let goodRow (r : HydroRow) : Prop := 0 ≤ r.t ∧ r.t ≤ 5000 ∧ 1 ≤ r.d ∧ r.d ≤ 4000000 ∧ -500 ≤ r.lcb ∧ r.lcb ≤ 19500 ∧
       0 ≤ r.lcf ∧ r.lcf ≤ lbp ∧ 0 ≤ r.km ∧ r.km ≤ 10000 ∧ 1 ≤ r.mtc ∧ r.mtc ≤ 100000000 ∧
       ∀ v ∈ [r.kn10, r.kn20, r.kn30, r.kn40, r.kn50, r.kn60], -2500 ≤ v ∧ v ≤ 10000
     let goodStation (r : Station) : Prop := 0 ≤ r.x ∧ r.x ≤ lbp ∧ 0 ≤ r.f ∧ r.f ≤ 10000 ∧ -10000 ≤ r.k ∧ r.k ≤ 10000 ∧
       0 ≤ r.l ∧ r.l ≤ 19500 ∧ 1 ≤ r.sp ∧ r.sp ≤ 4000000 ∧ 1 ≤ r.bp ∧ r.bp ≤ 400000000
     let goodComp (r : CompRecord) : Prop := -500 ≤ r.xAft ∧ r.xAft < r.xFore ∧ r.xFore ≤ 19500 ∧ -2500 ≤ r.yMin ∧
       r.yMin < r.yMax ∧ r.yMax ≤ 2500 ∧ 0 ≤ r.zFloor ∧ r.zFloor < r.zTop ∧ r.zTop ≤ 5000 ∧
       (∀ k m, r.use = .stow k m → 1 ≤ m ∧ m ≤ 1000000) ∧
       (∀ m cx cy fsm, r.use = .tank m cx cy fsm → 1 ≤ m ∧ m ≤ 1000000 ∧ r.xAft ≤ cx ∧ cx ≤ r.xFore ∧ r.yMin ≤ cy ∧
         cy ≤ r.yMax ∧ 0 ≤ fsm ∧ fsm ≤ 100000000)
     let goodCriterion (r : CriterionRecord) : Prop := 0 ≤ r.code ∧ r.code ≤ 14 ∧ (r.code ≠ 0 → -1000000 ≤ r.limit ∧
       r.limit ≤ 1000000 ∧ 0 ≤ r.hyst ∧ r.hyst ≤ 100000 ∧ 1 ≤ r.n ∧ r.n ≤ 8 ∧ 0 ≤ r.action ∧ r.action ≤ 3)
     let goodTimers (t : Timers) : Prop := 2 ≤ t.joinWindow ∧ t.joinWindow ≤ 30 ∧ 10 ≤ t.grantLapse ∧ t.grantLapse ≤ 600 ∧
       2 ≤ t.report ∧ t.report ≤ 60 ∧ 5 ≤ t.freshness ∧ t.freshness ≤ 120
     let missing (keys : List Nat) (least i : Nat) : Prop := i ∉ keys ∧ (∀ j, j < i → j ∈ keys) ∧ (i < least ∨ ∃ k ∈ keys, i < k)
     let firstBad (bad : Nat → Prop) (i : Nat) : Prop := bad i ∧ ∀ j, j < i → ¬ bad j
     let numbered (keys : List Nat) (least : Nat) (bad : Nat → Prop) (i : Nat) : Prop :=
       missing keys least i ∨ ((∀ j, ¬ missing keys least j) ∧ firstBad bad i)
     let badBlock (i : Nat) : Prop := ∃ r, img.blocks.find i = some r ∧ ¬ goodBlock r
     let badRow (i : Nat) : Prop := ∃ r, img.rows.find i = some r ∧
       (¬ goodRow r ∨ ∃ q, 0 < i ∧ img.rows.find (i - 1) = some q ∧ (r.t ≤ q.t ∨ r.d ≤ q.d))
     let badStation (i : Nat) : Prop := ∃ r, img.stations.find i = some r ∧
       (¬ goodStation r ∨ ∃ q, 0 < i ∧ img.stations.find (i - 1) = some q ∧ r.x ≤ q.x)
     let tests : List (FaultReason × Nat × (Nat → Prop)) :=
       [(.particulars, 1, fun i => i = 0 ∧ ∀ p, img.particulars = some p → ¬ goodParticulars p),
        (.lightship, 2, fun i => numbered img.blocks.keys 1 badBlock i ∨
          ((∀ j, ¬ numbered img.blocks.keys 1 badBlock j) ∧ i = 0 ∧ (img.blocks.map (fun e => e.2.mass)).sum = 0)),
        (.hydrostatics, 3, numbered img.rows.keys 2 badRow),
        (.stations, 4, numbered img.stations.keys 2 badStation),
        (.compartments, 5, fun i => (img.comps = [] ∧ i = 0) ∨
          firstBad (fun j => ∃ r, img.comps.find j = some r ∧ ¬ goodComp r) i),
        (.criteria, 6, firstBad (fun j => ∃ r, img.criteria.find j = some r ∧ ¬ goodCriterion r)),
        (.timers, 7, fun i => i = 0 ∧ ∃ t, img.timers = some t ∧ ¬ goodTimers t)]
     ∀ reason kind index, img.fault = some (reason, kind, index) ↔
       ∃ (n : Nat) (fails : Nat → Prop), tests[n]? = some (reason, kind, fails) ∧ fails index ∧
         ∀ (m : Nat) (e : FaultReason × Nat × (Nat → Prop)), m < n → tests[m]? = some e → ∀ j, ¬ e.2.2 j)

/-- CLOSE DATA (R13, R14). NOT READY outside DATA LOADING and in a commit; the first failing test is answered with its
reason, kind and index, the buffer is emptied and the mode is DATA FAULT; with no failing test the commit begins and the
reply is deferred.
The check word that CLOSE DATA compares and the commit and the verification use (R9): the CRC over the records present, by
kind number and then by index, each as its kind and its index in one byte and its fields in four bytes each. -/
def Obligations.CloseDataEndsALoad : Prop :=
  (∀ (tag : Byte) (w : CheckWord) (s : State), Ready s .portP →
     let run := exec (.closeData .portP tag w) s
     let loading := s.ship.mode = .dataLoading ∧ s.ship.committing = none
     (¬ loading → run = answersOnly s .portP .closeData tag ⟨.notReady, .statusOnly⟩) ∧
     (∀ reason kind index, loading →
       s.ship.buffer.fault = some (reason, kind, index) ∨
         (s.ship.buffer.fault = none ∧ s.ship.buffer.check ≠ w ∧ (reason, kind, index) = (.checkMismatch, 0, 0)) →
       run = .next { s with
         ship := { s.ship with buffer := .blank, mode := .dataFault, faultReason := some reason }
         lines := ⟨false, false, s.mon.effective == some .alarm⟩
         attn := s.attn.map (AttnPort.raise .serviceChange)
         ports := answeredPorts s .portP .closeData tag ⟨.badArgument, .dataFault reason kind index⟩ }) ∧
     (loading → s.ship.buffer.fault = none → s.ship.buffer.check = w →
       run = .next { s with
         ship := { s.ship with committing := some (nextCaller s .portP 0x0A tag) }
         ports := deferredPorts s .portP .closeData tag })) ∧
  (∀ img : Image,
     let record (kind index : Nat) (fields : List Int) : List Byte :=
       byteOf kind :: byteOf index :: fields.flatMap (fun v => [byteOf (v / 16777216), byteOf (v / 65536), byteOf (v / 256), byteOf v])
     img.check = crc16 (
       (match img.particulars with | none => [] | some r => record 1 0 [r.lbp, r.rangeStart, r.rangeStop]) ++
       img.blocks.flatMap (fun e => record 2 e.1 [e.2.mass, e.2.xAft, e.2.xFore, e.2.y, e.2.z]) ++
       img.rows.flatMap (fun e => record 3 e.1 [e.2.t, e.2.d, e.2.lcb, e.2.lcf, e.2.km, e.2.mtc, e.2.kn10, e.2.kn20, e.2.kn30,
         e.2.kn40, e.2.kn50, e.2.kn60]) ++
       img.stations.flatMap (fun e => record 4 e.1 [e.2.x, e.2.f, e.2.k, e.2.l, e.2.sp, e.2.bp]) ++
       img.comps.flatMap (fun e => record 5 e.1 (match e.2.use with
         | .stow k m => [match k with | .hold => 1 | .tween => 2 | .deck => 3, e.2.xAft, e.2.xFore, e.2.yMin, e.2.yMax,
                         e.2.zFloor, e.2.zTop, m]
         | .tank m cx cy fsm => [4, e.2.xAft, e.2.xFore, e.2.yMin, e.2.yMax, e.2.zFloor, e.2.zTop, m, cx, cy, fsm])) ++
       img.criteria.flatMap (fun e => record 6 e.1 [e.2.code, e.2.limit, e.2.hyst, e.2.n, e.2.action]) ++
       (match img.timers with | none => [] | some r => record 7 0 [r.joinWindow, r.grantLapse, r.report, r.freshness])))

/-- The end of a commit (R14, R17): the buffer is the image, PRESENT, with its check word; the slots and the range are
loaded, every compartment is OPEN, the mode is IN SERVICE, the monitor is not primed, a routine request is raised, the lines
are released, and the reply is sent if P still waits for it. Without a commit in progress nothing changes (log 5).
The slots an image gives: the CRITERION DEFAULT record of the index, one with code NONE as any other, or where there is no
record NONE with limit 0, hysteresis 0, N 1 and action NOTE; each CLEAR with counter 0 and no injected value (R7, R103). A field
that R7 leaves unchecked in a record with code NONE and that lies outside its range gives the slot some value of the range, the
model's choice (log 35, DESIGN CHOICE).
The range loaded is the default range start and stop of PARTICULARS (R2).
The arbiter then acts on a job request that it raised, at the end of the same step (R80; log 12, DEDUCED). -/
def Obligations.CommitEndStoresTheImage : Prop :=
  (∀ s : State,
     (s.ship.committing = none → exec .commitEnd s = .next s) ∧
     (∀ q, s.ship.committing = some q → s.cond.comps.Rising → ∃ t, exec .commitEnd s = .next (arbitrate s.eval t) ∧
       t.ship = { s.ship with image := s.ship.buffer, present := true, checkWord := s.ship.buffer.check, buffer := .blank,
                              mode := .inService, faultReason := none, slotsUnloaded := false, committing := none } ∧
       t.cond = { s.cond with comps := t.cond.comps } ∧ (∀ n, t.comp n = { s.comp n with flag := .opened }) ∧
       t.eval = { s.eval with slotRoutine := true, intervalTimer :=
         if s.eval.routineMode = .continuous then some s.eval.interval else s.eval.intervalTimer } ∧
       t.mon = { s.mon with slots := s.ship.buffer.slots, rangeStart := s.ship.buffer.range.1,
                            rangeStop := s.ship.buffer.range.2, primed := false, effective := none } ∧
       (∀ r, s.ship.buffer.particulars = some r →
         t.mon.rangeStart = r.rangeStart.toNat ∧ t.mon.rangeStop = r.rangeStop.toNat) ∧
       t.lines = ⟨false, false, false⟩ ∧ t.lifts = s.lifts ∧ t.tanks = s.tanks ∧ t.trials = s.trials ∧ t.rate = s.rate ∧
       t.pending = s.pending ∧
       t.attn = (let cleared := if s.mon.effective = none then s.attn else s.attn.map (AttnPort.raise .actionCleared)
         if s.ship.mode = .inService then cleared else cleared.map (AttnPort.raise .serviceChange)) ∧
       (∀ r x, x ∈ (t.attn.get r).pending ↔ (x = .serviceChange ∧ s.ship.mode ≠ .inService) ∨
         (x = .actionCleared ∧ s.mon.effective ≠ none) ∨ x ∈ (s.attn.get r).pending) ∧
       t.ports = if (s.ports.get q.port).deferred = some q then s.ports.modify q.port (fun x => { x with
           deferred := none
           tx := x.tx ++ [⟨⟨replyKind q.kind, q.tag, ⟨.done, .committed s.ship.buffer.check⟩⟩, some q.mark⟩] })
         else s.ports)) ∧
  (∀ (img : Image) (i : Nat), i < 16 → img.slots.length = 16 ∧
     (img.criteria.find i = none → img.slots[i]? = some ⟨⟨.none, 0, 0, 1, .note⟩, false, 0, none⟩) ∧
     (∀ r, img.criteria.find i = some r → 1 ≤ r.code → r.code ≤ 14 →
       img.slots[i]? = some ⟨⟨
         [Code.none, .gmMin, .area30Min, .area40Min, .gz30Min, .gzAngleMin, .heelMax, .liftHeelMax, .trimMax, .draftMax,
          .shearMax, .bendMax, .loadMax, .draftAgreeMax, .area3040Min].getD r.code.toNat .none,
         r.limit, r.hyst, r.n.toNat,
         if r.action = 1 then .hold else if r.action = 2 then .stopCranes else if r.action = 3 then .alarm else .note⟩,
         false, 0, none⟩) ∧
     (∀ r, img.criteria.find i = some r → r.code = 0 → ∃ st : Settings, img.slots[i]? = some ⟨st, false, 0, none⟩ ∧ st.code = .none ∧
       (-1000000 ≤ st.limit ∧ st.limit ≤ 1000000 ∧ 0 ≤ st.hyst ∧ st.hyst ≤ 100000 ∧ 1 ≤ st.n ∧ st.n ≤ 8) ∧
       (-1000000 ≤ r.limit → r.limit ≤ 1000000 → st.limit = r.limit) ∧ (0 ≤ r.hyst → r.hyst ≤ 100000 → st.hyst = r.hyst) ∧
       (1 ≤ r.n → r.n ≤ 8 → (st.n : Int) = r.n) ∧
       (0 ≤ r.action → r.action ≤ 3 → some st.action = [Action.note, .hold, .stopCranes, .alarm][r.action.toNat]?)))

/-- The end of verification (R16, R17): NO DATA or CHECK MISMATCH ends in DATA FAULT with everything else kept; otherwise
the mode is IN SERVICE, not primed, with a routine request, and the slots are loaded when the SLOTS UNLOADED mark is set, with
ACTION
CLEARED where an action was effective; SERVICE CHANGE is raised on all ports. In another mode nothing changes (log 5).
The range loaded is the default range start and stop of PARTICULARS (R2).
The arbiter then acts on a job request that it raised, at the end of the same step (R80; log 12, DEDUCED). -/
def Obligations.VerifyEndChoosesTheMode : Prop :=
  ∀ s : State,
    let served : EvalUnit := { s.eval with slotRoutine := true, intervalTimer :=
      if s.eval.routineMode = .continuous then some s.eval.interval else s.eval.intervalTimer }
    (s.ship.mode ≠ .verify → exec .verifyEnd s = .next s) ∧
    (∀ reason, s.ship.mode = .verify →
      (s.ship.present = false ∧ reason = .noData) ∨
        (s.ship.present = true ∧ s.ship.image.check ≠ s.ship.checkWord ∧ reason = .checkMismatch) →
      exec .verifyEnd s = .next { s with
        ship := { s.ship with mode := .dataFault, faultReason := some reason }
        lines := ⟨false, false, s.mon.effective == some .alarm⟩
        attn := s.attn.map (AttnPort.raise .serviceChange) }) ∧
    (s.ship.mode = .verify → s.ship.present = true → s.ship.image.check = s.ship.checkWord → s.ship.slotsUnloaded = false →
      exec .verifyEnd s = .next (arbitrate s.eval { s with
        ship := { s.ship with mode := .inService, faultReason := none }
        eval := served
        mon := { s.mon with primed := false }
        lines := ⟨false, false, s.mon.effective == some .alarm⟩
        attn := s.attn.map (AttnPort.raise .serviceChange) })) ∧
    (s.ship.mode = .verify → s.ship.present = true → s.ship.image.check = s.ship.checkWord → s.ship.slotsUnloaded = true →
      s.cond.comps.Rising → ∃ t, exec .verifyEnd s = .next (arbitrate s.eval t) ∧
        t.ship = { s.ship with mode := .inService, faultReason := none, slotsUnloaded := false } ∧ t.eval = served ∧
        t.mon = { s.mon with slots := s.ship.image.slots, rangeStart := s.ship.image.range.1,
                             rangeStop := s.ship.image.range.2, primed := false, effective := none } ∧
        (∀ r, s.ship.image.particulars = some r →
          t.mon.rangeStart = r.rangeStart.toNat ∧ t.mon.rangeStop = r.rangeStop.toNat) ∧
        t.lines = ⟨false, false, false⟩ ∧ t.cond = { s.cond with comps := t.cond.comps } ∧
        (∀ n, t.comp n = { s.comp n with flag := .opened }) ∧ t.lifts = s.lifts ∧ t.tanks = s.tanks ∧ t.trials = s.trials ∧
        t.ports = s.ports ∧ t.rate = s.rate ∧ t.pending = s.pending ∧
        t.attn = (if s.mon.effective = none then s.attn else s.attn.map (AttnPort.raise .actionCleared)).map
          (AttnPort.raise .serviceChange))

/-- The COLD restart (R18, R19, R20, R122, R149, R187, R192): retained memory lost or its mark damaged. The image, its
marker and its check word are kept; everything else takes the values of R19 and R20, and the straps give the rate. -/
def Obligations.ColdRestartClears : Prop :=
  ∀ (retained : Bool) (straps : Straps) (s : State), ¬ (retained = true ∧ s.ship.retentionMark = true) →
    exec (.supplyRise retained straps) s = .next
      { ship := { s.ship with buffer := ⟨none, [], [], [], [], [], none⟩, mode := .verify, faultReason := none,
                              restartCause := .cold, slotsUnloaded := true, retentionMark := true, committing := none }
        cond := ⟨[], [], 1025, 0, []⟩
        eval := ⟨none, none, s.eval.raiseClock, none, false, none, none, none, none, 0, none, 0, .continuous, 5, none⟩
        mon := ⟨List.replicate 16 ⟨⟨.none, 0, 0, 1, .note⟩, false, 0, none⟩, 0, 0, ⟨[], [], [], []⟩, false, none, 0⟩
        lines := ⟨false, false, false⟩
        lifts := ⟨⟨⟨.idle, none, none, false, none, none⟩, ⟨.idle, none, none, false, none, none⟩⟩, ⟨none, none⟩, ⟨none, none⟩⟩
        tanks := ⟨[], none, 0, 0⟩
        trials := ⟨[], false⟩
        ports := s.ports.map (fun q => ⟨.waiting, none, none, [], ⟨0, 0, 0, 0, 0, 0, 0⟩, q.nextMark⟩)
        rate := match straps with
          | ⟨false, false⟩ => .b38400
          | ⟨false, true⟩ => .b115200
          | ⟨true, false⟩ => .b230400
          | ⟨true, true⟩ => .b460800
        attn := ⟨⟨[], [], .level, false⟩, ⟨[], [], .level, false⟩, ⟨[], [], .level, false⟩, ⟨[], [], .level, false⟩⟩
        pending := s.pending }

/-- The WARM restart, by the supply or by the reset pin (R18, R20, R148, R187, R192): retained memory is kept, the working
state is cleared, and the lift records are adjusted: JOINING and CHECKING to IDLE, GRANTED to DONE with GRANT LAPSED, SLUNG
kept and marked SILENT; the pending sets hold the causes of the records alone. -/
def Obligations.WarmRestartKeeps : Prop :=
  ∀ (c : Instr) (cause : RestartCause) (straps : Straps) (s : State),
    (c = .supplyRise true straps ∧ s.ship.retentionMark = true ∧ cause = .warmSupply) ∨ (c = .resetPin straps ∧ cause = .warmPin) →
    let after (r : LiftRecord) : LiftRecord := match r.state with
      | .idle => r
      | .joining => ⟨.idle, none, none, false, r.report, none⟩
      | .checking => ⟨.idle, none, none, false, r.report, none⟩
      | .granted => { r with state := .done, timer := none, silent := false, outcome := some .grantLapsed }
      | .slung => { r with timer := none, silent := true }
      | .done => r
    let kept (d : Crane) : Option Ended := match (s.record d).state, (s.record d).lift with
      | .granted, some l => some ⟨s.massOf l.tag, l.origin⟩
      | .done, _ => s.lifts.ended.get d
      | _, _ => none
    let ended (r : LiftRecord) : Bool := r.state == .granted || r.state == .done
    let silent := (after (s.record .crane1)).silent || (after (s.record .crane2)).silent
    let silence : List Cause := if silent = true then [.silentLift] else []
    let attn (l : List Cause) : AttnPort := ⟨l, [], .level, false⟩
    exec c s = .next
      { ship := { s.ship with buffer := .blank, mode := .verify, faultReason := none, restartCause := cause, committing := none }
        cond := { s.cond with hold := [] }
        eval := ⟨none, none, s.eval.raiseClock, none, false, none, none, none, none, 0, none, 0, s.eval.routineMode,
                 s.eval.interval, none⟩
        mon := { s.mon with sticky := ⟨[], [], [], []⟩, primed := false, effective := effectiveOf s.mon.slots, lastJudged := 0 }
        lines := ⟨false, false, effectiveOf s.mon.slots == some .alarm⟩
        lifts := ⟨⟨after (s.record .crane1), after (s.record .crane2)⟩, ⟨kept .crane1, kept .crane2⟩, ⟨none, none⟩⟩
        tanks := { s.tanks with reading := none }
        trials := ⟨[], false⟩
        ports := s.ports.map (fun q => ⟨.waiting, none, none, [], ⟨0, 0, 0, 0, 0, 0, 0⟩, q.nextMark⟩)
        rate := strapRate straps
        attn := ⟨attn silence, attn silence,
                 attn ((if ended (s.record .crane1) = true then [.outcomeReady] else []) ++ silence),
                 attn ((if ended (s.record .crane2) = true then [.outcomeReady] else []) ++ silence)⟩
        pending := s.pending }

/-! ### Changes of the condition -/

/-- A change refused for its form at arrival, and a change that arrives while a capture is in progress: it is put on the
hold list unvalidated with its reply deferred, or answered BUSY when its port has one held (R36, R37, R83). A hook report or
landing does to its record's timers what its arrival does, one answered BUSY too, and one refused for its form nothing (log 20,
DEDUCED). That a planning change is never refused at its arrival but
tested when it is applied, a malformed one too, is the model's reading (log 19, DEDUCED).
Which changes are refused for their form at arrival (R137, R139, R141, R151): SOUNDINGS with no pair or more than 12, a hook
report with a coordinate outside x -500..19500, y -2500..2500 or z 0..5000, and a landing that is neither a placement nor ASHORE
or has such a coordinate; no planning change (log 19, DEDUCED).
That a compartment number beyond 95 is no fault of form is the model's choice (log 37, DESIGN CHOICE). -/
def Obligations.ChangeDuringCaptureIsHeld : Prop :=
  (∀ (i : Instr) (p : Port) (tag : Byte) (ch : Change) (s : State), requestRow i = some (p, tag, .change ch) → Serving s p →
     roleAllows (Request.change ch).kind (portRole p) = true →
     let k := (Request.change ch).kind
     let a := changeArrives p ch s
     (changeMalformed ch = true → exec i s = refusesOnly s p k tag .badArgument) ∧
     (changeMalformed ch = false → s.capturing = true → (∃ h ∈ s.cond.hold, h.caller.port = p) →
       exec i s = answersOnly a p k tag ⟨.busy, .statusOnly⟩) ∧
     (changeMalformed ch = false → s.capturing = true → (∀ h ∈ s.cond.hold, h.caller.port ≠ p) →
       exec i s = .next { a with
         cond := { s.cond with hold := s.cond.hold ++ [⟨nextCaller s p (kindByte k) tag, ch⟩] }
         ports := deferredPorts s p k tag })) ∧
  (∀ ch : Change,
     let inRange (q : Point) : Prop := -500 ≤ q.x ∧ q.x ≤ 19500 ∧ -2500 ≤ q.y ∧ q.y ≤ 2500 ∧ 0 ≤ q.z ∧ q.z ≤ 5000
     changeMalformed ch = true ↔
       (∃ pairs, ch = .soundings pairs ∧ (pairs = [] ∨ 12 < pairs.length)) ∨
       (∃ q, (ch = .hookOn q ∨ ch = .hookAt q) ∧ ¬ inRange q) ∨
       ch = .landed none ∨
       (∃ pl, ch = .landed (some (.place pl)) ∧ ¬ (inRange ⟨pl.xAft, pl.y, pl.z⟩ ∧ inRange ⟨pl.xFore, pl.y, pl.z⟩)))

/-- ADD ITEMS at once (R38, R39). 1 to 4 entries, tested in order with those before them applied: the first failing test of
the first failing entry is answered with its number and nothing changes; otherwise all are applied as one change. The tests
of an entry stand in the order of R38, and an applied entry writes its record and, for ABOARD, its compartment.
The warnings of an ADD ITEMS (R39, R166, R167): of the entries from 1 up, those with a planned placement (a PENDING entry by
its placement, an ABOARD one by its plan, and none for ASHORE or without a plan) are examined with all entries applied, each by
its discharge port; those with a warning are listed under their numbers.
The entries are all applied exactly when each passes its tests with those before it applied, and then one after another.
The arbiter then acts on a job request that it raised, at the end of the same step (R80; log 12, DEDUCED). -/
def Obligations.AddItemsAppliesAllOrNone : Prop :=
  ((∀ (tag : Byte) (es : List Entry) (s : State), Applying s .portP →
     let run := exec (.addItems .portP tag es) s
     (es = [] ∨ 4 < es.length → run = answersOnly s .portP .addItems tag ⟨.badArgument, .entryRefused 0 s.cond.version⟩) ∧
     (∀ before e after t st, es.length ≤ 4 → es = before ++ e :: after → addEntries 1 s before = .ok t → entryFault t e = some st →
       run = answersOnly s .portP .addItems tag ⟨st, .entryRefused (before.length + 1) s.cond.version⟩) ∧
     (∀ t, es ≠ [] → es.length ≤ 4 → addEntries 1 s es = .ok t →
       run = changesCond s .portP .addItems tag t.cond
         (if entryWarnings t 1 es = [] then ⟨.done, .version (s.cond.version + 1)⟩
          else ⟨.warning, .warnings (entryWarnings t 1 es) (s.cond.version + 1)⟩))) ∧
   (∀ (e : Entry) (s : State),
     entryFault s e =
       if e.tag = 0 ∨ e.kind = none ∨ e.state = none ∨ e.mass < 1 ∨ 60000 < e.mass ∨ e.dport < 0 ∨ 15 < e.dport ∨
          (e.kind = some .constant ∧ (e.state = some .pending ∨ e.plan ≠ none)) ∨
          (e.state = some .pending ∧ (e.place = .ashore ∨ e.plan ≠ none)) ∨ (e.state = some .aboard ∧ e.place = .ashore)
       then some .badArgument
       else if s.item e.tag ≠ none then some .tagInUse
       else if (match e.place with
           | .place pl => placementValid s (if e.state = some .pending then .newPlan else .declaration) e.tag pl
           | .ashore => false) = false then some .badPlacement
       else if (match e.plan with
           | some (.place pl) => placementValid s .newPlan e.tag pl
           | _ => true) = false then some .badPlacement
       else if 384 ≤ s.cond.items.length then some .tableFull
       else none) ∧
   (∀ (e : Entry) (k : ItemKind) (pl : Placement) (s : State), e.kind = some k → e.place = .place pl →
     (e.state = some .pending → applyEntry s e = { s with cond := { s.cond with
       items := s.cond.items.put e.tag ⟨k, .pending, e.mass, e.dport, none, some (.place pl), none⟩ } }) ∧
     (e.state = some .aboard → applyEntry s e = { s with cond := { s.cond with
       items := s.cond.items.put e.tag ⟨k, .aboard, e.mass, e.dport, some pl, e.plan, none⟩
       comps := s.cond.comps.store .empty pl.comp
         ⟨(s.comp pl.comp).flag, (s.comp pl.comp).load + e.mass, (s.comp pl.comp).stow ++ [e.tag]⟩ } }))) ∧
  (∀ (es : List Entry) (s t : State), addEntries 1 s es = .ok t ↔
     t = es.foldl applyEntry s ∧
     ∀ before e after, es = before ++ e :: after → entryFault (before.foldl applyEntry s) e = none) ∧
  (∀ (es : List Entry) (s : State),
     let planned (e : Entry) : Option Placement := match (if e.state = some .pending then some e.place else e.plan) with
       | some (.place pl) => some pl
       | some .ashore => none
       | none => none
     entryWarnings s 1 es = (es.zipIdx 1).filterMap (fun x => match planned x.1 with
       | none => none
       | some pl => if planWarnings s x.1.dport pl = [] then none else some (x.2, planWarnings s x.1.dport pl)))

/-- AMEND ITEM at once (R40): the tests in their order; then the mass and the discharge port that are present replace the
item's, and an ABOARD item's compartment load changes by the difference of mass.
CANCEL PLAN at once (R42): NO SUCH ITEM, ITEM BUSY, BAD ARGUMENT for a PENDING item or for no plan, in that order;
otherwise the plan is removed.
The arbiter then acts on a job request that it raised, at the end of the same step (R80; log 12, DEDUCED). -/
def Obligations.AmendItemAndCancelPlanApply : Prop :=
  (∀ (tag : Byte) (item : Nat) (mass dport : Option Int) (s : State), Applying s .portP →
     let run := exec (.amendItem .portP tag item mass dport) s
     let bad := (mass = none ∧ dport = none) ∨ (∃ m, mass = some m ∧ (m < 1 ∨ 60000 < m)) ∨
       (∃ d, dport = some d ∧ (d < 0 ∨ 15 < d))
     (bad → run = refusesOnly s .portP .amendItem tag .badArgument) ∧
     (¬ bad → s.item item = none → run = refusesOnly s .portP .amendItem tag .noSuchItem) ∧
     (∀ it, ¬ bad → s.item item = some it → it.state = .slung ∨ s.named item = true →
       run = refusesOnly s .portP .amendItem tag .itemBusy) ∧
     (∀ it, ¬ bad → s.item item = some it → it.state ≠ .slung → s.named item = false →
       run = changesCond s .portP .amendItem tag { s.cond with
           items := s.cond.items.put item { it with mass := mass.getD it.mass, dport := dport.getD it.dport }
           comps := match it.state, it.actual with
             | .aboard, some pl => s.cond.comps.store .empty pl.comp
                 { s.comp pl.comp with load := (s.comp pl.comp).load + (mass.getD it.mass - it.mass) }
             | _, _ => s.cond.comps }
         ⟨.done, .version (s.cond.version + 1)⟩)) ∧
  (∀ (tag : Byte) (item : Nat) (s : State), Applying s .portP →
     let run := exec (.cancelPlan .portP tag item) s
     (s.item item = none → run = refusesOnly s .portP .cancelPlan tag .noSuchItem) ∧
     (∀ it, s.item item = some it → it.state = .slung ∨ s.named item = true →
       run = refusesOnly s .portP .cancelPlan tag .itemBusy) ∧
     (∀ it, s.item item = some it → it.state ≠ .slung → s.named item = false → it.state = .pending ∨ it.plan = none →
       run = refusesOnly s .portP .cancelPlan tag .badArgument) ∧
     (∀ it g, s.item item = some it → it.state = .aboard → s.named item = false → it.plan = some g →
       run = changesCond s .portP .cancelPlan tag { s.cond with items := s.cond.items.put item { it with plan := none } }
         ⟨.done, .version (s.cond.version + 1)⟩))

/-- PLAN MOVE at once (R41): the tests in their order, where a plan is malformed when it is neither form or has a coordinate
outside the ranges of R126 (log 36, DEDUCED); then the plan replaces the item's plan, and the reply is DONE or
WARNING with the warnings of R166 found with the plan in place, as entry 1.
The tests of a placement by its use: geometrically sound (R26), the compartment OPEN for a new plan or a lift
destination, and the rests-on target: not the item, ABOARD in the compartment or, for a new plan, planned there, and, but
for a new plan, named by no lift record (R27).
That a compartment number beyond 95 is no fault of form is the model's choice (log 37, DESIGN CHOICE).
The arbiter then acts on a job request that it raised, at the end of the same step (R80; log 12, DEDUCED). -/
def Obligations.PlanMoveAppliesWithItsWarnings : Prop :=
  ((∀ (tag : Byte) (item : Nat) (plan : Option Goal) (s : State), Applying s .portP →
     let run := exec (.planMove .portP tag item plan) s
     let no (st : Status) := refusesOnly s .portP .planMove tag st
     let outside := ∃ pl, plan = some (.place pl) ∧ ¬ (-500 ≤ pl.xAft ∧ pl.xAft ≤ 19500 ∧ -500 ≤ pl.xFore ∧ pl.xFore ≤ 19500 ∧
       -2500 ≤ pl.y ∧ pl.y ≤ 2500 ∧ 0 ≤ pl.z ∧ pl.z ≤ 5000)
     (plan = none ∨ outside → run = no .badArgument) ∧
     (∀ g, plan = some g → ¬ outside → s.item item = none → run = no .noSuchItem) ∧
     (∀ g it, plan = some g → ¬ outside → s.item item = some it →
       let busy := it.state = .slung ∨ s.named item = true
       let invalid := ∃ pl, g = .place pl ∧ placementValid s .newPlan item pl = false
       let c : Condition := { s.cond with items := s.cond.items.put item { it with plan := some g } }
       (it.kind = .constant → run = no .notLiftable) ∧
       (it.kind = .cargo → busy → run = no .itemBusy) ∧
       (it.kind = .cargo → ¬ busy → it.state = .pending → g = .ashore → run = no .badArgument) ∧
       (it.kind = .cargo → ¬ busy → ¬ (it.state = .pending ∧ g = .ashore) → invalid → run = no .badPlacement) ∧
       (it.kind = .cargo → ¬ busy → ¬ (it.state = .pending ∧ g = .ashore) → ¬ invalid →
         (g = .ashore → run = changesCond s .portP .planMove tag c ⟨.done, .version (s.cond.version + 1)⟩) ∧
         (∀ pl, g = .place pl → run = changesCond s .portP .planMove tag c
           (if planWarnings { s with cond := c } it.dport pl = [] then ⟨.done, .version (s.cond.version + 1)⟩
            else ⟨.warning, .warnings [(1, planWarnings { s with cond := c } it.dport pl)] (s.cond.version + 1)⟩))))) ∧
   (∀ (s : State) (dport : Int) (pl : Placement) (w : Warning), w ∈ planWarnings s dport pl ↔
     (∃ r it, pl.restsOn = some r ∧ s.item r = some it ∧ it.dport ≠ 0 ∧ dport ≠ 0 ∧ it.dport < dport ∧ w = .portOrder r it.dport) ∨
     (∃ r k m, s.ship.image.stowComp pl.comp = some (r, k, m) ∧ m < s.plannedLoad pl.comp ∧
       w = .overLoad pl.comp (s.plannedLoad pl.comp) m))) ∧
  (∀ (s : State) (u : PlacementUse) (tag : Nat) (pl : Placement),
     placementValid s u tag pl = true ↔
       (∃ r k m, s.ship.image.comp pl.comp = some r ∧ r.use = .stow k m ∧ r.xAft ≤ pl.xAft ∧ pl.xAft ≤ pl.xFore ∧
         pl.xFore ≤ r.xFore ∧ pl.xFore - pl.xAft ≤ 4000 ∧ r.yMin ≤ pl.y ∧ pl.y ≤ r.yMax ∧ r.zFloor ≤ pl.z ∧ pl.z ≤ r.zTop) ∧
       (u = .newPlan ∨ u = .liftDest → (s.comp pl.comp).flag = .opened) ∧
       (∀ x, pl.restsOn = some x → x ≠ tag ∧
         (∃ it, s.item x = some it ∧
           ((it.state = .aboard ∧ ∃ q, it.actual = some q ∧ q.comp = pl.comp) ∨
            (u = .newPlan ∧ ∃ q, it.plan = some (.place q) ∧ q.comp = pl.comp))) ∧
         (u ≠ .newPlan → s.named x = false)))

/-- REMOVE ITEM at once (R43, R44, R45): NO SUCH ITEM, ITEM BUSY, OVERSTOWED, in that order; otherwise the record is deleted:
an ABOARD item leaves its stow list and load, and a plan that rested on it loses its rests-on field. Whether an item is
overstowed is an ABOARD item or the destination of an active lift resting on it.
The arbiter then acts on a job request that it raised, at the end of the same step (R80; log 12, DEDUCED). -/
def Obligations.RemoveItemApplies : Prop :=
  (∀ (tag : Byte) (item : Nat) (s : State), Applying s .portP →
    let run := exec (.removeItem .portP tag item) s
    (s.item item = none → run = refusesOnly s .portP .removeItem tag .noSuchItem) ∧
    (∀ it, s.item item = some it → it.state = .slung ∨ s.named item = true →
      run = refusesOnly s .portP .removeItem tag .itemBusy) ∧
    (∀ it, s.item item = some it → it.state ≠ .slung → s.named item = false → s.overstowed item = true →
      run = refusesOnly s .portP .removeItem tag .overstowed) ∧
    (∀ it, s.item item = some it → it.state ≠ .slung → s.named item = false → s.overstowed item = false →
      let free (x : ItemRecord) : ItemRecord := match x.plan with
        | some (.place pl) => if pl.restsOn = some item then { x with plan := some (.place { pl with restsOn := none }) } else x
        | _ => x
      run = changesCond s .portP .removeItem tag { s.cond with
          items := (s.cond.items.filter (fun e => e.1 != item)).map (fun e => (e.1, free e.2))
          comps := match it.state, it.actual with
            | .aboard, some pl => s.cond.comps.store .empty pl.comp
                ⟨(s.comp pl.comp).flag, (s.comp pl.comp).load - it.mass, (s.comp pl.comp).stow.filter (fun t => t != item)⟩
            | _, _ => s.cond.comps }
        ⟨.done, .version (s.cond.version + 1)⟩)) ∧
  (∀ (s : State) (item : Nat), s.overstowed item = true ↔
    (∃ e ∈ s.cond.items, e.2.state = .aboard ∧ ∃ pl, e.2.actual = some pl ∧ pl.restsOn = some item) ∨
    (∃ c l pl, (s.record c).state ∈ [LiftState.joining, .checking, .granted, .slung] ∧ (s.record c).lift = some l ∧
      l.dest = .place pl ∧ pl.restsOn = some item))

/-- SET COMPARTMENT, CLEAR CONDITION and SET DENSITY at once (R46, R47, R34). A stow compartment's flag is set, and a TANK, an
absent number or another flag is refused; CLEAR CONDITION is refused while a record is active and otherwise empties the
items, loads, fills and trials and keeps the flags; a density is brought into 990..1030 with CLAMPED when it lay outside.
The arbiter then acts on a job request that it raised, at the end of the same step (R80; log 12, DEDUCED). -/
def Obligations.SetCompartmentClearAndDensityApply : Prop :=
  ∀ (tag : Byte) (s : State), Applying s .portP →
    (∀ n f r k m, s.ship.image.comp n = some r → r.use = .stow k m →
      exec (.setCompartment .portP tag n (some f)) s = changesCond s .portP .setCompartment tag
        { s.cond with comps := s.cond.comps.store .empty n { s.comp n with flag := f } } ⟨.done, .version (s.cond.version + 1)⟩) ∧
    (∀ n f, f = none ∨ s.ship.image.stowComp n = none →
      exec (.setCompartment .portP tag n f) s = refusesOnly s .portP .setCompartment tag .badArgument) ∧
    ((∃ c, (s.record c).state ∈ [LiftState.joining, .checking, .granted, .slung]) →
      exec (.clearCondition .portP tag) s = refusesOnly s .portP .clearCondition tag .liftsActive) ∧
    ((∀ c, (s.record c).state ∈ [LiftState.idle, .done]) → s.cond.comps.Rising →
      ∃ t, exec (.clearCondition .portP tag) s = .next (arbitrate s.eval t) ∧
        t = { s with
          cond := { s.cond with items := [], comps := t.cond.comps, version := s.cond.version + 1 }
          eval := routineRaised s
          tanks := { s.tanks with fills := [] }
          trials := ⟨[], false⟩
          ports := answeredPorts s .portP .clearCondition tag ⟨.done, .version (s.cond.version + 1)⟩ } ∧
        ∀ n, t.comp n = ⟨(s.comp n).flag, 0, []⟩) ∧
    (∀ d, let v := if d < 990 then 990 else if 1030 < d then 1030 else d
      exec (.setDensity .portP tag d) s = changesCond s .portP .setDensity tag { s.cond with density := v }
        ⟨if v = d then .done else .clamped, .density v (s.cond.version + 1)⟩)

/-- SOUNDINGS (R151, R152): no pair or more than 12 is refused at arrival, in a capture as well; otherwise, at once, a pair
that names a TANK sets its fill, at most 1000, later pairs over earlier ones; the other pairs are skipped and counted with
the first of them; with no pair applied nothing changes.
The arbiter then acts on a job request that it raised, at the end of the same step (R80; log 12, DEDUCED). -/
def Obligations.SoundingsFillTanks : Prop :=
  ∀ (tag : Byte) (pairs : List (Nat × Nat)) (s : State), Serving s .portB →
    let img := s.ship.image
    let hits := pairs.filter (fun x => img.isTank x.1)
    let missed := pairs.filter (fun x => !img.isTank x.1)
    let above := (hits.filter (fun x => decide (1000 < x.2))).length
    let first := missed.head?.map Prod.fst
    let run := exec (.soundings .portB tag pairs) s
    (pairs = [] ∨ 12 < pairs.length → run = refusesOnly s .portB .soundings tag .badArgument) ∧
    (s.capturing = false → pairs ≠ [] → pairs.length ≤ 12 → hits = [] →
      run = answersOnly s .portB .soundings tag ⟨.badArgument, .soundings 0 0 missed.length first s.cond.version⟩) ∧
    (s.capturing = false → pairs.length ≤ 12 → hits ≠ [] →
      ∃ t, run = .next (arbitrate s.eval t) ∧ t = { s with
          tanks := { s.tanks with fills := t.tanks.fills }
          cond := { s.cond with version := s.cond.version + 1 }
          eval := routineRaised s
          ports := answeredPorts s .portB .soundings tag ⟨if above = 0 then .done else .clamped,
            .soundings hits.length above missed.length first (s.cond.version + 1)⟩ } ∧
        ∀ n, t.fill n = match hits.reverse.find? (fun x => x.1 == n) with
          | none => s.fill n
          | some x => min x.2 1000)

/-! ### Reads -/

/-- READ ITEM, LIST ITEMS and READ COMPARTMENT, from any port, which change nothing: the item record in its 36 bytes with
the version, its presence byte as the model reads section 8.5 (bit 1 a plan that is a placement, bit 2 a plan ASHORE; log 28,
DEDUCED), up to 48 tags from the start tag on with the count, and a compartment's state (R48, R49, sections 8.4 and 8.5 of
the ports chapter).
The planned load of a compartment: the masses of the items intended for it, by their plan, else by their actual placement
or, for a SLUNG item, by its lift's destination (R33). -/
def Obligations.ConditionReads : Prop :=
  (∀ (p : Port) (tag : Byte) (s : State), Serving s p →
     (∀ item, s.item item = none → exec (.readItem p tag item) s = answersOnly s p .readItem tag ⟨.noSuchItem, .statusOnly⟩) ∧
     (∀ item it, s.item item = some it →
       let field (pl : Placement) : List Byte :=
         byteOf pl.comp :: (bytes2 pl.xAft ++ bytes2 pl.xFore ++ bytes2 pl.y ++ bytes2 pl.z ++ bytes2 (pl.restsOn.getD 0))
       let zeros : List Byte := List.replicate 11 0
       let bit (b : Bool) (w : Int) : Int := if b = true then w else 0
       exec (.readItem p tag item) s = answersOnly s p .readItem tag ⟨.done, .layout
         (bytes2 item ++ ([match it.kind with | .cargo => 0 | .constant => 1,
            match it.state with | .pending => 0 | .aboard => 1 | .slung => 2] : List Byte) ++ bytes2 it.mass ++
          [byteOf it.dport,
           byteOf (bit it.actual.isSome 1 + bit (it.plan.any (fun g => g != .ashore)) 2 + bit (it.plan == some .ashore) 4 +
             bit it.link.isSome 8),
           match it.link with | none => 0 | some .crane1 => 1 | some .crane2 => 2] ++
          (match it.actual with | some pl => field pl | none => zeros) ++
          (match it.plan with | some (.place pl) => field pl | _ => zeros) ++ bytes4 (s.cond.version.toNat : Int))⟩) ∧
     (∀ start, exec (.listItems p tag start) s = answersOnly s p .listItems tag ⟨.done, .itemList s.cond.items.length
         (((s.cond.items.map Prod.fst).filter (fun t => decide (start ≤ t))).take 48) s.cond.version⟩) ∧
     (∀ n start, s.ship.image.comp n = none →
       exec (.readCompartment p tag n start) s = answersOnly s p .readCompartment tag ⟨.badArgument, .statusOnly⟩) ∧
     (∀ n start r k m, s.ship.image.comp n = some r → r.use = .stow k m →
       exec (.readCompartment p tag n start) s = answersOnly s p .readCompartment tag ⟨.done, .compartment
         ⟨some k, (s.comp n).flag, m, (s.comp n).load, s.plannedLoad n, 0, (s.comp n).stow.length,
          ((s.comp n).stow.drop start).take 40⟩ s.cond.version⟩) ∧
     (∀ n start r m cx cy fsm, s.ship.image.comp n = some r → r.use = .tank m cx cy fsm →
       exec (.readCompartment p tag n start) s = answersOnly s p .readCompartment tag ⟨.done, .compartment
         ⟨none, .opened, m, roundDiv (m * s.fill n) 1000, 0, s.fill n, 0, []⟩ s.cond.version⟩)) ∧
  (∀ (s : State) (n : Nat),
     s.plannedLoad n = (s.cond.items.map (fun e => if s.intended e.1 e.2 = some n then e.2.mass else 0)).sum ∧
     ∀ (tag : Nat) (it : ItemRecord),
       (∀ pl, it.plan = some (.place pl) → s.intended tag it = some pl.comp) ∧
       (it.plan = some .ashore → s.intended tag it = none) ∧
       (∀ pl, it.plan = none → it.state = .aboard → it.actual = some pl → s.intended tag it = some pl.comp) ∧
       (∀ c l, it.plan = none → it.state = .slung → (s.record c).state = .slung → (s.record c).lift = some l → l.tag = tag →
         (∀ d, (s.record d).state = .slung → recordNames (s.record d) tag = true → (s.record d).lift.map Lift.dest = some l.dest) →
         s.intended tag it = match l.dest with | .place pl => some pl.comp | .ashore => none) ∧
       (it.plan = none → it.state = .pending → s.intended tag it = none))

/-- READ RESULT and READ PROSPECT from any port, which change nothing: BAD ARGUMENT for a part that does not exist or for
selector 0, NO RESULT for an empty bank or a number that neither bank holds, and otherwise the part of the selected record
(R99, R176).
The bytes of the parts of the two results, after the status (section 8.6 of the ports chapter), and the check word of a
routine record: the CRC over its existing parts from byte 1 on with bytes 4 and 5 left out (R98).
The bytes of part 0 of the prospective result, after the status: 37 of them (section 8.6 of the ports chapter). -/
def Obligations.ResultReadsAndLayouts : Prop :=
  (∀ (p : Port) (tag : Byte) (part : Nat) (s : State), Serving s p →
     let n := s.ship.image.stationCount
     let exists' := part ≤ 2 ∨ (part = 3 ∧ 0 < n) ∨ (part = 4 ∧ 6 < n) ∨ (part = 5 ∧ 12 < n)
     let read (sel : Selector) := exec (.readResult p tag sel part) s
     let is (k : Nat) (r : RoutineResult) : Prop := r.seq = k
     let found (r : RoutineResult) := answersOnly s p .readResult tag ⟨.done, .layout (resultPartBytes r part)⟩
     (∀ sel, ¬ exists' ∨ sel = .number 0 → read sel = answersOnly s p .readResult tag ⟨.badArgument, .statusOnly⟩) ∧
     (exists' → s.eval.latest = none → read .latest = answersOnly s p .readResult tag ⟨.noResult, .statusOnly⟩) ∧
     (exists' → s.eval.prior = none → read .prior = answersOnly s p .readResult tag ⟨.noResult, .statusOnly⟩) ∧
     (∀ r, exists' → s.eval.latest = some r → read .latest = found r ∧ (is 0 r ∨ read (.number r.seq) = found r)) ∧
     (∀ r, exists' → s.eval.prior = some r → read .prior = found r ∧
       (is 0 r ∨ (∃ l, s.eval.latest = some l ∧ is r.seq l) ∨ read (.number r.seq) = found r)) ∧
     (∀ k, exists' → 1 ≤ k → (∀ r, s.eval.latest = some r → ¬ is k r) → (∀ r, s.eval.prior = some r → ¬ is k r) →
       read (.number k) = answersOnly s p .readResult tag ⟨.noResult, .statusOnly⟩) ∧
     (¬ exists' → exec (.readProspect p tag part) s = answersOnly s p .readProspect tag ⟨.badArgument, .statusOnly⟩) ∧
     (exists' → s.eval.prospect = none →
       exec (.readProspect p tag part) s = answersOnly s p .readProspect tag ⟨.noResult, .statusOnly⟩) ∧
     (∀ r, exists' → s.eval.prospect = some r →
       exec (.readProspect p tag part) s = answersOnly s p .readProspect tag ⟨.done, .layout (prospectPartBytes r part)⟩)) ∧
  ((∀ (r : RoutineResult) (part : Nat),
     let f := r.figures
     let bit (b : Bool) (w : Int) : Int := if b = true then w else 0
     let flags := byteOf (bit r.stale 128 + bit f.flags.offLow 64 + bit f.flags.offHigh 32 + bit f.flags.trimSaturated 16 +
       bit f.flags.negativeGm 8 + bit r.disagreement.isNone 4 + bit r.injected 2)
     let body : List Byte := match part with
       | 0 => bytes4 (r.version.toNat : Int) ++ [flags, byteOf r.stationCount] ++ verdictBytes r.verdicts ++
           bytes4 (r.disagreement.getD 0) ++ bytes4 f.loadRatio ++ bytes4 f.maxShear ++ bytes4 f.maxBend
       | 1 => [f.totals.delta, f.totals.lcg, f.totals.tcg, f.totals.vcg, f.totals.fsm, f.totals.deq, f.hydro.tm, f.hydro.lcb,
               f.hydro.lcf, f.hydro.km, f.hydro.mtc, f.trim.t, f.trim.ta, f.trim.tf].flatMap bytes4
       | 2 => [f.hydro.kn10, f.hydro.kn20, f.hydro.kn30, f.hydro.kn40, f.hydro.kn50, f.hydro.kn60, f.stab.fsc, f.stab.kgf,
               f.stab.gmSolid, f.stab.gm, f.stab.heel, f.levers.gz0, f.levers.gz10, f.levers.gz20, f.levers.gz30,
               f.levers.gz40, f.levers.gz50, f.levers.gz60, f.levers.a30, f.levers.a40, f.levers.a3040,
               f.levers.angle].flatMap bytes4
       | _ => ((f.stations.drop (6 * (part - 3))).take 6).flatMap
               (fun x => bytes4 x.sf ++ bytes4 x.bm ++ bytes4 x.shear ++ bytes4 x.bend)
     part ≤ 5 → f.stations.length ≤ 16 →
       resultPartBytes r part = byteOf part :: (bytes2 r.seq ++ bytes2 (r.checkWord.toNat : Int) ++ body) ∧
       (∀ (q : ProspectResult), q.figures = f → 1 ≤ part →
         prospectPartBytes q part = byteOf part :: (bytes2 q.header.seq ++ [0, 0] ++ body))) ∧
   (∀ r : RoutineResult, resultCheck r = crc16 (([0, 1, 2, 3, 4, 5].filter (partExists r.stationCount)).flatMap (fun n =>
     (resultPartBytes r n).take 3 ++ (resultPartBytes r n).drop 5))) ∧
   (∀ vs : List Verdict, vs.length = 16 → ∀ i, i < 16 →
     ((verdictBytes vs).getD (i / 4) 0 >>> (6 - 2 * (i % 4))) &&& 3 =
       (match vs.getD i .na with | .na => 0 | .pass => 1 | .fail => 2 : BitVec 8))) ∧
  (∀ q : ProspectResult,
     let h := q.header
     let bit (b : Bool) (w : Int) : Int := if b = true then w else 0
     prospectPartBytes q 0 = ([0] : List Byte) ++ bytes2 h.seq ++ ([0, 0] : List Byte) ++ bytes4 (h.version.toNat : Int) ++
       ([match h.scope with | .actual => 0 | .departure => 1,
        byteOf (bit h.stale 128 + bit h.flags.offLow 64 + bit h.flags.offHigh 32 + bit h.flags.trimSaturated 16 +
          bit h.flags.negativeGm 8 + bit h.baseLost 1),
        byteOf h.stationCount, byteOf h.depth, byteOf h.applied, byteOf h.skipped] : List Byte) ++ verdictBytes h.verdicts ++
       ([byteOf h.failing, match h.firstFail with | none => 0xFF | some x => byteOf x.1] : List Byte) ++
       bytes4 (match h.firstFail with | none => 0 | some x => x.2) ++ bytes4 h.loadRatio ++ bytes4 h.maxShear ++
       bytes4 h.maxBend ∧
     (prospectPartBytes q 0).length = 37)

/-! ### The evaluation unit -/

/-- EVALUATE NOW, SET EVALUATION, EVALUATE PROSPECT and the interval timer (R92, R93, R94, R101, R102): a routine request
raised in either mode with what the reply tells; the mode and interval stored with the timer started or stopped; the scope
put into the prospective slot, over any request still there, with its reply deferred; and an expiry of the running timer,
which raises a routine request and starts it again. An expiry with no interval timer running changes nothing (log 5, DESIGN
CHOICE).
The arbiter then acts on a job request that it raised, at the end of the same step (R80; log 12, DEDUCED). -/
def Obligations.EvaluationRequests : Prop :=
  ∀ (tag : Byte) (s : State),
    (Serving s .portP →
      exec (.evaluateNow .portP tag) s = .next (arbitrate s.eval { s with
        eval := { s.eval with slotRoutine := true }
        ports := answeredPorts s .portP .evaluateNow tag ⟨.done, .evaluateNow (!s.eval.slotRoutine)
          (match s.eval.engine with | some ⟨_, _, .routine ..⟩ => true | _ => false)
          (match s.eval.latest with | some r => r.seq | none => 0)⟩ })) ∧
    (∀ mode interval, Serving s .portP → mode = none ∨ interval < 1 ∨ 60 < interval →
      exec (.setEvaluation .portP tag mode interval) s = answersOnly s .portP .setEvaluation tag ⟨.badArgument, .statusOnly⟩) ∧
    (∀ m interval, Serving s .portP → 1 ≤ interval → interval ≤ 60 →
      exec (.setEvaluation .portP tag (some m) interval) s = .next { s with
        eval := { s.eval with routineMode := m, interval := interval.toNat,
                              intervalTimer := if m = .continuous then some interval.toNat else none }
        ports := answeredPorts s .portP .setEvaluation tag ⟨.done, .statusOnly⟩ }) ∧
    (Serving s .portP →
      exec (.evaluateProspect .portP tag none) s = answersOnly s .portP .evaluateProspect tag ⟨.badArgument, .statusOnly⟩) ∧
    (∀ sc, Serving s .portP → exec (.evaluateProspect .portP tag (some sc)) s = .next (arbitrate s.eval { s with
        eval := { s.eval with slotProspect := some (sc, nextCaller s .portP 0x22 tag) }
        ports := deferredPorts s .portP .evaluateProspect tag })) ∧
    (∀ n, s.eval.intervalTimer = some n → exec .intervalTimerExpiry s = .next (arbitrate s.eval { s with
        eval := { s.eval with slotRoutine := true,
                              intervalTimer := some (if s.eval.routineMode = .continuous then s.eval.interval else n) } })) ∧
    (s.eval.intervalTimer = none → exec .intervalTimerExpiry s = .next s)

/-- The arbiter (R79, R80, R82): it starts a job only IN SERVICE with the engine free; of two lift checks the one raised
first, before the prospective slot, before the routine slot; the job's slot becomes empty, and the job carries the version
and the captures of that moment.
When it acts (R80): at the end of a step in which an empty slot became pending or the busy engine became free, it does what
JOB START does to the state that the step leaves, at once and among the requests pending then; at the end of any other step it
does nothing. That the step of the event ends with the start, which the table has as a step of its own as well, is the model's
reading (log 12, DEDUCED). -/
def Obligations.ArbiterStartsTheFirstJob : Prop :=
  (∀ s : State,
     let can := s.ship.mode = .inService ∧ s.eval.engine = none
     let starts (e : EvalUnit) (w : Work) : Host.Outcome State Fault Refusal :=
       .next { s with eval := { e with engine := some ⟨.capturing, s.cond.version, w⟩ } }
     let check (c : Crane) (l : Lift) : Work := .lift c (pathCapture s c l) (finalCapture s c l)
     let without1 := { s.eval with slotC1 := none }
     let without2 := { s.eval with slotC2 := none }
     (¬ can → exec .jobStart s = .next s) ∧
     (∀ a l, can → s.eval.slotC1 = some a → (∀ b, s.eval.slotC2 = some b → a ≤ b) → (s.record .crane1).lift = some l →
       exec .jobStart s = starts without1 (check .crane1 l)) ∧
     (∀ b l, can → s.eval.slotC2 = some b → (∀ a, s.eval.slotC1 = some a → b < a) → (s.record .crane2).lift = some l →
       exec .jobStart s = starts without2 (check .crane2 l)) ∧
     (∀ sc q, can → s.eval.slotC1 = none → s.eval.slotC2 = none → s.eval.slotProspect = some (sc, q) →
       exec .jobStart s = starts { s.eval with slotProspect := none }
         (.prospect sc (prospectCapture s sc) s.trials.layers.length (prospectSet s sc).applied (prospectSet s sc).skipped
           s.trials.baseLost q)) ∧
     (can → s.eval.slotC1 = none → s.eval.slotC2 = none → s.eval.slotProspect = none → s.eval.slotRoutine = true →
       exec .jobStart s = starts { s.eval with slotRoutine := false }
         (.routine (routineCapture s) (s.cond.items.any (fun e => e.2.state == .slung))
           ⟨(match s.tanks.reading with
             | some r => if (r.age : Int) ≤ s.ship.image.timerLengths.freshness then some (r.aft, r.fwd) else none
             | none => none), s.tanks.aftOffset, s.tanks.fwdOffset⟩)) ∧
     (can → s.eval.slotC1 = none → s.eval.slotC2 = none → s.eval.slotProspect = none → s.eval.slotRoutine = false →
       exec .jobStart s = .next s)) ∧
  (∀ (before : EvalUnit) (t : State),
     let raised := (before.slotC1 = none ∧ t.eval.slotC1 ≠ none) ∨ (before.slotC2 = none ∧ t.eval.slotC2 ≠ none) ∨
       (before.slotProspect = none ∧ t.eval.slotProspect ≠ none) ∨ (before.slotRoutine = false ∧ t.eval.slotRoutine = true)
     let freed := before.engine ≠ none ∧ t.eval.engine = none
     (raised ∨ freed → .next (arbitrate before t) = exec .jobStart t) ∧
     (¬ (raised ∨ freed) → arbitrate before t = t))

/-- Capture complete (R84): the held changes at their turns, oldest first, each applied or refused against the condition and
records as they then stand and answered on its own port if its reply is still deferred; then the hold list is empty and the
job computes. With no capture in progress nothing happens (log 5, DESIGN CHOICE).
A held change has at its turn the effect that it has when it arrives with no capture in progress: such a request is its
change, applied to the state its arrival leaves and answered at once.
The arbiter then acts on a job request that it raised, at the end of the same step (R80; log 12, DEDUCED). -/
def Obligations.CaptureCompleteAppliesHeldChanges : Prop :=
  (∀ (s : State) (j : Job), s.eval.engine = some j → j.stage = .capturing →
    let turn (t : State) (h : Held) : State :=
      let r := applyChange h.caller.port h.change t
      if (r.1.ports.get h.caller.port).deferred = some h.caller then
        { r.1 with ports := r.1.ports.modify h.caller.port (fun x => { x with
            deferred := none, tx := x.tx ++ [⟨⟨replyKind h.caller.kind, h.caller.tag, r.2⟩, some h.caller.mark⟩] }) }
      else r.1
    let t := s.cond.hold.foldl turn { s with cond := { s.cond with hold := [] } }
    exec .captureComplete s = .next { t with eval := { t.eval with engine := some { j with stage := .computing } } } ∧
    t.cond.hold = [] ∧ t.eval.engine = some j) ∧
  (∀ s : State, s.capturing = false → exec .captureComplete s = .next s) ∧
  (∀ (i : Instr) (p : Port) (tag : Byte) (ch : Change) (s : State), requestRow i = some (p, tag, .change ch) → Applying s p →
    roleAllows (Request.change ch).kind (portRole p) = true → changeMalformed ch = false →
    let r := applyChange p ch (changeArrives p ch s)
    exec i s = .next (arbitrate s.eval { r.1 with ports := answeredPorts s p (Request.change ch).kind tag r.2 })) ∧
  (∀ (p : Port) (ch : Change) (s : State), (applyChange p ch s).1.ports = s.ports ∧
    ((applyChange p ch s).1.cond.version = s.cond.version ∨ (applyChange p ch s).1.cond.version = s.cond.version + 1) ∧
    (s.eval.routineMode = .continuous → (applyChange p ch s).1.cond.version = s.cond.version + 1 →
      (applyChange p ch s).1.eval.slotRoutine = true))

/-- The plain comparison of a figure set (R115) and the lowest failing slot: N/A for NONE, outside the effective range, or
where the code does not apply to the case; otherwise PASS or FAIL on the computed figure, never an injected one. -/
def Obligations.PlainComparisonUsesComputedFigures : Prop :=
  ∀ (m : Monitor) (k : PassKind) (f : FigureSet),
    (plainCompare m k f).length = m.slots.length ∧
    (∀ i o, m.slots[i]? = some o →
      let applicable := inRange m.rangeStart m.rangeStop i = true ∧ applies o.set.code k = true
      (¬ applicable ∨ compared f none o.set.code = none → (plainCompare m k f)[i]? = some (.na, none)) ∧
      (∀ v, applicable → compared f none o.set.code = some v →
        (plainCompare m k f)[i]? = some (if failsLimit o.set v = true then .fail else .pass, some v))) ∧
    (∀ i v, firstFail 0 (plainCompare m k f) = some (i, v) ↔
      (plainCompare m k f)[i]? = some (.fail, some v) ∧ ∀ j, j < i → ((plainCompare m k f)[j]?.map Prod.fst) ≠ some .fail) ∧
    (firstFail 0 (plainCompare m k f) = none ↔ ∀ e ∈ plainCompare m k f, e.1 ≠ .fail)

/-- Which figure a code compares and in which sense (R104), and to which passes it applies (R105); a figure equal to the
limit does not fail. -/
def Obligations.CodesCompareTheirFigures : Prop :=
  ∀ (f : FigureSet) (dis : Option Int),
    let mag (v : Int) : Int := if v < 0 then -v else v
    let table : List (Code × Option Int × Bool × List PassKind) :=
      [(.gmMin, some f.stab.gm, true, [.r, .rl, .lp, .lf, .p]), (.area30Min, some f.levers.a30, true, [.r, .rl, .lf, .p]),
       (.area40Min, some f.levers.a40, true, [.r, .rl, .lf, .p]), (.area3040Min, some f.levers.a3040, true, [.r, .rl, .lf, .p]),
       (.gz30Min, some f.levers.gz30, true, [.r, .rl, .lf, .p]), (.gzAngleMin, some f.levers.angle, true, [.r, .rl, .lf, .p]),
       (.heelMax, some (mag f.stab.heel), false, [.r, .lf, .p]), (.liftHeelMax, some (mag f.stab.heel), false, [.rl, .lp]),
       (.trimMax, some (mag f.trim.t), false, [.r, .rl, .lf, .p]),
       (.draftMax, some (if f.trim.ta ≤ f.trim.tf then f.trim.tf else f.trim.ta), false, [.r, .rl, .lp, .lf, .p]),
       (.shearMax, some f.maxShear, false, [.r, .rl, .lp, .lf, .p]), (.bendMax, some f.maxBend, false, [.r, .rl, .lp, .lf, .p]),
       (.loadMax, some f.loadRatio, false, [.r, .rl, .lf, .p]), (.draftAgreeMax, dis, false, [.r])]
    (∀ e ∈ table, compared f dis e.1 = e.2.1 ∧ (∀ k, applies e.1 k = true ↔ k ∈ e.2.2.2) ∧
      ∀ (st : Settings) (v : Int), st.code = e.1 →
        (failsLimit st v = true ↔ if e.2.2.1 = true then v < st.limit else st.limit < v)) ∧
    (∀ c : Code, c ≠ .none → c ∈ table.map Prod.fst) ∧ ∀ k, applies .none k = false

/-- Judging a routine result (R107, R108): each slot's verdict, the value it was given on (the injected value when the slot
holds one), and its counter and state after, by the rows of the two tables; and the slots that entered ALARM. -/
def Obligations.JudgingMovesSlots : Prop :=
  ∀ (m : Monitor) (slung : Bool) (f : FigureSet) (dis : Option Int),
    let g := judgeAll m slung f dis
    g.judged.length = m.slots.length ∧
    ∀ i o, m.slots[i]? = some o →
      let kind : PassKind := if slung = true then .rl else .r
      let na := o.set.code = .none ∨ inRange m.rangeStart m.rangeStop i = false ∨ applies o.set.code kind = false ∨
        (o.set.code = .draftAgreeMax ∧ dis = none)
      (i ∈ g.entered ↔ o.alarm = false ∧ ∃ j, g.judged[i]? = some j ∧ j.slot.alarm = true) ∧
      (na → g.judged[i]? = some ⟨.na, false, o⟩) ∧
      (∀ c v, ¬ na → compared f dis o.set.code = some c → v = o.injected.getD c →
        let fails := failsLimit o.set v = true
        let recovered := if o.set.code ∈ [Code.gmMin, .area30Min, .area40Min, .area3040Min, .gz30Min, .gzAngleMin] then
          o.set.limit + o.set.hyst ≤ v else v ≤ o.set.limit - o.set.hyst
        let after (alarm : Bool) (count : Nat) : Option Judged :=
          some ⟨if fails then .fail else .pass, o.injected.isSome, { o with alarm := alarm, count := count }⟩
        (o.alarm = false → ¬ fails → g.judged[i]? = after false 0) ∧
        (o.alarm = false → fails → o.count + 1 < o.set.n → g.judged[i]? = after false (o.count + 1)) ∧
        (o.alarm = false → fails → o.set.n ≤ o.count + 1 → g.judged[i]? = after true o.set.n) ∧
        (o.alarm = true → recovered → g.judged[i]? = after false 0) ∧
        (o.alarm = true → ¬ recovered → g.judged[i]? = after true o.set.n))

/-- ROUTINE COMPLETION (R85, R95, R96, R97, R109, R158): with a routine job computing, the figures are judged, the result is
numbered, checked and rotated into LATEST, the sticky sets take the slots that entered ALARM, the monitor is primed, the
effective action and the lines follow, the causes are raised, the interval timer starts again and the engine is free. With
no routine job computing nothing happens (log 5), and with no figure set the model stops (log 24). The bank rotated out is the
former PRIOR (log 14).
The arbiter then starts the next job, at the end of the same step (R80; log 12, DEDUCED). -/
def Obligations.RoutineCompletionJudges : Prop :=
  ∀ s : State,
    ((∀ v cap slung d, s.eval.engine ≠ some ⟨.computing, v, .routine cap slung d⟩) → exec .routineCompletion s = .next s) ∧
    (∀ v cap slung d, s.eval.engine = some ⟨.computing, v, .routine cap slung d⟩ → figureSet s.ship.image cap = none →
      exec .routineCompletion s = .fault .divisorNotPositive) ∧
    (∀ v cap slung d f, s.eval.engine = some ⟨.computing, v, .routine cap slung d⟩ → figureSet s.ship.image cap = some f →
      let dist (a b : Int) : Int := if a < b then b - a else a - b
      let dis : Option Int := if slung = true then none else d.reading.map (fun x =>
        max (dist f.trim.ta (x.1 + d.aftOffset)) (dist f.trim.tf (x.2 + d.fwdOffset)))
      let g := judgeAll s.mon slung f dis
      let seq := if s.eval.lastSeq < 65535 then s.eval.lastSeq + 1 else 1
      let slots := g.judged.map Judged.slot
      let now := effectiveOf slots
      let draft : RoutineResult := ⟨seq, v, decide (s.cond.version ≠ v), g.judged.any Judged.injected, s.ship.image.stationCount, f,
        dis, g.judged.map Judged.verdict, 0, slung⟩
      let union (l : List Nat) : List Nat := (List.range 16).filter (fun i => g.entered.contains i || l.contains i)
      ∃ t, exec .routineCompletion s = .next (arbitrate s.eval t) ∧
        t = { s with
          eval := { s.eval with
            working := s.eval.prior, latest := some { draft with checkWord := resultCheck draft }, prior := s.eval.latest
            lastSeq := seq, engine := none
            intervalTimer := if s.eval.routineMode = .continuous then some s.eval.interval else s.eval.intervalTimer }
          mon := { s.mon with
            slots := slots, sticky := s.mon.sticky.map union, primed := true, effective := now, lastJudged := seq }
          lines := lineLevels s.ship.mode true now
          attn := t.attn } ∧
        t.attn = (let a := attnAfter s now
          (if g.entered = [] then a else a.map (AttnPort.raise .actionRaised)).map (AttnPort.raise .newResult)) ∧
        (∀ p x, x ∈ (t.attn.get p).pending ↔ x = .newResult ∨ (x = .actionRaised ∧ g.entered ≠ []) ∨
          (x = .actionCleared ∧ actionRank now < actionRank s.mon.effective) ∨ x ∈ (s.attn.get p).pending) ∧
        (∀ p, (t.attn.get p).unmasked = (s.attn.get p).unmasked ∧ (t.attn.get p).mode = (s.attn.get p).mode))

/-- The effective action and the lines (R110, R111, R112): the action is that of some slot in ALARM and no slot in ALARM has
a higher one, or NONE with no slot in ALARM; the permits carry one level, asserted only IN SERVICE, primed and below STOP
CRANES; CALARM is asserted exactly for ALARM. -/
def Obligations.EffectiveActionAndLines : Prop :=
  (∀ slots : List Slot,
    (effectiveOf slots = none ↔ ∀ o ∈ slots, o.alarm = false) ∧
    (∀ a, effectiveOf slots = some a → (∃ o ∈ slots, o.alarm = true ∧ o.set.action = a) ∧
      ∀ o ∈ slots, o.alarm = true → actionRank (some o.set.action) ≤ actionRank (some a))) ∧
  (actionRank none < actionRank (some .note) ∧ actionRank (some .note) < actionRank (some .hold) ∧
    actionRank (some .hold) < actionRank (some .stopCranes) ∧ actionRank (some .stopCranes) < actionRank (some .alarm)) ∧
  (∀ (mode : ServiceMode) (primed : Bool) (e : Option Action),
    let l := lineLevels mode primed e
    (l.permit1 = true ↔ mode = .inService ∧ primed = true ∧ e ≠ some .stopCranes ∧ e ≠ some .alarm) ∧
    l.permit2 = l.permit1 ∧ (l.calarm = true ↔ e = some .alarm))

/-- LIFT CHECK COMPLETION (R133, R134, R135): with a lift check computing for a record in CHECKING, the report names the path
case first and its lowest failing slot, else the final case's; with none the record, and a tandem partner's, is GRANTED and
the lead's grant lapse timer starts; otherwise each is IDLE with the report kept; the deferred replies are sent and the
engine is free. With no lift check computing nothing happens (log 5), and with a figure set missing the model stops (log 24).
The arbiter then starts the next job, at the end of the same step (R80; log 12, DEDUCED). -/
def Obligations.LiftCheckDecides : Prop :=
  ∀ s : State,
    ((∀ v c x y, s.eval.engine ≠ some ⟨.computing, v, .lift c x y⟩) → exec .liftCheckCompletion s = .next s) ∧
    (∀ v c x y, s.eval.engine = some ⟨.computing, v, .lift c x y⟩ →
      figureSet s.ship.image x = none ∨ figureSet s.ship.image y = none →
      exec .liftCheckCompletion s = .fault .divisorNotPositive) ∧
    (∀ v lead x y path final, s.eval.engine = some ⟨.computing, v, .lift lead x y⟩ →
      figureSet s.ship.image x = some path → figureSet s.ship.image y = some final → (s.record lead).state = .checking →
      (∀ c q, s.lifts.waiting.get c = some q → q.port = cranePort c) →
      let failure : Option (CheckCase × Nat × Int) :=
        match firstFail 0 (plainCompare s.mon .lp path), firstFail 0 (plainCompare s.mon .lf final) with
        | some z, _ => some (.path, z.1, z.2)
        | none, some z => some (.final, z.1, z.2)
        | none, none => none
      let r : CheckReport := ⟨failure, v, decide (s.cond.version ≠ v), path.flags, final.flags, path.stab.heel, final.stab.heel⟩
      let judged (c : Crane) : Prop := c = lead ∨ (liftRole (s.record lead) = some .lead ∧
        liftRole (s.record c) = some .partner ∧ (s.record c).state = .checking)
      let lapse : RunningTimer := ⟨.grantLapse, s.ship.image.timerLengths.grantLapse.toNat⟩
      ∃ t, exec .liftCheckCompletion s = .next (arbitrate s.eval t) ∧
        t = { s with lifts := t.lifts, ports := t.ports, eval := { s.eval with engine := none } } ∧ t.lifts.ended = s.lifts.ended ∧
        (∀ c, judged c → t.lifts.waiting.get c = none ∧
          (failure = none → t.record c = { s.record c with
            state := .granted, report := some r, timer := if c = lead then some lapse else none }) ∧
          (failure ≠ none → t.record c = ⟨.idle, none, none, false, some r, none⟩)) ∧
        (∀ c, ¬ judged c → t.record c = s.record c ∧ t.lifts.waiting.get c = s.lifts.waiting.get c) ∧
        t.ports.p = s.ports.p ∧ t.ports.b = s.ports.b ∧
        (∀ c q, judged c → s.lifts.waiting.get c = some q → (s.ports.get (cranePort c)).deferred = some q →
          t.ports.get (cranePort c) = { s.ports.get (cranePort c) with
            deferred := none
            tx := (s.ports.get (cranePort c)).tx ++ [⟨⟨replyKind q.kind, q.tag,
              ⟨if failure = none then .granted else .refusedLimit, .checkReport r⟩⟩, some q.mark⟩] }) ∧
        (∀ c, ¬ judged c ∨ s.lifts.waiting.get c = none ∨ (s.ports.get (cranePort c)).deferred ≠ s.lifts.waiting.get c →
          t.ports.get (cranePort c) = s.ports.get (cranePort c)))

/-- PROSPECT COMPLETION (R101, R174, R175): with a prospective job computing, the record is written with the next number, and
then the deferred reply is sent with every field but the figures and with the three ratios. With none computing nothing
happens (log 5), and with no figure set the model stops (log 24).
The arbiter then starts the next job, at the end of the same step (R80; log 12, DEDUCED). -/
def Obligations.ProspectCompletionWrites : Prop :=
  ∀ s : State,
    ((∀ v sc cap d a k b q, s.eval.engine ≠ some ⟨.computing, v, .prospect sc cap d a k b q⟩) →
      exec .prospectCompletion s = .next s) ∧
    (∀ v sc cap d a k b q, s.eval.engine = some ⟨.computing, v, .prospect sc cap d a k b q⟩ → figureSet s.ship.image cap = none →
      exec .prospectCompletion s = .fault .divisorNotPositive) ∧
    (∀ v sc cap depth applied skipped lost q f, s.eval.engine = some ⟨.computing, v, .prospect sc cap depth applied skipped lost q⟩ →
      figureSet s.ship.image cap = some f →
      let vs := plainCompare s.mon .p f
      let seq := if s.eval.lastProspectSeq < 65535 then s.eval.lastProspectSeq + 1 else 1
      let h : ProspectHeader := ⟨seq, sc, v, decide (s.cond.version ≠ v), lost, depth, applied, skipped, f.flags,
        s.ship.image.stationCount, vs.map Prod.fst, (vs.filter (fun z => z.1 == .fail)).length, firstFail 0 vs, f.loadRatio,
        f.maxShear, f.maxBend⟩
      exec .prospectCompletion s = .next (arbitrate s.eval { s with
        eval := { s.eval with prospect := some ⟨h, f⟩, lastProspectSeq := seq, engine := none }
        ports := if (s.ports.get q.port).deferred = some q then s.ports.modify q.port (fun z => { z with
            deferred := none, tx := z.tx ++ [⟨⟨replyKind q.kind, q.tag, ⟨.done, .prospect h⟩⟩, some q.mark⟩] })
          else s.ports }))

/-! ### The limit monitor -/

/-- SET CRITERION (R116): the refusals; NONE makes the slot unused; another code replaces the settings, a new code drops the
injected value, a CLEAR slot's counter is cut to the new N and a slot in ALARM takes it; the effective action and the lines
follow, ACTION RAISED or ACTION CLEARED is raised for a rise or a fall, and a routine request in the CONTINUOUS mode. That a
refusal carries the effective action too is the model's reading (log 21).
The arbiter then acts on a job request that it raised, at the end of the same step (R80; log 12, DEDUCED). -/
def Obligations.SetCriterionReplacesSettings : Prop :=
  ∀ (tag : Byte) (i : Nat) (code : Option Code) (limit hyst n : Int) (action : Option Action) (s : State), Serving s .portP →
    let run := exec (.setCriterion .portP tag i code limit hyst n action) s
    let outside := limit < -1000000 ∨ 1000000 < limit ∨ hyst < 0 ∨ 100000 < hyst ∨ n < 1 ∨ 8 < n ∨ action = none
    (16 ≤ i ∨ code = none ∨ (code ≠ some .none ∧ outside) →
      run = answersOnly s .portP .setCriterion tag ⟨.badArgument, .setting s.mon.effective⟩) ∧
    (∀ c o, i < 16 → code = some c → s.mon.slots[i]? = some o → c = .none ∨ ¬ outside →
      let slot : Slot :=
        if c = .none then ⟨⟨.none, 0, 0, 1, .note⟩, false, 0, none⟩
        else ⟨⟨c, limit, hyst, n.toNat, action.getD .note⟩, o.alarm,
              if o.alarm = true then n.toNat else if o.count ≤ n.toNat then o.count else n.toNat,
              if c = o.set.code then o.injected else none⟩
      let slots := s.mon.slots.set i slot
      let now := effectiveOf slots
      ∃ t, run = .next (arbitrate s.eval t) ∧
        t = { s with
          mon := { s.mon with slots := slots, effective := now }
          lines := lineLevels s.ship.mode s.mon.primed now
          eval := routineRaised s
          attn := t.attn
          ports := answeredPorts s .portP .setCriterion tag ⟨.done, .setting now⟩ } ∧
        t.attn = (if actionRank s.mon.effective < actionRank now then s.attn.map (AttnPort.raise .actionRaised)
          else attnAfter s now) ∧
        (∀ p x, x ∈ (t.attn.get p).pending ↔ (x = .actionRaised ∧ actionRank s.mon.effective < actionRank now) ∨
          (x = .actionCleared ∧ actionRank now < actionRank s.mon.effective) ∨ x ∈ (s.attn.get p).pending))

/-- SET RANGE (R117): an index outside 0..15 is refused; otherwise the range is stored, the slots that leave the effective
range become CLEAR with counter 0, the effective action and the lines follow, and the reply carries the new effective
range: start..stop, or the start alone when it exceeds the stop (R106). That a refusal carries the effective action too is the
model's reading (log 21, DEDUCED).
The arbiter then acts on a job request that it raised, at the end of the same step (R80; log 12, DEDUCED). -/
def Obligations.SetRangeClearsLeavers : Prop :=
  ∀ (tag : Byte) (start stop : Nat) (s : State), Serving s .portP →
    let run := exec (.setRange .portP tag start stop) s
    let inside (a b i : Nat) : Prop := if a ≤ b then a ≤ i ∧ i ≤ b else i = a
    (16 ≤ start ∨ 16 ≤ stop → run = answersOnly s .portP .setRange tag ⟨.badArgument, .setting s.mon.effective⟩) ∧
    (start < 16 → stop < 16 → ∃ t, run = .next (arbitrate s.eval t) ∧
      t = { s with
        mon := { s.mon with slots := t.mon.slots, rangeStart := start, rangeStop := stop, effective := effectiveOf t.mon.slots }
        lines := lineLevels s.ship.mode s.mon.primed (effectiveOf t.mon.slots)
        eval := routineRaised s
        attn := attnAfter s (effectiveOf t.mon.slots)
        ports := answeredPorts s .portP .setRange tag
          ⟨.done, .range start (if start ≤ stop then stop else start) (effectiveOf t.mon.slots)⟩ } ∧
      t.mon.slots.length = s.mon.slots.length ∧
      ∀ i o, s.mon.slots[i]? = some o →
        (inside s.mon.rangeStart s.mon.rangeStop i ∧ ¬ inside start stop i →
          t.mon.slots[i]? = some { o with alarm := false, count := 0 }) ∧
        (¬ (inside s.mon.rangeStart s.mon.rangeStop i ∧ ¬ inside start stop i) → t.mon.slots[i]? = some o))

/-- RESET SLOT, INJECT and WITHDRAW (R118, R119): an index outside 0..15, or an injected value outside its range, is refused;
RESET SLOT makes the slot CLEAR with counter 0 and tells its state before, with no routine request; the injected value is
set or removed and the alarm states stay, with a routine request in the CONTINUOUS mode. That a refusal carries the effective
action too is the model's reading (log 21, DEDUCED).
READ ALARMS and READ CRITERION, from any port (R120, R121): the states, counters, injected markers, the port's own sticky
set, the effective action, the priming, the effective range and the number last judged; the slots reported CLEAR then leave
that port's set and no other's; and the settings and state of one slot.
The arbiter then acts on a job request that it raised, at the end of the same step (R80; log 12, DEDUCED). -/
def Obligations.MonitorSettingsAndReads : Prop :=
  (∀ (tag : Byte) (i : Nat) (v : Int) (s : State), Serving s .portP →
     let no (k : ReqKind) := answersOnly s .portP k tag ⟨.badArgument, .setting s.mon.effective⟩
     (16 ≤ i → exec (.resetSlot .portP tag i) s = no .resetSlot ∧ exec (.withdraw .portP tag i) s = no .withdraw) ∧
     (16 ≤ i ∨ v < -1000000 ∨ 1000000 < v → exec (.inject .portP tag i v) s = no .inject) ∧
     (∀ o, i < 16 → s.mon.slots[i]? = some o →
       let slots := s.mon.slots.set i { o with alarm := false, count := 0 }
       let kept (w : Option Int) (k : ReqKind) : Host.Outcome State Fault Refusal := .next (arbitrate s.eval { s with
         mon := { s.mon with slots := s.mon.slots.set i { o with injected := w } }
         eval := routineRaised s
         ports := answeredPorts s .portP k tag ⟨.done, .setting s.mon.effective⟩ })
       (exec (.resetSlot .portP tag i) s = .next { s with
         mon := { s.mon with slots := slots, effective := effectiveOf slots }
         lines := lineLevels s.ship.mode s.mon.primed (effectiveOf slots)
         attn := attnAfter s (effectiveOf slots)
         ports := answeredPorts s .portP .resetSlot tag ⟨.done, .slotWas o.alarm (effectiveOf slots)⟩ }) ∧
       (-1000000 ≤ v → v ≤ 1000000 → exec (.inject .portP tag i v) s = kept (some v) .inject) ∧
       exec (.withdraw .portP tag i) s = kept none .withdraw)) ∧
  (∀ (p : Port) (tag : Byte) (i : Nat) (s : State), Serving s p →
     let a := s.mon.rangeStart
     let b := s.mon.rangeStop
     exec (.readAlarms p tag) s = .next { s with
       mon := { s.mon with sticky := (s.mon.sticky.set p
         ((s.mon.sticky.get p).filter (fun j => (s.mon.slots[j]?.map Slot.alarm) == some true))) }
       ports := answeredPorts s p .readAlarms tag ⟨.done, .alarms
         ⟨s.mon.slots.map (fun o => (o.alarm, o.count)), s.mon.slots.map (fun o => o.injected.isSome), s.mon.sticky.get p,
          s.mon.effective, s.mon.primed, (a, if a ≤ b then b else a), s.mon.lastJudged⟩⟩ } ∧
     (16 ≤ i → exec (.readCriterion p tag i) s = answersOnly s p .readCriterion tag ⟨.badArgument, .statusOnly⟩) ∧
     (∀ o, i < 16 → s.mon.slots[i]? = some o → exec (.readCriterion p tag i) s = answersOnly s p .readCriterion tag
       ⟨.done, .criterion o (if a ≤ b then decide (a ≤ i ∧ i ≤ b) else decide (i = a))⟩))

/-! ### Planning services -/

/-- FIND SPACE (R164, R165): the malformed requests; the walk from the first number up over the compartments of the wanted
kinds, past the closed ones or ending at the first, ending at the first whose remaining capacity meets the test, with the
count compared; nothing changes. R164 names the kinds and does not number them: that the kind set is a list of numbers, 1 HOLD,
2 TWEEN and 3 DECK, and that any other number is refused, is the model's reading (log 33, DEDUCED). -/
def Obligations.FindSpaceWalks : Prop :=
  (∀ (tag : Byte) (first last : Nat) (mass : Int) (mode : Option FindMode) (skip : Bool) (kinds : List Nat) (s : State),
    Serving s .portP →
    let run := exec (.findSpace .portP tag first last mass mode skip kinds) s
    let bad := mode = none ∨ kinds = [] ∨ (∃ k ∈ kinds, k < 1 ∨ 3 < k) ∨ 96 ≤ first ∨ 96 ≤ last ∨ mass < 0 ∨ 1000000 < mass ∨
      last < first
    (bad → run = answersOnly s .portP .findSpace tag ⟨.badArgument, .statusOnly⟩) ∧
    (∀ m, ¬ bad → mode = some m → ∃ f n, run = answersOnly s .portP .findSpace tag ⟨.done, .finding f n s.cond.version⟩ ∧
      let left (c : Nat) : Int := (match s.ship.image.stowComp c with | some (_, _, x) => x | none => 0) - s.plannedLoad c
      let wanted (c : Nat) : Bool := (s.ship.image.stowComp c).any (fun x => kinds.contains (stowNumber x.2.1))
      let shut (c : Nat) : Bool := decide ((s.comp c).flag = .closed)
      let meets (c : Nat) : Prop := match m with
        | .atLeast => mass ≤ left c
        | .atMost => 0 ≤ left c ∧ left c ≤ mass
        | .equal => left c = mass
      let passes (c : Nat) : Prop := wanted c = false ∨ (shut c = true ∧ skip = true) ∨ (shut c = false ∧ ¬ meets c)
      let counted (lo hi : Nat) : Nat := ((List.range' lo (hi - lo)).filter (fun c => wanted c && !shut c)).length
      (∀ c r q, f = .hit c r q → first ≤ c ∧ c ≤ last ∧ wanted c = true ∧ shut c = false ∧ meets c ∧ r = left c ∧
        q = s.plannedLoad c ∧ (∀ d, first ≤ d → d < c → passes d) ∧ n = counted first (c + 1)) ∧
      (∀ c, f = .closedMet c → first ≤ c ∧ c ≤ last ∧ wanted c = true ∧ shut c = true ∧ skip = false ∧
        (∀ d, first ≤ d → d < c → passes d) ∧ n = counted first c) ∧
      (f = .notFound → (∀ d, first ≤ d → d ≤ last → passes d) ∧ n = counted first (last + 1))))

/-- PUSH TRIAL (R169, R170): the tests of the layer in order; then the layer is on top, with a fill above 1000 stored as 1000
and CLAMPED answered; a full stack of 8 drops its bottom layer, sets BASE LOST and tells which.
Which goals are well formed (R126, R141, R169): ASHORE, and a placement with its coordinates in x -500..19500, y
-2500..2500 and z 0..5000; test 1 of R169 names no other field.
POP TRIAL, CLEAR TRIALS and READ TRIALS (R171, R172): the top layer taken off, or EMPTY; the stack emptied with its count;
BASE LOST cleared with the last layer; and, from any port, the layers with whether each would be skipped. -/
def Obligations.TrialStackPushesAndPops : Prop :=
  (∀ (tag : Byte) (s : State), Serving s .portP →
     let run (a : LayerArg) := exec (.pushTrial .portP tag a) s
     let no (st : Status) := answersOnly s .portP .pushTrial tag ⟨st, .statusOnly⟩
     let full := 8 ≤ s.trials.layers.length
     let pushed (st : Status) (l : Layer) : Host.Outcome State Fault Refusal := .next { s with
       trials := if full then ⟨s.trials.layers.drop 1 ++ [l], true⟩ else ⟨s.trials.layers ++ [l], s.trials.baseLost⟩
       ports := answeredPorts s .portP .pushTrial tag ⟨st, if full then
           .pushed s.trials.layers.length true s.trials.layers.head?
         else .pushed (s.trials.layers.length + 1) s.trials.baseLost none⟩ }
     run .neither = no .badArgument ∧
     (∀ item g,
       (item = 0 ∨ goalOk g = false → run (.item item g) = no .badArgument) ∧
       (item ≠ 0 → goalOk g = true → s.item item = none → run (.item item g) = no .noSuchItem) ∧
       (∀ pl, item ≠ 0 → goalOk g = true → s.item item ≠ none → g = .place pl → geometrySound s.ship.image pl = false →
         run (.item item g) = no .badPlacement) ∧
       (item ≠ 0 → goalOk g = true → s.item item ≠ none →
         g = .ashore ∨ (∃ pl, g = .place pl ∧ geometrySound s.ship.image pl = true) → run (.item item g) = pushed .done (.item item g))) ∧
     (∀ n fill,
       (fill < 0 ∨ 65535 < fill ∨ s.ship.image.isTank n = false → run (.tank n fill) = no .badArgument) ∧
       (0 ≤ fill → fill ≤ 1000 → s.ship.image.isTank n = true → run (.tank n fill) = pushed .done (.tank n fill.toNat)) ∧
       (1000 < fill → fill ≤ 65535 → s.ship.image.isTank n = true → run (.tank n fill) = pushed .clamped (.tank n 1000)))) ∧
  (∀ g : Goal, goalOk g = true ↔ g = .ashore ∨ ∃ pl, g = .place pl ∧ -500 ≤ pl.xAft ∧ pl.xAft ≤ 19500 ∧ -500 ≤ pl.xFore ∧
     pl.xFore ≤ 19500 ∧ -2500 ≤ pl.y ∧ pl.y ≤ 2500 ∧ 0 ≤ pl.z ∧ pl.z ≤ 5000) ∧
  (∀ (tag : Byte) (s : State),
     (Serving s .portP → s.trials.layers = [] → exec (.popTrial .portP tag) s = answersOnly s .portP .popTrial tag ⟨.empty, .statusOnly⟩) ∧
     (∀ below l, Serving s .portP → s.trials.layers = below ++ [l] →
       let lost := if below = [] then false else s.trials.baseLost
       exec (.popTrial .portP tag) s = .next { s with
         trials := ⟨below, lost⟩
         ports := answeredPorts s .portP .popTrial tag ⟨.done, .popped l below.length lost⟩ }) ∧
     (Serving s .portP → exec (.clearTrials .portP tag) s = .next { s with
         trials := ⟨[], false⟩
         ports := answeredPorts s .portP .clearTrials tag ⟨.done, .cleared s.trials.layers.length⟩ }) ∧
     (∀ p, Serving s p → exec (.readTrials p tag) s = answersOnly s p .readTrials tag ⟨.done,
       .trials s.trials.layers.length s.trials.baseLost
         (s.trials.layers.map (fun l => (l, match l with
           | .tank _ _ => false
           | .item t _ => (match s.item t with | none => true | some it => it.state == .slung)))) s.cond.version⟩))

/-! ### Draft readings -/

/-- DRAFTS, READ DRAFTS and the passing of the freshness limit (R155, R156, R157): a reading in 0..5000 replaces the held one
at age 0 and the reply carries the limit; the read tells the reading, its freshness, the limit, the offsets and the
corrected drafts; and a fresh reading that passes the limit is one second past it (log 29).
DRAFT ZERO (R161, R162): NO READING without a fresh reading, NO RESULT with LATEST empty, LIFTS ACTIVE while an item is
SLUNG or LATEST was captured with one; otherwise each offset is the computed draft less the measured one, brought into
-50..50, with CLAMPED when either was changed by that. -/
def Obligations.DraftReadingsAndZero : Prop :=
  (∀ (tag : Byte) (s : State),
     let limit := s.ship.image.timerLengths.freshness
     (∀ aft fwd, Serving s .portB → aft < 0 ∨ 5000 < aft ∨ fwd < 0 ∨ 5000 < fwd →
       exec (.drafts .portB tag aft fwd) s = answersOnly s .portB .drafts tag ⟨.badArgument, .statusOnly⟩) ∧
     (∀ aft fwd, Serving s .portB → 0 ≤ aft → aft ≤ 5000 → 0 ≤ fwd → fwd ≤ 5000 →
       exec (.drafts .portB tag aft fwd) s = .next { s with
         tanks := { s.tanks with reading := some ⟨aft, fwd, 0⟩ }
         ports := answeredPorts s .portB .drafts tag ⟨.done, .freshness limit⟩ }) ∧
     (∀ p, Serving s p → exec (.readDrafts p tag) s = answersOnly s p .readDrafts tag ⟨.done, .drafts
       ⟨s.tanks.reading, (match s.tanks.reading with | some r => decide ((r.age : Int) ≤ limit) | none => false), limit,
        s.tanks.aftOffset, s.tanks.fwdOffset,
        match s.tanks.reading with
          | some r => some (r.aft + s.tanks.aftOffset, r.fwd + s.tanks.fwdOffset)
          | none => none⟩ s.cond.version⟩) ∧
     (∀ r, s.tanks.reading = some r → (r.age : Int) ≤ limit → exec .draftReadingStale s = .next { s with
       tanks := { s.tanks with reading := some { r with age := limit.toNat + 1 } } }) ∧
     ((∀ r, s.tanks.reading = some r → limit < (r.age : Int)) → exec .draftReadingStale s = .next s)) ∧
  (∀ (tag : Byte) (s : State), Serving s .portB →
     let run := exec (.draftZero .portB tag) s
     let no (st : Status) := answersOnly s .portB .draftZero tag ⟨st, .statusOnly⟩
     let limit := s.ship.image.timerLengths.freshness
     let slung := ∃ e ∈ s.cond.items, e.2.state = .slung
     let clip (v : Int) : Int := if v < -50 then -50 else if 50 < v then 50 else v
     ((∀ d, s.tanks.reading = some d → limit < (d.age : Int)) → run = no .noReading) ∧
     (∀ d, s.tanks.reading = some d → (d.age : Int) ≤ limit → s.eval.latest = none → run = no .noResult) ∧
     (∀ d r, s.tanks.reading = some d → (d.age : Int) ≤ limit → s.eval.latest = some r → slung ∨ r.slung = true →
       run = no .liftsActive) ∧
     (∀ d r, s.tanks.reading = some d → (d.age : Int) ≤ limit → s.eval.latest = some r → ¬ slung → r.slung = false →
       let a := r.figures.trim.ta - d.aft
       let f := r.figures.trim.tf - d.fwd
       run = .next { s with
         tanks := { s.tanks with aftOffset := clip a, fwdOffset := clip f }
         ports := answeredPorts s .portB .draftZero tag ⟨if clip a = a ∧ clip f = f then .done else .clamped,
           .zeroed (clip a) (clip f) r.seq r.figures.trim.ta r.figures.trim.tf d.aft d.fwd⟩ }))

/-! ### Lift clearance -/

/-- LIFT REQUEST from a crane port (R126, R127, R128): the tests of form, the checks in their order, and acceptance: a single
lift in CHECKING with its check raised in the port's slot, or a tandem lead in JOINING with the join window started; the
reply is deferred, and the origin is the actual placement, or ASHORE. That a destination's compartment number beyond 95 is no
fault of form is the model's choice (log 37, DESIGN CHOICE).
The lengths of the timers, here and in the statements on hook reports, expiries and draft readings: those of the image's
TIMERS record, or the defaults of R8 without one.
The arbiter then acts on a job request that it raised, at the end of the same step (R80; log 12, DEDUCED). -/
def Obligations.LiftRequestIsTestedAndTaken : Prop :=
  (∀ (c : Crane) (tag : Byte) (item : Nat) (dest : Option Goal) (outreach hook : Point) (partner : Option PortRef)
     (share : Option Nat) (s : State), Serving s (cranePort c) →
     let p := cranePort c
     let run := exec (.liftRequest p tag item dest outreach hook partner share) s
     let no (st : Status) := answersOnly s p .liftRequest tag ⟨st, .statusOnly⟩
     let inRange (q : Point) : Prop := -500 ≤ q.x ∧ q.x ≤ 19500 ∧ -2500 ≤ q.y ∧ q.y ≤ 2500 ∧ 0 ≤ q.z ∧ q.z ≤ 5000
     let destOk : Prop := dest = some .ashore ∨ ∃ pl, dest = some (.place pl) ∧ inRange ⟨pl.xAft, pl.y, pl.z⟩ ∧
       inRange ⟨pl.xFore, pl.y, pl.z⟩
     let shareOk : Prop := (partner = none ∧ share = none) ∨ (partner ≠ none ∧ ∃ n, share = some n ∧ 100 ≤ n ∧ n ≤ 900)
     let formed := destOk ∧ inRange outreach ∧ inRange hook ∧ shareOk
     let own := s.record c
     let other := s.record (otherCrane c)
     let clear := own.state = .idle ∧ s.anySilent = false ∧ actionRank s.mon.effective < 2
     (¬ formed → run = no .badArgument) ∧
     (formed → own.state = .done → run = no .outcomePending) ∧
     (formed → own.state ≠ .done → own.state ≠ .idle → run = no .busy) ∧
     (formed → own.state = .idle → s.anySilent = true → run = no .silentLift) ∧
     (formed → own.state = .idle → s.anySilent = false → 2 ≤ actionRank s.mon.effective → run = no .held) ∧
     (formed → clear → s.item item = none → run = no .noSuchItem) ∧
     (∀ it g, formed → clear → s.item item = some it → dest = some g →
       let busy := it.state = .slung ∨ recordNames other item = true
       let offPlan := ∃ h, it.plan = some h ∧ h ≠ g
       let invalid := ∃ pl, g = .place pl ∧ placementValid s .liftDest item pl = false
       let origin : Goal := match it.actual with | some pl => .place pl | none => .ashore
       let lift (role : LiftRole) : Lift := ⟨item, origin, g, outreach, some hook, role, share⟩
       (it.kind = .constant → run = no .notLiftable) ∧
       (it.kind = .cargo → busy → run = no .itemBusy) ∧
       (it.kind = .cargo → ¬ busy → s.overstowed item = true → run = no .overstowed) ∧
       (it.kind = .cargo → ¬ busy → s.overstowed item = false → offPlan → run = no .offPlan) ∧
       (it.kind = .cargo → ¬ busy → s.overstowed item = false → ¬ offPlan → invalid → run = no .badPlacement) ∧
       (it.kind = .cargo → ¬ busy → s.overstowed item = false → ¬ offPlan → ¬ invalid → partner ≠ none →
         partner ≠ some (.port (cranePort (otherCrane c))) → run = no .partner) ∧
       (it.kind = .cargo → ¬ busy → s.overstowed item = false → ¬ offPlan → ¬ invalid → partner = none →
         run = .next (arbitrate s.eval { s with
           lifts := { s.lifts with
             records := s.lifts.records.set c ⟨.checking, some (lift .single), none, false, none, none⟩
             waiting := s.lifts.waiting.set c (some (nextCaller s p 0x40 tag)) }
           eval := match c with
             | .crane1 => { s.eval with slotC1 := some s.eval.raiseClock, raiseClock := s.eval.raiseClock + 1 }
             | .crane2 => { s.eval with slotC2 := some s.eval.raiseClock, raiseClock := s.eval.raiseClock + 1 }
           ports := deferredPorts s p .liftRequest tag })) ∧
       (it.kind = .cargo → ¬ busy → s.overstowed item = false → ¬ offPlan → ¬ invalid →
         partner = some (.port (cranePort (otherCrane c))) →
         run = .next { s with
           lifts := { s.lifts with
             records := s.lifts.records.set c ⟨.joining, some (lift .lead),
               some ⟨.joinWindow, s.ship.image.timerLengths.joinWindow.toNat⟩, false, none, none⟩
             waiting := s.lifts.waiting.set c (some (nextCaller s p 0x40 tag)) }
           ports := deferredPorts s p .liftRequest tag }))) ∧
  (∀ img : Image,
     (img.timers = none → img.timerLengths.joinWindow = 10 ∧ img.timerLengths.grantLapse = 120 ∧
       img.timerLengths.report = 10 ∧ img.timerLengths.freshness = 30) ∧
     (∀ r, img.timers = some r → img.timerLengths = r))

/-- JOIN LIFT from a crane port (R130): the tests in their order; then the lead's window stops, the partner takes the lead's
lift with its own outreach point and no hook point, both records are CHECKING, one check is raised in the lead's slot, and
the reply is deferred.
The arbiter then acts on a job request that it raised, at the end of the same step (R80; log 12, DEDUCED). -/
def Obligations.JoinLiftIsTestedAndTaken : Prop :=
  ∀ (c : Crane) (tag : Byte) (leadRef : PortRef) (item : Nat) (outreach : Point) (s : State), Serving s (cranePort c) →
    let p := cranePort c
    let run := exec (.joinLift p tag leadRef item outreach) s
    let no (st : Status) := answersOnly s p .joinLift tag ⟨st, .statusOnly⟩
    let formed := -500 ≤ outreach.x ∧ outreach.x ≤ 19500 ∧ -2500 ≤ outreach.y ∧ outreach.y ≤ 2500 ∧ 0 ≤ outreach.z ∧
      outreach.z ≤ 5000
    let own := s.record c
    let lead := s.record (otherCrane c)
    let joins (l : Lift) : Prop := leadRef = .port (cranePort (otherCrane c)) ∧ lead.state = .joining ∧ lead.lift = some l ∧ l.tag = item
    (¬ formed → run = no .badArgument) ∧
    (formed → (∀ l, ¬ joins l) → run = no .noSuchLift) ∧
    (∀ l, formed → joins l →
      (own.state = .done → run = no .outcomePending) ∧
      (own.state ≠ .done → own.state ≠ .idle → run = no .busy) ∧
      (own.state = .idle → s.anySilent = true → run = no .silentLift) ∧
      (own.state = .idle → s.anySilent = false → 2 ≤ actionRank s.mon.effective → run = no .held) ∧
      (own.state = .idle → s.anySilent = false → actionRank s.mon.effective < 2 →
        run = .next (arbitrate s.eval { s with
          lifts := { s.lifts with
            records := (s.lifts.records.set (otherCrane c) { lead with state := .checking, timer := none }).set c
              ⟨.checking, some { l with outreach := outreach, hook := none, role := .partner }, none, false, none, none⟩
            waiting := s.lifts.waiting.set c (some (nextCaller s p 0x41 tag)) }
          eval := match otherCrane c with
            | .crane1 => { s.eval with slotC1 := some s.eval.raiseClock, raiseClock := s.eval.raiseClock + 1 }
            | .crane2 => { s.eval with slotC2 := some s.eval.raiseClock, raiseClock := s.eval.raiseClock + 1 }
          ports := deferredPorts s p .joinLift tag })))

/-- HOOK ON and HOOK AT at once (R137, R138, R139): the tests in their order; then the item of the lift is SLUNG and out of
its compartment, the record is SLUNG at the hook point with its report timer, and a tandem partner is SLUNG at its own
outreach point; or the reporting record's hook point alone moves.
What the arrival of a hook report or a landing does, whether it is applied at once or held: HOOK ON stops the grant lapse
timer of a single or lead record in GRANTED; HOOK AT and LANDED start a SLUNG record's report timer again and clear its
SILENT mark, and SILENT LIFT ends with the last mark (R137, R140, R188). No other change's arrival does anything.
A hook report with a coordinate out of range is BAD ARGUMENT, during a capture as well, and is neither held nor applied (R36,
R137, R139); that it touches no timer and no SILENT mark either, as if it had not arrived, while one answered BUSY has arrived
and does, is the model's reading (log 20, DEDUCED).
The arbiter then acts on a job request that it raised, at the end of the same step (R80; log 12, DEDUCED). -/
def Obligations.HookReportsApply : Prop :=
  (∀ (c : Crane) (tag : Byte) (q : Point) (s : State), Applying s (cranePort c) → pointOk q = true →
     let p := cranePort c
     let r := s.record c
     let on := exec (.hookOn p tag q) s
     let at' := exec (.hookAt p tag q) s
     let done : Answer := ⟨.done, .version (s.cond.version + 1)⟩
     let report : RunningTimer := ⟨.report, s.ship.image.timerLengths.report.toNat⟩
     (liftRole r = some .partner → on = refusesOnly s p .hookOn tag .notLead) ∧
     (liftRole r ≠ some .partner → r.state ≠ .granted → on = refusesOnly s p .hookOn tag .noSuchLift) ∧
     (∀ l it, r.state = .granted → r.lift = some l → l.role ≠ .partner → s.item l.tag = some it →
       let x := s.record (otherCrane c)
       let tandem := l.role = .lead ∧ liftRole x = some .partner ∧ x.state = .granted
       let own : LiftRecord := { r with state := .slung, lift := some { l with hook := some q }, timer := some report }
       let beside : LiftRecord := match x.lift with
         | some k => { x with state := .slung, lift := some { k with hook := some k.outreach }, timer := some report }
         | none => x
       on = .next (arbitrate s.eval { s with
         cond := { s.cond with
           items := s.cond.items.put l.tag { it with state := .slung, actual := none, link := some c }
           comps := match it.state, it.actual with
             | .aboard, some pl => s.cond.comps.store .empty pl.comp
                 ⟨(s.comp pl.comp).flag, (s.comp pl.comp).load - it.mass, (s.comp pl.comp).stow.filter (fun t => t != l.tag)⟩
             | _, _ => s.cond.comps
           version := s.cond.version + 1 }
         eval := routineRaised s
         lifts := { s.lifts with records := if tandem then (s.lifts.records.set (otherCrane c) beside).set c own
           else s.lifts.records.set c own }
         ports := answeredPorts s p .hookOn tag done })) ∧
     (r.state ≠ .slung → at' = refusesOnly s p .hookAt tag .noSuchLift) ∧
     (∀ l, r.state = .slung → r.lift = some l → at' = .next (arbitrate s.eval { s with
         cond := { s.cond with version := s.cond.version + 1 }
         eval := routineRaised s
         lifts := { s.lifts with records := (s.lifts.records.set c
           { r with lift := some { l with hook := some q }, timer := some report, silent := false }) }
         attn := if r.silent = true ∧ (s.record (otherCrane c)).silent = false then s.attn.map (AttnPort.remove .silentLift)
           else s.attn
         ports := answeredPorts s p .hookAt tag done }))) ∧
  (∀ (c : Crane) (ch : Change) (s : State),
     let r := s.record c
     let again : RunningTimer := ⟨.report, s.ship.image.timerLengths.report.toNat⟩
     let others := (s.record (otherCrane c)).silent
     let reported := (∃ q, ch = .hookAt q) ∨ (∃ g, ch = .landed g)
     (∀ q, ch = .hookOn q → r.state = .granted → liftRole r ≠ some .partner →
       changeArrives (cranePort c) ch s = { s with
         lifts := { s.lifts with records := s.lifts.records.set c { r with timer := none } } }) ∧
     (∀ q, ch = .hookOn q → r.state ≠ .granted ∨ liftRole r = some .partner → changeArrives (cranePort c) ch s = s) ∧
     (reported → r.state = .slung →
       changeArrives (cranePort c) ch s = { s with
         lifts := { s.lifts with records := s.lifts.records.set c { r with timer := some again, silent := false } }
         attn := if r.silent = true ∧ others = false then s.attn.map (AttnPort.remove .silentLift) else s.attn }) ∧
     (reported → r.state ≠ .slung → changeArrives (cranePort c) ch s = s) ∧
     (¬ reported → (∀ q, ch ≠ .hookOn q) → changeArrives (cranePort c) ch s = s)) ∧
  (∀ (c : Crane) (tag : Byte) (q : Point) (s : State), Serving s (cranePort c) →
     let inRange := -500 ≤ q.x ∧ q.x ≤ 19500 ∧ -2500 ≤ q.y ∧ q.y ≤ 2500 ∧ 0 ≤ q.z ∧ q.z ≤ 5000
     (pointOk q = true ↔ inRange) ∧
     (¬ inRange → exec (.hookOn (cranePort c) tag q) s = refusesOnly s (cranePort c) .hookOn tag .badArgument ∧
       exec (.hookAt (cranePort c) tag q) s = refusesOnly s (cranePort c) .hookAt tag .badArgument))

/-- LANDED at once (R141, R142, R143, R144): NOT LEAD and NO SUCH LIFT; otherwise the item is ABOARD at the final placement,
or deleted for ASHORE, the record and a tandem partner are DONE with the outcome of R142, OUTCOME READY is raised on their
ports, and the reply carries the outcome, the final placement and the new version.
A landing that is neither a placement nor ASHORE, or with a coordinate out of range, is BAD ARGUMENT, during a capture as
well, and is neither held nor applied (R36, R141); that it leaves the report timer and the SILENT mark as they were too, as if
it had not arrived, is the model's reading (log 20, DEDUCED). A compartment number beyond the image is no such fault (log 37,
DESIGN CHOICE).
The arbiter then acts on a job request that it raised, at the end of the same step (R80; log 12, DEDUCED). -/
def Obligations.LandedSetsDown : Prop :=
  (∀ (c : Crane) (tag : Byte) (g : Goal) (s : State), Applying s (cranePort c) → goalOk g = true →
     let p := cranePort c
     let r := s.record c
     let run := exec (.landed p tag (some g)) s
     (liftRole r = some .partner →
       run = refusesOnly (changeArrives p (.landed (some g)) s) p .landed tag .notLead) ∧
     (liftRole r ≠ some .partner → r.state ≠ .slung → run = refusesOnly s p .landed tag .noSuchLift) ∧
     (∀ l it, r.state = .slung → r.lift = some l → l.role ≠ .partner → s.item l.tag = some it → it.state = .slung →
       let x := s.record (otherCrane c)
       let tandem := l.role = .lead ∧ liftRole x = some .partner ∧ x.state = .slung
       let o := landingOutcome s l g
       let landed (it' : ItemRecord) (pl : Placement) : Condition := { s.cond with
         items := s.cond.items.put l.tag it'
         comps := s.cond.comps.store .empty pl.comp
           ⟨(s.comp pl.comp).flag, (s.comp pl.comp).load + it.mass, (s.comp pl.comp).stow ++ [l.tag]⟩
         version := s.cond.version + 1 }
       ∃ t, run = .next (arbitrate s.eval t) ∧
         t = { s with
           cond := t.cond
           eval := routineRaised s
           lifts := t.lifts
           attn := t.attn
           ports := answeredPorts s p .landed tag ⟨.done, .landed o.1 o.2 (s.cond.version + 1)⟩ } ∧
         (o.2 = .ashore → t.cond = { s.cond with
           items := (s.cond.items.drop l.tag).mapVals (fun _ z => dropPlanRest l.tag z), version := s.cond.version + 1 }) ∧
         (∀ pl, o.2 = .place pl → t.cond = landed { it with
             state := .aboard, actual := some pl, link := none,
             plan := if it.plan = some (.place pl) then none else it.plan } pl) ∧
         t.lifts.waiting = s.lifts.waiting ∧
         (∀ d k, d = c ∨ (d = otherCrane c ∧ tandem) → (s.record d).lift = some k →
           t.record d = { s.record d with state := .done, timer := none, silent := false, outcome := some o.1 } ∧
           t.lifts.ended.get d = some ⟨it.mass, o.2⟩) ∧
         (¬ tandem → t.record (otherCrane c) = x ∧ t.lifts.ended.get (otherCrane c) = s.lifts.ended.get (otherCrane c)) ∧
         t.attn = (
           let heard := if r.silent = true ∧ x.silent = false then s.attn.map (AttnPort.remove .silentLift) else s.attn
           let own := heard.modify p (AttnPort.raise .outcomeReady)
           if tandem then
             let both := own.modify (cranePort (otherCrane c)) (AttnPort.raise .outcomeReady)
             if x.silent = true then both.map (AttnPort.remove .silentLift) else both
           else own) ∧
         (∀ e y, y ∈ (t.attn.get e).pending ↔
           (y = .outcomeReady ∧ (e = p ∨ (e = cranePort (otherCrane c) ∧ tandem))) ∨
           (y ∈ (s.attn.get e).pending ∧ (y = .silentLift → s.anySilent = true → t.anySilent = true))))) ∧
  (∀ (c : Crane) (tag : Byte) (g : Option Goal) (s : State), Serving s (cranePort c) →
     let ok := g = some .ashore ∨ ∃ pl, g = some (.place pl) ∧ -500 ≤ pl.xAft ∧ pl.xAft ≤ 19500 ∧ -500 ≤ pl.xFore ∧
       pl.xFore ≤ 19500 ∧ -2500 ≤ pl.y ∧ pl.y ≤ 2500 ∧ 0 ≤ pl.z ∧ pl.z ≤ 5000
     (∀ x, g = some x → (goalOk x = true ↔ ok)) ∧
     (¬ ok → exec (.landed (cranePort c) tag g) s = refusesOnly s (cranePort c) .landed tag .badArgument))

/-- The outcome of a landing (R142) and the clamping of an invalid one (R143): the first matching row, and a clamped
placement in the destination's compartment, or the origin's for a destination ASHORE, within its bounds. -/
def Obligations.LandingOutcomeAndClamping : Prop :=
  ∀ (s : State) (l : Lift) (pl : Placement),
    landingOutcome s l .ashore = (if l.dest = .ashore then .landed else .landedOffPlan, .ashore) ∧
    (placementValid s .landing l.tag pl = true →
      landingOutcome s l (.place pl) = (if l.dest = .place pl then .landed else .landedOffPlan, .place pl)) ∧
    (∀ n r, placementValid s .landing l.tag pl = false →
      ((∃ d, l.dest = .place d ∧ n = d.comp) ∨ (l.dest = .ashore ∧ ∃ o, l.origin = .place o ∧ n = o.comp)) →
      s.ship.image.comp n = some r → r.xAft ≤ r.xFore → r.yMin ≤ r.yMax → r.zFloor ≤ r.zTop →
      ∃ q, landingOutcome s l (.place pl) = (.landedClamped, .place q) ∧ q.comp = n ∧
        q.xAft = max r.xAft (min pl.xAft r.xFore) ∧
        q.xFore = min (max q.xAft (max r.xAft (min pl.xFore r.xFore))) (q.xAft + 4000) ∧
        q.y = max r.yMin (min pl.y r.yMax) ∧ q.z = max r.zFloor (min pl.z r.zTop) ∧
        (q.restsOn = pl.restsOn ∨ q.restsOn = none) ∧
        (∀ x, pl.restsOn = some x → (q.restsOn = some x ↔
          x ≠ l.tag ∧ s.named x = false ∧ ∃ it b, s.item x = some it ∧ it.state = .aboard ∧ it.actual = some b ∧ b.comp = n)) ∧
        ((∃ k m, r.use = .stow k m) → placementValid s .landing l.tag q = true))

/-- ABORT LIFT by the state of the own record, the rows of R145 from the top.
COLLECT OUTCOME and READ LIFT (R146, R125): the outcome record of a record in DONE, which returns to IDLE with its check
report kept and ends OUTCOME READY on its port; NOTHING PENDING in any other state; and the fields of either record to any
port, with nothing changed.
The bytes of an outcome record after the status: 49 of them, and with no check report zeros and FFh for the failing slot
(section 8.7 of the ports chapter). -/
def Obligations.AbortAndCollectByState : Prop :=
  (∀ (c : Crane) (tag : Byte) (s : State), Serving s (cranePort c) →
     let p := cranePort c
     let r := s.record c
     let run := exec (.abortLift p tag) s
     let no (st : Status) := answersOnly s p .abortLift tag ⟨st, .statusOnly⟩
     let partner := liftRole r = some .partner
     let x := s.record (otherCrane c)
     let both := r.state = .granted ∧ liftRole r = some .lead ∧ liftRole x = some .partner ∧ x.state = .granted
     (r.state = .idle → run = no .noSuchLift) ∧
     (r.state ≠ .idle → partner → run = no .notLead) ∧
     (r.state = .checking → ¬ partner → run = no .busy) ∧
     (r.state = .slung → ¬ partner → run = no .stillSlung) ∧
     (r.state = .done → ¬ partner → run = no .outcomePending) ∧
     (∀ l, r.state = .joining ∨ r.state = .granted → ¬ partner → r.lift = some l →
       ∃ t, run = .next t ∧
         t = { s with lifts := t.lifts, attn := t.attn, ports := answeredPorts s p .abortLift tag ⟨.done, .statusOnly⟩ } ∧
         t.lifts.waiting = s.lifts.waiting ∧
         (∀ d k, d = c ∨ (d = otherCrane c ∧ both) → (s.record d).lift = some k →
           t.record d = { s.record d with state := .done, timer := none, silent := false, outcome := some .aborted } ∧
           t.lifts.ended.get d = some ⟨s.massOf l.tag, k.origin⟩) ∧
         (¬ both → t.record (otherCrane c) = x ∧ t.lifts.ended.get (otherCrane c) = s.lifts.ended.get (otherCrane c)) ∧
         t.attn = (
           let own := s.attn.modify p (AttnPort.raise .outcomeReady)
           if both then
             let two := own.modify (cranePort (otherCrane c)) (AttnPort.raise .outcomeReady)
             if r.silent = true ∨ x.silent = true then two.map (AttnPort.remove .silentLift) else two
           else if r.silent = true ∧ x.silent = false then own.map (AttnPort.remove .silentLift) else own) ∧
         (∀ e y, y ∈ (t.attn.get e).pending ↔
           (y = .outcomeReady ∧ (e = p ∨ (e = cranePort (otherCrane c) ∧ both))) ∨
           (y ∈ (s.attn.get e).pending ∧ (y = .silentLift → s.anySilent = true → t.anySilent = true))))) ∧
  (∀ (tag : Byte) (s : State),
     (∀ c, Serving s (cranePort c) → (s.record c).state ≠ .done →
       exec (.collectOutcome (cranePort c) tag) s = answersOnly s (cranePort c) .collectOutcome tag ⟨.nothingPending, .statusOnly⟩) ∧
     (∀ c l o e, Serving s (cranePort c) → (s.record c).state = .done → (s.record c).lift = some l →
       (s.record c).outcome = some o → s.lifts.ended.get c = some e →
       exec (.collectOutcome (cranePort c) tag) s = .next { s with
         lifts := ⟨s.lifts.records.set c ⟨.idle, none, none, false, (s.record c).report, none⟩, s.lifts.ended.set c none,
                   s.lifts.waiting.set c none⟩
         attn := s.attn.set (cranePort c) (AttnPort.remove .outcomeReady (s.attn.get (cranePort c)))
         ports := answeredPorts s (cranePort c) .collectOutcome tag
           ⟨.done, .layout (outcomeBytes ⟨l.tag, e.mass, l.role, o, e.final, l.dest, (s.record c).report⟩)⟩ }) ∧
     (∀ p c, Serving s p → exec (.readLift p tag (some c)) s =
       answersOnly s p .readLift tag ⟨.done, .liftRecord (s.record c) s.cond.version⟩) ∧
     (∀ p, Serving s p → exec (.readLift p tag none) s = answersOnly s p .readLift tag ⟨.badArgument, .statusOnly⟩)) ∧
  (∀ o : OutcomeRecord,
     let form (g : Goal) : List Byte := match g with
       | .place pl => 0 :: byteOf pl.comp :: (bytes2 pl.xAft ++ bytes2 pl.xFore ++ bytes2 pl.y ++ bytes2 pl.z ++
           bytes2 (pl.restsOn.getD 0))
       | .ashore => 1 :: List.replicate 11 0
     let bit (b : Bool) (w : Int) : Int := if b = true then w else 0
     let flags (f : FigureFlags) : Byte :=
       byteOf (bit f.offLow 64 + bit f.offHigh 32 + bit f.trimSaturated 16 + bit f.negativeGm 8)
     outcomeBytes o = bytes2 o.tag ++ bytes2 o.mass ++
       ([match o.role with | .single => 0 | .lead => 1 | .partner => 2,
        match o.outcome with
          | .landed => 0 | .landedOffPlan => 1 | .landedClamped => 2 | .aborted => 3 | .grantLapsed => 4 | .joinLapsed => 5] : List Byte) ++
       form o.final ++ form o.dest ++
       (match o.report with
         | none => [0, 0, 0, 0xFF] ++ List.replicate 15 0
         | some r => [1] ++
             (match r.failure with
               | none => [0, 0, 0xFF, 0, 0, 0, 0]
               | some (.path, i, v) => [1, 1, byteOf i] ++ bytes4 v
               | some (.final, i, v) => [1, 2, byteOf i] ++ bytes4 v) ++
             bytes4 (r.version.toNat : Int) ++ [byteOf (bit r.stale 128), flags r.pathFlags, flags r.finalFlags] ++
             bytes2 r.pathHeel ++ bytes2 r.finalHeel) ∧
     (outcomeBytes o).length = 49)

/-- The expiries of the join window, the grant lapse timer and the report timer (R131, R136, R140): a lead in JOINING is DONE
with JOIN LAPSED and its deferred reply is sent; a GRANTED record and its tandem partner are DONE with GRANT LAPSED; a SLUNG
record becomes SILENT with SILENT LIFT on all ports. A timer that does not run has no expiry (log 5). -/
def Obligations.LiftTimersExpire : Prop :=
  ∀ (c : Crane) (s : State),
    let r := s.record c
    let x := s.record (otherCrane c)
    let runs (k : TimerKind) : Prop := ∃ n, r.timer = some ⟨k, n⟩
    let ended (code : OutcomeCode) : LiftRecord := { r with state := .done, timer := none, silent := false, outcome := some code }
    let both := liftRole r = some .lead ∧ liftRole x = some .partner ∧ x.state = .granted
    (¬ (r.state = .joining ∧ runs .joinWindow) → exec (.joinWindowExpiry c) s = .next s) ∧
    (¬ (r.state = .granted ∧ runs .grantLapse) → exec (.grantLapseExpiry c) s = .next s) ∧
    (¬ (r.state = .slung ∧ runs .report) → exec (.reportTimerExpiry c) s = .next s) ∧
    (∀ l q, r.state = .joining → runs .joinWindow → r.lift = some l → s.lifts.waiting.get c = some q →
      exec (.joinWindowExpiry c) s = .next { s with
        lifts := ⟨s.lifts.records.set c (ended .joinLapsed), s.lifts.ended.set c (some ⟨s.massOf l.tag, l.origin⟩),
                  s.lifts.waiting.set c none⟩
        attn :=
          let raised := s.attn.modify (cranePort c) (AttnPort.raise .outcomeReady)
          if r.silent = true ∧ x.silent = false then raised.map (AttnPort.remove .silentLift) else raised
        ports := if (s.ports.get q.port).deferred = some q then s.ports.modify q.port (fun z => { z with
            deferred := none, tx := z.tx ++ [⟨⟨replyKind q.kind, q.tag, ⟨.joinLapsed, .statusOnly⟩⟩, some q.mark⟩] })
          else s.ports }) ∧
    (∀ l, r.state = .granted → runs .grantLapse → r.lift = some l →
      ∃ t, exec (.grantLapseExpiry c) s = .next t ∧ t = { s with lifts := t.lifts, attn := t.attn } ∧
        t.lifts.waiting = s.lifts.waiting ∧ t.record c = ended .grantLapsed ∧
        t.lifts.ended.get c = some ⟨s.massOf l.tag, l.origin⟩ ∧
        (∀ k, both → x.lift = some k →
          t.record (otherCrane c) = { x with state := .done, timer := none, silent := false, outcome := some .grantLapsed } ∧
          t.lifts.ended.get (otherCrane c) = some ⟨s.massOf l.tag, k.origin⟩) ∧
        (¬ both → t.record (otherCrane c) = x ∧ t.lifts.ended.get (otherCrane c) = s.lifts.ended.get (otherCrane c)) ∧
        t.attn = (
          let own := s.attn.modify (cranePort c) (AttnPort.raise .outcomeReady)
          if both then
            let two := own.modify (cranePort (otherCrane c)) (AttnPort.raise .outcomeReady)
            if r.silent = true ∨ x.silent = true then two.map (AttnPort.remove .silentLift) else two
          else if r.silent = true ∧ x.silent = false then own.map (AttnPort.remove .silentLift) else own) ∧
        (∀ e y, y ∈ (t.attn.get e).pending ↔ (y = .outcomeReady ∧ (e = cranePort c ∨ (e = cranePort (otherCrane c) ∧ both))) ∨
          (y ∈ (s.attn.get e).pending ∧ (y = .silentLift → s.anySilent = true → t.anySilent = true)))) ∧
    (r.state = .slung → runs .report → exec (.reportTimerExpiry c) s = .next { s with
        lifts := { s.lifts with records := s.lifts.records.set c { r with timer := none, silent := true } }
        attn := s.attn.map (AttnPort.raise .silentLift) })

/-! ### The condition arithmetic -/

/-- The rounding rule (R51): a rounded quotient is within half a divisor of the exact one, a tie is taken away from zero, and
the quotient has the sign of the numerator; and no other whole number is so. -/
def Obligations.RoundingIsNearestTiesAwayFromZero : Prop :=
  ∀ n d q : Int, 0 < d →
    (roundDiv n d = q ↔ 2 * (q * d - n).natAbs ≤ d.natAbs ∧ (2 * (q * d - n).natAbs = d.natAbs → n.natAbs < (q * d).natAbs))

/-- The figure set of a capture record by the ten stages (R58 to R75): there are values as computed that meet the equation of
each stage, and the figures are those values held in signed 32-bit fields. That a later stage takes the value as computed is
the model's reading (log 27). -/
def Obligations.FigureSetFollowsTheTenStages : Prop :=
  ∀ (img : Image) (cap : Capture) (f : FigureSet), figureSet img cap = some f →
    let sum (φ : Weight → Int) : Int := (cap.weights.map φ).sum
    let rows := img.rows.map Prod.snd
    let stations := img.stations.map Prod.snd
    let own (r : HydroRow) : Hydro := ⟨r.t, r.lcb, r.lcf, r.km, r.mtc, r.kn10, r.kn20, r.kn30, r.kn40, r.kn50, r.kn60⟩
    let span (lo hi v : Int) : Int := max lo (min v hi)
    ∃ (tot : Totals) (h : Hydro) (tr : Trim) (st : Stability) (lv : Levers) (sts : List StationFigures),
      (f.totals = tot.held ∧ f.hydro = h.held ∧ f.trim = tr.held ∧ f.stab = st.held ∧ f.levers = lv.held ∧
        f.stations = sts.map StationFigures.held) ∧
      tot = ⟨sum (fun w => w.m), roundDiv (sum (fun w => w.m * (w.xa + w.xf))) (2 * tot.delta),
             roundDiv (sum (fun w => w.m * w.y)) tot.delta, roundDiv (sum (fun w => w.m * w.z)) tot.delta, cap.fsm,
             roundDiv (tot.delta * 1025) cap.density⟩ ∧
      (∀ first, rows.head? = some first → tot.deq < first.d → h = own first) ∧
      (∀ last, rows.getLast? = some last → (∀ first, rows.head? = some first → first.d ≤ tot.deq) → last.d < tot.deq →
        h = own last) ∧
      (∀ (i : Nat) (lo hi : HydroRow), rows[i]? = some lo → rows[i + 1]? = some hi → lo.d ≤ tot.deq → tot.deq ≤ hi.d →
        (∀ first last, rows.head? = some first → rows.getLast? = some last → first.d ≤ tot.deq ∧ tot.deq ≤ last.d) →
        (∀ (j : Nat) (a b : HydroRow), j < i → rows[j]? = some a → rows[j + 1]? = some b → ¬ (a.d ≤ tot.deq ∧ tot.deq ≤ b.d)) →
        let q (a b : Int) : Int := a + roundDiv ((b - a) * (tot.deq - lo.d)) (hi.d - lo.d)
        h = ⟨q lo.t hi.t, q lo.lcb hi.lcb, q lo.lcf hi.lcf, q lo.km hi.km, q lo.mtc hi.mtc, q lo.kn10 hi.kn10,
             q lo.kn20 hi.kn20, q lo.kn30 hi.kn30, q lo.kn40 hi.kn40, q lo.kn50 hi.kn50, q lo.kn60 hi.kn60⟩) ∧
      tr.t = span (-2000) 2000 (roundDiv (tot.delta * (h.lcb - tot.lcg)) h.mtc) ∧
      tr.ta = h.tm + roundDiv (tr.t * h.lcf) img.lbp ∧ tr.tf = tr.ta - tr.t ∧
      st.fsc = roundDiv tot.fsm tot.delta ∧ st.kgf = tot.vcg + st.fsc ∧ st.gmSolid = h.km - tot.vcg ∧ st.gm = h.km - st.kgf ∧
      (0 < st.gm → st.heel = span (-300) 300 (roundDiv (573 * tot.tcg) st.gm)) ∧
      (st.gm ≤ 0 → st.heel = if tot.tcg < 0 then -300 else 300) ∧
      lv.gz0 = -tot.tcg ∧
      (∀ e ∈ [(lv.gz10, h.kn10, (174 : Int), (985 : Int)), (lv.gz20, h.kn20, 342, 940), (lv.gz30, h.kn30, 500, 866),
          (lv.gz40, h.kn40, 643, 766), (lv.gz50, h.kn50, 766, 643), (lv.gz60, h.kn60, 866, 500)],
        e.1 = e.2.1 - roundDiv (st.kgf * e.2.2.1) 1000 - roundDiv (tot.tcg * e.2.2.2) 1000) ∧
      lv.a30 = 5 * (lv.gz0 + 2 * lv.gz10 + 2 * lv.gz20 + lv.gz30) ∧
      lv.a40 = 5 * (lv.gz0 + 2 * lv.gz10 + 2 * lv.gz20 + 2 * lv.gz30 + lv.gz40) ∧ lv.a3040 = 5 * (lv.gz30 + lv.gz40) ∧
      (∃ (i : Nat) (g : Int), [lv.gz10, lv.gz20, lv.gz30, lv.gz40, lv.gz50, lv.gz60][i]? = some g ∧ lv.angle = 100 * (i + 1) ∧
        (∀ x ∈ [lv.gz10, lv.gz20, lv.gz30, lv.gz40, lv.gz50, lv.gz60], x ≤ g) ∧
        ∀ (j : Nat) (x : Int), j < i → [lv.gz10, lv.gz20, lv.gz30, lv.gz40, lv.gz50, lv.gz60][j]? = some x → x < g) ∧
      sts.length = stations.length ∧
      (∀ (k : Nat) (p : Station) (x : StationFigures), stations[k]? = some p → sts[k]? = some x →
        let aft (w : Weight) : Int × Int :=
          if w.xa = w.xf then (if w.xa ≤ p.x then (w.m, w.m * (p.x - w.xa)) else (0, 0))
          else if w.xf ≤ p.x then (w.m, roundDiv (w.m * (2 * p.x - w.xa - w.xf)) 2)
          else if p.x ≤ w.xa then (0, 0)
          else (roundDiv (w.m * (p.x - w.xa)) (w.xf - w.xa), roundDiv (w.m * ((p.x - w.xa) * (p.x - w.xa))) (2 * (w.xf - w.xa)))
        let b := roundDiv (tot.delta * span 0 1000000 (100 * p.f + p.k * tr.t)) 1000000
        x.sf = sum (fun w => (aft w).1) - b ∧ x.bm = roundDiv (sum (fun w => (aft w).2) - b * p.l) 100 ∧
        x.shear = roundDiv (1000 * x.sf.natAbs) p.sp ∧ x.bend = roundDiv (1000 * x.bm.natAbs) p.bp) ∧
      (∀ x ∈ f.stations, x.shear ≤ f.maxShear ∧ x.bend ≤ f.maxBend) ∧
      (f.stations ≠ [] → (∃ x ∈ f.stations, x.shear = f.maxShear) ∧ ∃ x ∈ f.stations, x.bend = f.maxBend) ∧
      (let ratio (e : Nat × CompRecord) : Int := match e.2.use with
        | .stow _ m => roundDiv (1000 * sum (fun w => if w.comp = some e.1 then w.m else 0)) m
        | .tank .. => 0
       ∃ r, f.loadRatio = hold32 r ∧ 0 ≤ r ∧ (∀ e ∈ img.comps, ratio e ≤ r) ∧ (r = 0 ∨ ∃ e ∈ img.comps, ratio e = r)) ∧
      (f.flags.offLow = true ↔ ∀ first, rows.head? = some first → tot.deq < first.d) ∧
      (f.flags.offHigh = true ↔ f.flags.offLow = false ∧ ∀ last, rows.getLast? = some last → last.d < tot.deq) ∧
      (f.flags.trimSaturated = true ↔ tr.t ≠ roundDiv (tot.delta * (h.lcb - tot.lcg)) h.mtc) ∧
      (f.flags.negativeGm = true ↔ st.gm ≤ 0)

/-- What a routine job captures (R54 to R56, R86, R152, R153, R154): every lightship block, every ABOARD item at its
placement, a SLUNG item at the hook point or points of its lift with its mass shared, and every tank that is not empty, with
the density and the moments of the slack tanks.
What a lift check and a prospect capture. The two cases of a check have the routine set with its item elsewhere: on the
path case at the outreach point or points with its mass shared, on the final case at its destination or left out (R87, R88);
another item that the other record is GRANTED for hangs at that record's outreach point. A prospect has the scope's base (R89):
for
ACTUAL the routine set, for DEPARTURE each item by its plan, else at its lift's destination or its placement; and over it,
bottom
first, the layers that are not skipped, a later one over an earlier one, with the counts of both (R90, R173). -/
def Obligations.RoutineCaptureHoldsTheCondition : Prop :=
  (∀ s : State,
     let img := s.ship.image
     let cap := routineCapture s
     let aboard (tag : Nat) (it : ItemRecord) (pl : Placement) : Weight :=
       ⟨.item tag, it.mass, pl.xAft, pl.xFore, pl.y, pl.z, some pl.comp⟩
     let hung (tag : Nat) (m : Int) (q : Point) : Weight := ⟨.hook tag, m, q.x, q.x, q.y, q.z, none⟩
     let items := s.cond.items.flatMap (fun e => routineItem s e.1 e.2)
     cap.density = s.cond.density ∧
     cap.weights = img.blocks.map (fun e => ⟨.lightship e.1, e.2.mass, e.2.xAft, e.2.xFore, e.2.y, e.2.z, none⟩) ++ items ++
       img.comps.flatMap (fun e => match e.2.use with
         | .stow .. => []
         | .tank m cx cy _ => if s.fill e.1 = 0 then [] else
             [⟨.tank e.1, roundDiv (m * s.fill e.1) 1000, cx, cx, cy,
               e.2.zFloor + roundDiv ((e.2.zTop - e.2.zFloor) * s.fill e.1) 2000, none⟩]) ∧
     cap.fsm = (img.comps.map (fun e => match e.2.use with
         | .stow .. => 0
         | .tank _ _ _ fsm => if 20 < s.fill e.1 ∧ s.fill e.1 < 980 then fsm else 0)).sum ∧
     (∀ tag it, it.state = .pending → routineItem s tag it = []) ∧
     (∀ tag it pl, it.state = .aboard → it.actual = some pl → routineItem s tag it = [aboard tag it pl]) ∧
     (∀ tag it c l q, it.state = .slung → it.link = some c → (s.record c).lift = some l → l.hook = some q →
       (l.role = .single → routineItem s tag it = [hung tag it.mass q]) ∧
       (∀ n x k, l.role ≠ .single → l.share = some n → (s.record (otherCrane c)).lift = some x → x.hook = some k →
         let lead := roundDiv (it.mass * n) 1000
         routineItem s tag it = [hung tag lead q, hung tag (it.mass - lead) k]))) ∧
  (∀ s : State,
     let img := s.ship.image
     let at' (tag : Nat) (m : Int) (pl : Placement) : Weight :=
       ⟨.item tag, m, pl.xAft, pl.xFore, pl.y, pl.z, some pl.comp⟩
     let goal (tag : Nat) (m : Int) (g : Goal) : List Weight := match g with
       | .place pl => [at' tag m pl]
       | .ashore => []
     let hung (tag : Nat) (m : Int) (q : Point) : Weight := ⟨.hook tag, m, q.x, q.x, q.y, q.z, none⟩
     let build (fill : Nat → Nat) (placed : Nat → ItemRecord → List Weight) : Capture :=
       ⟨img.blocks.map (fun e => ⟨.lightship e.1, e.2.mass, e.2.xAft, e.2.xFore, e.2.y, e.2.z, none⟩) ++
          s.cond.items.flatMap (fun e => placed e.1 e.2) ++
          img.comps.flatMap (fun e => match e.2.use with
            | .stow .. => []
            | .tank m cx cy _ => if fill e.1 = 0 then [] else
                [⟨.tank e.1, roundDiv (m * fill e.1) 1000, cx, cx, cy,
                  e.2.zFloor + roundDiv ((e.2.zTop - e.2.zFloor) * fill e.1) 2000, none⟩]),
        s.cond.density,
        (img.comps.map (fun e => match e.2.use with
          | .stow .. => 0
          | .tank _ _ _ fsm => if 20 < fill e.1 ∧ fill e.1 < 980 then fsm else 0)).sum⟩
     (∀ (c : Crane) (l : Lift),
       let x := s.record (otherCrane c)
       let beside (tag : Nat) (it : ItemRecord) : List Weight := match x.lift with
         | some k => if x.state = .granted ∧ k.tag = tag then [hung tag it.mass k.outreach] else routineItem s tag it
         | none => routineItem s tag it
       (∀ slung : Int → List Weight,
         (l.role = .single ∧ slung = fun m => [hung l.tag m l.outreach]) ∨
         (∃ n k, l.role ≠ .single ∧ l.share = some n ∧ x.lift = some k ∧ slung = fun m =>
           [hung l.tag (roundDiv (m * n) 1000) l.outreach, hung l.tag (m - roundDiv (m * n) 1000) k.outreach]) →
         pathCapture s c l = build s.fill (fun tag it => if tag = l.tag then slung it.mass else beside tag it)) ∧
       finalCapture s c l = build s.fill (fun tag it => if tag = l.tag then goal tag it.mass l.dest else beside tag it)) ∧
     (∀ (tag : Nat) (it : ItemRecord),
       baseItem s .actual tag it = routineItem s tag it ∧
       (∀ g, it.state ≠ .slung → it.plan = some g → baseItem s .departure tag it = goal tag it.mass g) ∧
       (∀ pl, it.state = .aboard → it.plan = none → it.actual = some pl → baseItem s .departure tag it = [at' tag it.mass pl]) ∧
       (∀ c l, it.state = .slung → (s.record c).state = .slung → (s.record c).lift = some l → l.tag = tag →
         (∀ d, (s.record d).state = .slung → recordNames (s.record d) tag = true → (s.record d).lift.map Lift.dest = some l.dest) →
         baseItem s .departure tag it = goal tag it.mass l.dest)) ∧
     (∀ sc : Scope, s.cond.items.Rising →
       let layers := s.trials.layers
       let skips (l : Layer) : Bool := match l with
         | .tank .. => false
         | .item tag _ => (s.item tag).all (fun it => it.state == .slung)
       let fill (n : Nat) : Nat :=
         (layers.reverse.findSome? (fun l => match l with
           | .tank k f => if k = n then some f else none
           | .item .. => none)).getD (s.fill n)
       let placed (tag : Nat) (it : ItemRecord) : List Weight :=
         match layers.reverse.findSome? (fun l => match l with
           | .item k g => if k = tag ∧ it.state ≠ .slung then some g else none
           | .tank .. => none) with
         | some g => goal tag it.mass g
         | none => baseItem s sc tag it
       prospectCapture s sc = build fill placed ∧
       (prospectSet s sc).applied = (layers.filter (fun l => !skips l)).length ∧
       (prospectSet s sc).skipped = (layers.filter skips).length))

/-! ### What every step keeps -/

/-- Every step keeps the output lines at the levels of the service mode, the priming and the effective action, which is that
of the slots in ALARM (R110, R111, R112); and every attention line in LEVEL mode with its pending set and mask (R190). -/
def Obligations.EveryStepKeepsLinesAndAttention : Prop :=
  ∀ s t : State, step s = .next t → (LinesFollow s → LinesFollow t) ∧ (AttentionFollows s → AttentionFollows t)

/-- Every step keeps the order of the ports (R181, R183, R184): the counters at 255 at most, one reply at most to the
outstanding request and one BUSY reply at most, and a deferred reply that belongs to the outstanding request. -/
def Obligations.EveryStepKeepsThePortsInOrder : Prop :=
  ∀ s t : State, PortsOrdered s → step s = .next t → PortsOrdered t

/-- Every step keeps the slots in shape (R103, R106, R108): sixteen of them, counters within 0..N and N in ALARM, unused and
out-of-range slots CLEAR; from a state whose PRESENT image has passed the tests of R13, as every step keeps it too. That a slot
loaded from a record with code NONE holds an N within 1..8 rests on log 35 (DESIGN CHOICE). -/
def Obligations.EveryStepKeepsTheMonitorInShape : Prop :=
  ∀ s t : State, ImageChecked s → step s = .next t → ImageChecked t ∧ (MonitorShaped s → MonitorShaped t)

/-- Every step keeps the ranges of the density, the fills, the offsets, the trial stack and the interval (R34, R91,
R94, R152, R160, R168), the canonical form of every table (log 26), and the hold list with one change at most from a port and none but
during a capture (R37, R83). -/
def Obligations.EveryStepKeepsRangesTablesAndHoldList : Prop :=
  ∀ s t : State, step s = .next t → (ValuesInRange s → ValuesInRange t) ∧ (TablesCanonical s → TablesCanonical t) ∧
    (HoldListKept s → HoldListKept t)

/-- Every step keeps the lift records, the items, the stow lists, the pending checks and the attention causes in agreement
(R22 to R25, R31, R32, R123, R124, R132, R188); and, from such a state, that no request waits for a free engine, that outside IN
SERVICE no slot is pending and no job runs (R80), and that the interval timer runs IN SERVICE in the CONTINUOUS mode alone
(R92). That the start of a job is in the step of its event is the model's reading (log 12, DEDUCED). -/
def Obligations.EveryStepKeepsLiftsAndItemsAgreed : Prop :=
  ∀ s t : State, LiftsAgree s → step s = .next t → LiftsAgree t ∧ (ArbiterKept s → ArbiterKept t)

/-- A step from a state whose PRESENT image has passed the tests of R13 never stops: no divisor of R77 is other than
positive, whatever the command; and the captures of a running job stay so. -/
def Obligations.NoStepStopsOnACheckedImage : Prop :=
  ∀ s : State, EngineSound s → ImageChecked s → ValuesInRange s → ItemsShaped s → LiftsShaped s →
    ∃ t, step s = .next t ∧ EngineSound t

/-- The state after reset meets every invariant of the statements above, with VERIFY as its mode, no item, the density 1025,
nothing stored and every line released. That reset is a COLD restart of a blank image store is the model's choice
(log 1). -/
def Obligations.ResetMeetsTheInvariants : Prop :=
  (State.reset.ship.mode = .verify ∧ State.reset.ship.restartCause = .cold ∧ State.reset.cond = ⟨[], [], 1025, 0, []⟩ ∧
    State.reset.lines = ⟨false, false, false⟩ ∧ State.reset.eval.latest = none ∧ State.reset.pending = []) ∧
  LinesFollow State.reset ∧ AttentionFollows State.reset ∧ PortsOrdered State.reset ∧ ImageChecked State.reset ∧
  MonitorShaped State.reset ∧ ValuesInRange State.reset ∧ TablesCanonical State.reset ∧ HoldListKept State.reset ∧
  LiftsAgree State.reset ∧ EngineSound State.reset ∧ ArbiterKept State.reset
end

