-- ==== Sys2Proof/Laws/State.lean ====
section
/-!
SUPPORT. One lemma for each field of the state after each named update, and after each shared operation that is a named
update: true by unfolding, for later proofs to cite.
-/

namespace Sys2Proof.Machine

open Sys2Proof

@[simp] theorem withShip_ship (s : State) (x : ShipStore) : (s.withShip x).ship = x := rfl
@[simp] theorem withShip_cond (s : State) (x : ShipStore) : (s.withShip x).cond = s.cond := rfl
@[simp] theorem withShip_eval (s : State) (x : ShipStore) : (s.withShip x).eval = s.eval := rfl
@[simp] theorem withShip_mon (s : State) (x : ShipStore) : (s.withShip x).mon = s.mon := rfl
@[simp] theorem withShip_lines (s : State) (x : ShipStore) : (s.withShip x).lines = s.lines := rfl
@[simp] theorem withShip_lifts (s : State) (x : ShipStore) : (s.withShip x).lifts = s.lifts := rfl
@[simp] theorem withShip_tanks (s : State) (x : ShipStore) : (s.withShip x).tanks = s.tanks := rfl
@[simp] theorem withShip_trials (s : State) (x : ShipStore) : (s.withShip x).trials = s.trials := rfl
@[simp] theorem withShip_ports (s : State) (x : ShipStore) : (s.withShip x).ports = s.ports := rfl
@[simp] theorem withShip_rate (s : State) (x : ShipStore) : (s.withShip x).rate = s.rate := rfl
@[simp] theorem withShip_attn (s : State) (x : ShipStore) : (s.withShip x).attn = s.attn := rfl
@[simp] theorem withShip_pending (s : State) (x : ShipStore) : (s.withShip x).pending = s.pending := rfl

@[simp] theorem withCond_ship (s : State) (x : Condition) : (s.withCond x).ship = s.ship := rfl
@[simp] theorem withCond_cond (s : State) (x : Condition) : (s.withCond x).cond = x := rfl
@[simp] theorem withCond_eval (s : State) (x : Condition) : (s.withCond x).eval = s.eval := rfl
@[simp] theorem withCond_mon (s : State) (x : Condition) : (s.withCond x).mon = s.mon := rfl
@[simp] theorem withCond_lines (s : State) (x : Condition) : (s.withCond x).lines = s.lines := rfl
@[simp] theorem withCond_lifts (s : State) (x : Condition) : (s.withCond x).lifts = s.lifts := rfl
@[simp] theorem withCond_tanks (s : State) (x : Condition) : (s.withCond x).tanks = s.tanks := rfl
@[simp] theorem withCond_trials (s : State) (x : Condition) : (s.withCond x).trials = s.trials := rfl
@[simp] theorem withCond_ports (s : State) (x : Condition) : (s.withCond x).ports = s.ports := rfl
@[simp] theorem withCond_rate (s : State) (x : Condition) : (s.withCond x).rate = s.rate := rfl
@[simp] theorem withCond_attn (s : State) (x : Condition) : (s.withCond x).attn = s.attn := rfl
@[simp] theorem withCond_pending (s : State) (x : Condition) : (s.withCond x).pending = s.pending := rfl

@[simp] theorem withEval_ship (s : State) (x : EvalUnit) : (s.withEval x).ship = s.ship := rfl
@[simp] theorem withEval_cond (s : State) (x : EvalUnit) : (s.withEval x).cond = s.cond := rfl
@[simp] theorem withEval_eval (s : State) (x : EvalUnit) : (s.withEval x).eval = x := rfl
@[simp] theorem withEval_mon (s : State) (x : EvalUnit) : (s.withEval x).mon = s.mon := rfl
@[simp] theorem withEval_lines (s : State) (x : EvalUnit) : (s.withEval x).lines = s.lines := rfl
@[simp] theorem withEval_lifts (s : State) (x : EvalUnit) : (s.withEval x).lifts = s.lifts := rfl
@[simp] theorem withEval_tanks (s : State) (x : EvalUnit) : (s.withEval x).tanks = s.tanks := rfl
@[simp] theorem withEval_trials (s : State) (x : EvalUnit) : (s.withEval x).trials = s.trials := rfl
@[simp] theorem withEval_ports (s : State) (x : EvalUnit) : (s.withEval x).ports = s.ports := rfl
@[simp] theorem withEval_rate (s : State) (x : EvalUnit) : (s.withEval x).rate = s.rate := rfl
@[simp] theorem withEval_attn (s : State) (x : EvalUnit) : (s.withEval x).attn = s.attn := rfl
@[simp] theorem withEval_pending (s : State) (x : EvalUnit) : (s.withEval x).pending = s.pending := rfl

@[simp] theorem withMon_ship (s : State) (x : Monitor) : (s.withMon x).ship = s.ship := rfl
@[simp] theorem withMon_cond (s : State) (x : Monitor) : (s.withMon x).cond = s.cond := rfl
@[simp] theorem withMon_eval (s : State) (x : Monitor) : (s.withMon x).eval = s.eval := rfl
@[simp] theorem withMon_mon (s : State) (x : Monitor) : (s.withMon x).mon = x := rfl
@[simp] theorem withMon_lines (s : State) (x : Monitor) : (s.withMon x).lines = s.lines := rfl
@[simp] theorem withMon_lifts (s : State) (x : Monitor) : (s.withMon x).lifts = s.lifts := rfl
@[simp] theorem withMon_tanks (s : State) (x : Monitor) : (s.withMon x).tanks = s.tanks := rfl
@[simp] theorem withMon_trials (s : State) (x : Monitor) : (s.withMon x).trials = s.trials := rfl
@[simp] theorem withMon_ports (s : State) (x : Monitor) : (s.withMon x).ports = s.ports := rfl
@[simp] theorem withMon_rate (s : State) (x : Monitor) : (s.withMon x).rate = s.rate := rfl
@[simp] theorem withMon_attn (s : State) (x : Monitor) : (s.withMon x).attn = s.attn := rfl
@[simp] theorem withMon_pending (s : State) (x : Monitor) : (s.withMon x).pending = s.pending := rfl

@[simp] theorem withLines_ship (s : State) (x : Lines) : (s.withLines x).ship = s.ship := rfl
@[simp] theorem withLines_cond (s : State) (x : Lines) : (s.withLines x).cond = s.cond := rfl
@[simp] theorem withLines_eval (s : State) (x : Lines) : (s.withLines x).eval = s.eval := rfl
@[simp] theorem withLines_mon (s : State) (x : Lines) : (s.withLines x).mon = s.mon := rfl
@[simp] theorem withLines_lines (s : State) (x : Lines) : (s.withLines x).lines = x := rfl
@[simp] theorem withLines_lifts (s : State) (x : Lines) : (s.withLines x).lifts = s.lifts := rfl
@[simp] theorem withLines_tanks (s : State) (x : Lines) : (s.withLines x).tanks = s.tanks := rfl
@[simp] theorem withLines_trials (s : State) (x : Lines) : (s.withLines x).trials = s.trials := rfl
@[simp] theorem withLines_ports (s : State) (x : Lines) : (s.withLines x).ports = s.ports := rfl
@[simp] theorem withLines_rate (s : State) (x : Lines) : (s.withLines x).rate = s.rate := rfl
@[simp] theorem withLines_attn (s : State) (x : Lines) : (s.withLines x).attn = s.attn := rfl
@[simp] theorem withLines_pending (s : State) (x : Lines) : (s.withLines x).pending = s.pending := rfl

@[simp] theorem withLifts_ship (s : State) (x : LiftUnit) : (s.withLifts x).ship = s.ship := rfl
@[simp] theorem withLifts_cond (s : State) (x : LiftUnit) : (s.withLifts x).cond = s.cond := rfl
@[simp] theorem withLifts_eval (s : State) (x : LiftUnit) : (s.withLifts x).eval = s.eval := rfl
@[simp] theorem withLifts_mon (s : State) (x : LiftUnit) : (s.withLifts x).mon = s.mon := rfl
@[simp] theorem withLifts_lines (s : State) (x : LiftUnit) : (s.withLifts x).lines = s.lines := rfl
@[simp] theorem withLifts_lifts (s : State) (x : LiftUnit) : (s.withLifts x).lifts = x := rfl
@[simp] theorem withLifts_tanks (s : State) (x : LiftUnit) : (s.withLifts x).tanks = s.tanks := rfl
@[simp] theorem withLifts_trials (s : State) (x : LiftUnit) : (s.withLifts x).trials = s.trials := rfl
@[simp] theorem withLifts_ports (s : State) (x : LiftUnit) : (s.withLifts x).ports = s.ports := rfl
@[simp] theorem withLifts_rate (s : State) (x : LiftUnit) : (s.withLifts x).rate = s.rate := rfl
@[simp] theorem withLifts_attn (s : State) (x : LiftUnit) : (s.withLifts x).attn = s.attn := rfl
@[simp] theorem withLifts_pending (s : State) (x : LiftUnit) : (s.withLifts x).pending = s.pending := rfl

@[simp] theorem withTanks_ship (s : State) (x : TankUnit) : (s.withTanks x).ship = s.ship := rfl
@[simp] theorem withTanks_cond (s : State) (x : TankUnit) : (s.withTanks x).cond = s.cond := rfl
@[simp] theorem withTanks_eval (s : State) (x : TankUnit) : (s.withTanks x).eval = s.eval := rfl
@[simp] theorem withTanks_mon (s : State) (x : TankUnit) : (s.withTanks x).mon = s.mon := rfl
@[simp] theorem withTanks_lines (s : State) (x : TankUnit) : (s.withTanks x).lines = s.lines := rfl
@[simp] theorem withTanks_lifts (s : State) (x : TankUnit) : (s.withTanks x).lifts = s.lifts := rfl
@[simp] theorem withTanks_tanks (s : State) (x : TankUnit) : (s.withTanks x).tanks = x := rfl
@[simp] theorem withTanks_trials (s : State) (x : TankUnit) : (s.withTanks x).trials = s.trials := rfl
@[simp] theorem withTanks_ports (s : State) (x : TankUnit) : (s.withTanks x).ports = s.ports := rfl
@[simp] theorem withTanks_rate (s : State) (x : TankUnit) : (s.withTanks x).rate = s.rate := rfl
@[simp] theorem withTanks_attn (s : State) (x : TankUnit) : (s.withTanks x).attn = s.attn := rfl
@[simp] theorem withTanks_pending (s : State) (x : TankUnit) : (s.withTanks x).pending = s.pending := rfl

@[simp] theorem withTrials_ship (s : State) (x : Trials) : (s.withTrials x).ship = s.ship := rfl
@[simp] theorem withTrials_cond (s : State) (x : Trials) : (s.withTrials x).cond = s.cond := rfl
@[simp] theorem withTrials_eval (s : State) (x : Trials) : (s.withTrials x).eval = s.eval := rfl
@[simp] theorem withTrials_mon (s : State) (x : Trials) : (s.withTrials x).mon = s.mon := rfl
@[simp] theorem withTrials_lines (s : State) (x : Trials) : (s.withTrials x).lines = s.lines := rfl
@[simp] theorem withTrials_lifts (s : State) (x : Trials) : (s.withTrials x).lifts = s.lifts := rfl
@[simp] theorem withTrials_tanks (s : State) (x : Trials) : (s.withTrials x).tanks = s.tanks := rfl
@[simp] theorem withTrials_trials (s : State) (x : Trials) : (s.withTrials x).trials = x := rfl
@[simp] theorem withTrials_ports (s : State) (x : Trials) : (s.withTrials x).ports = s.ports := rfl
@[simp] theorem withTrials_rate (s : State) (x : Trials) : (s.withTrials x).rate = s.rate := rfl
@[simp] theorem withTrials_attn (s : State) (x : Trials) : (s.withTrials x).attn = s.attn := rfl
@[simp] theorem withTrials_pending (s : State) (x : Trials) : (s.withTrials x).pending = s.pending := rfl

@[simp] theorem withPorts_ship (s : State) (x : PerPort PortState) : (s.withPorts x).ship = s.ship := rfl
@[simp] theorem withPorts_cond (s : State) (x : PerPort PortState) : (s.withPorts x).cond = s.cond := rfl
@[simp] theorem withPorts_eval (s : State) (x : PerPort PortState) : (s.withPorts x).eval = s.eval := rfl
@[simp] theorem withPorts_mon (s : State) (x : PerPort PortState) : (s.withPorts x).mon = s.mon := rfl
@[simp] theorem withPorts_lines (s : State) (x : PerPort PortState) : (s.withPorts x).lines = s.lines := rfl
@[simp] theorem withPorts_lifts (s : State) (x : PerPort PortState) : (s.withPorts x).lifts = s.lifts := rfl
@[simp] theorem withPorts_tanks (s : State) (x : PerPort PortState) : (s.withPorts x).tanks = s.tanks := rfl
@[simp] theorem withPorts_trials (s : State) (x : PerPort PortState) : (s.withPorts x).trials = s.trials := rfl
@[simp] theorem withPorts_ports (s : State) (x : PerPort PortState) : (s.withPorts x).ports = x := rfl
@[simp] theorem withPorts_rate (s : State) (x : PerPort PortState) : (s.withPorts x).rate = s.rate := rfl
@[simp] theorem withPorts_attn (s : State) (x : PerPort PortState) : (s.withPorts x).attn = s.attn := rfl
@[simp] theorem withPorts_pending (s : State) (x : PerPort PortState) : (s.withPorts x).pending = s.pending := rfl

@[simp] theorem withRate_ship (s : State) (x : Rate) : (s.withRate x).ship = s.ship := rfl
@[simp] theorem withRate_cond (s : State) (x : Rate) : (s.withRate x).cond = s.cond := rfl
@[simp] theorem withRate_eval (s : State) (x : Rate) : (s.withRate x).eval = s.eval := rfl
@[simp] theorem withRate_mon (s : State) (x : Rate) : (s.withRate x).mon = s.mon := rfl
@[simp] theorem withRate_lines (s : State) (x : Rate) : (s.withRate x).lines = s.lines := rfl
@[simp] theorem withRate_lifts (s : State) (x : Rate) : (s.withRate x).lifts = s.lifts := rfl
@[simp] theorem withRate_tanks (s : State) (x : Rate) : (s.withRate x).tanks = s.tanks := rfl
@[simp] theorem withRate_trials (s : State) (x : Rate) : (s.withRate x).trials = s.trials := rfl
@[simp] theorem withRate_ports (s : State) (x : Rate) : (s.withRate x).ports = s.ports := rfl
@[simp] theorem withRate_rate (s : State) (x : Rate) : (s.withRate x).rate = x := rfl
@[simp] theorem withRate_attn (s : State) (x : Rate) : (s.withRate x).attn = s.attn := rfl
@[simp] theorem withRate_pending (s : State) (x : Rate) : (s.withRate x).pending = s.pending := rfl

@[simp] theorem withAttn_ship (s : State) (x : PerPort AttnPort) : (s.withAttn x).ship = s.ship := rfl
@[simp] theorem withAttn_cond (s : State) (x : PerPort AttnPort) : (s.withAttn x).cond = s.cond := rfl
@[simp] theorem withAttn_eval (s : State) (x : PerPort AttnPort) : (s.withAttn x).eval = s.eval := rfl
@[simp] theorem withAttn_mon (s : State) (x : PerPort AttnPort) : (s.withAttn x).mon = s.mon := rfl
@[simp] theorem withAttn_lines (s : State) (x : PerPort AttnPort) : (s.withAttn x).lines = s.lines := rfl
@[simp] theorem withAttn_lifts (s : State) (x : PerPort AttnPort) : (s.withAttn x).lifts = s.lifts := rfl
@[simp] theorem withAttn_tanks (s : State) (x : PerPort AttnPort) : (s.withAttn x).tanks = s.tanks := rfl
@[simp] theorem withAttn_trials (s : State) (x : PerPort AttnPort) : (s.withAttn x).trials = s.trials := rfl
@[simp] theorem withAttn_ports (s : State) (x : PerPort AttnPort) : (s.withAttn x).ports = s.ports := rfl
@[simp] theorem withAttn_rate (s : State) (x : PerPort AttnPort) : (s.withAttn x).rate = s.rate := rfl
@[simp] theorem withAttn_attn (s : State) (x : PerPort AttnPort) : (s.withAttn x).attn = x := rfl
@[simp] theorem withAttn_pending (s : State) (x : PerPort AttnPort) : (s.withAttn x).pending = s.pending := rfl

@[simp] theorem withPending_ship (s : State) (x : List Instr) : (s.withPending x).ship = s.ship := rfl
@[simp] theorem withPending_cond (s : State) (x : List Instr) : (s.withPending x).cond = s.cond := rfl
@[simp] theorem withPending_eval (s : State) (x : List Instr) : (s.withPending x).eval = s.eval := rfl
@[simp] theorem withPending_mon (s : State) (x : List Instr) : (s.withPending x).mon = s.mon := rfl
@[simp] theorem withPending_lines (s : State) (x : List Instr) : (s.withPending x).lines = s.lines := rfl
@[simp] theorem withPending_lifts (s : State) (x : List Instr) : (s.withPending x).lifts = s.lifts := rfl
@[simp] theorem withPending_tanks (s : State) (x : List Instr) : (s.withPending x).tanks = s.tanks := rfl
@[simp] theorem withPending_trials (s : State) (x : List Instr) : (s.withPending x).trials = s.trials := rfl
@[simp] theorem withPending_ports (s : State) (x : List Instr) : (s.withPending x).ports = s.ports := rfl
@[simp] theorem withPending_rate (s : State) (x : List Instr) : (s.withPending x).rate = s.rate := rfl
@[simp] theorem withPending_attn (s : State) (x : List Instr) : (s.withPending x).attn = s.attn := rfl
@[simp] theorem withPending_pending (s : State) (x : List Instr) : (s.withPending x).pending = x := rfl

@[simp] theorem raiseAt_ship (p : Port) (c : Cause) (s : State) : (raiseAt p c s).ship = s.ship := rfl
@[simp] theorem raiseAt_cond (p : Port) (c : Cause) (s : State) : (raiseAt p c s).cond = s.cond := rfl
@[simp] theorem raiseAt_eval (p : Port) (c : Cause) (s : State) : (raiseAt p c s).eval = s.eval := rfl
@[simp] theorem raiseAt_mon (p : Port) (c : Cause) (s : State) : (raiseAt p c s).mon = s.mon := rfl
@[simp] theorem raiseAt_lines (p : Port) (c : Cause) (s : State) : (raiseAt p c s).lines = s.lines := rfl
@[simp] theorem raiseAt_lifts (p : Port) (c : Cause) (s : State) : (raiseAt p c s).lifts = s.lifts := rfl
@[simp] theorem raiseAt_tanks (p : Port) (c : Cause) (s : State) : (raiseAt p c s).tanks = s.tanks := rfl
@[simp] theorem raiseAt_trials (p : Port) (c : Cause) (s : State) : (raiseAt p c s).trials = s.trials := rfl
@[simp] theorem raiseAt_ports (p : Port) (c : Cause) (s : State) : (raiseAt p c s).ports = s.ports := rfl
@[simp] theorem raiseAt_rate (p : Port) (c : Cause) (s : State) : (raiseAt p c s).rate = s.rate := rfl
@[simp] theorem raiseAt_pending (p : Port) (c : Cause) (s : State) : (raiseAt p c s).pending = s.pending := rfl

@[simp] theorem raiseAll_ship (c : Cause) (s : State) : (raiseAll c s).ship = s.ship := rfl
@[simp] theorem raiseAll_cond (c : Cause) (s : State) : (raiseAll c s).cond = s.cond := rfl
@[simp] theorem raiseAll_eval (c : Cause) (s : State) : (raiseAll c s).eval = s.eval := rfl
@[simp] theorem raiseAll_mon (c : Cause) (s : State) : (raiseAll c s).mon = s.mon := rfl
@[simp] theorem raiseAll_lines (c : Cause) (s : State) : (raiseAll c s).lines = s.lines := rfl
@[simp] theorem raiseAll_lifts (c : Cause) (s : State) : (raiseAll c s).lifts = s.lifts := rfl
@[simp] theorem raiseAll_tanks (c : Cause) (s : State) : (raiseAll c s).tanks = s.tanks := rfl
@[simp] theorem raiseAll_trials (c : Cause) (s : State) : (raiseAll c s).trials = s.trials := rfl
@[simp] theorem raiseAll_ports (c : Cause) (s : State) : (raiseAll c s).ports = s.ports := rfl
@[simp] theorem raiseAll_rate (c : Cause) (s : State) : (raiseAll c s).rate = s.rate := rfl
@[simp] theorem raiseAll_pending (c : Cause) (s : State) : (raiseAll c s).pending = s.pending := rfl

@[simp] theorem removeAt_ship (p : Port) (c : Cause) (s : State) : (removeAt p c s).ship = s.ship := rfl
@[simp] theorem removeAt_cond (p : Port) (c : Cause) (s : State) : (removeAt p c s).cond = s.cond := rfl
@[simp] theorem removeAt_eval (p : Port) (c : Cause) (s : State) : (removeAt p c s).eval = s.eval := rfl
@[simp] theorem removeAt_mon (p : Port) (c : Cause) (s : State) : (removeAt p c s).mon = s.mon := rfl
@[simp] theorem removeAt_lines (p : Port) (c : Cause) (s : State) : (removeAt p c s).lines = s.lines := rfl
@[simp] theorem removeAt_lifts (p : Port) (c : Cause) (s : State) : (removeAt p c s).lifts = s.lifts := rfl
@[simp] theorem removeAt_tanks (p : Port) (c : Cause) (s : State) : (removeAt p c s).tanks = s.tanks := rfl
@[simp] theorem removeAt_trials (p : Port) (c : Cause) (s : State) : (removeAt p c s).trials = s.trials := rfl
@[simp] theorem removeAt_ports (p : Port) (c : Cause) (s : State) : (removeAt p c s).ports = s.ports := rfl
@[simp] theorem removeAt_rate (p : Port) (c : Cause) (s : State) : (removeAt p c s).rate = s.rate := rfl
@[simp] theorem removeAt_pending (p : Port) (c : Cause) (s : State) : (removeAt p c s).pending = s.pending := rfl

@[simp] theorem removeAll_ship (c : Cause) (s : State) : (removeAll c s).ship = s.ship := rfl
@[simp] theorem removeAll_cond (c : Cause) (s : State) : (removeAll c s).cond = s.cond := rfl
@[simp] theorem removeAll_eval (c : Cause) (s : State) : (removeAll c s).eval = s.eval := rfl
@[simp] theorem removeAll_mon (c : Cause) (s : State) : (removeAll c s).mon = s.mon := rfl
@[simp] theorem removeAll_lines (c : Cause) (s : State) : (removeAll c s).lines = s.lines := rfl
@[simp] theorem removeAll_lifts (c : Cause) (s : State) : (removeAll c s).lifts = s.lifts := rfl
@[simp] theorem removeAll_tanks (c : Cause) (s : State) : (removeAll c s).tanks = s.tanks := rfl
@[simp] theorem removeAll_trials (c : Cause) (s : State) : (removeAll c s).trials = s.trials := rfl
@[simp] theorem removeAll_ports (c : Cause) (s : State) : (removeAll c s).ports = s.ports := rfl
@[simp] theorem removeAll_rate (c : Cause) (s : State) : (removeAll c s).rate = s.rate := rfl
@[simp] theorem removeAll_pending (c : Cause) (s : State) : (removeAll c s).pending = s.pending := rfl

@[simp] theorem modifyPort_ship (p : Port) (f : PortState → PortState) (s : State) : (s.modifyPort p f).ship = s.ship := rfl
@[simp] theorem modifyPort_cond (p : Port) (f : PortState → PortState) (s : State) : (s.modifyPort p f).cond = s.cond := rfl
@[simp] theorem modifyPort_eval (p : Port) (f : PortState → PortState) (s : State) : (s.modifyPort p f).eval = s.eval := rfl
@[simp] theorem modifyPort_mon (p : Port) (f : PortState → PortState) (s : State) : (s.modifyPort p f).mon = s.mon := rfl
@[simp] theorem modifyPort_lines (p : Port) (f : PortState → PortState) (s : State) : (s.modifyPort p f).lines = s.lines := rfl
@[simp] theorem modifyPort_lifts (p : Port) (f : PortState → PortState) (s : State) : (s.modifyPort p f).lifts = s.lifts := rfl
@[simp] theorem modifyPort_tanks (p : Port) (f : PortState → PortState) (s : State) : (s.modifyPort p f).tanks = s.tanks := rfl
@[simp] theorem modifyPort_trials (p : Port) (f : PortState → PortState) (s : State) : (s.modifyPort p f).trials = s.trials := rfl
@[simp] theorem modifyPort_rate (p : Port) (f : PortState → PortState) (s : State) : (s.modifyPort p f).rate = s.rate := rfl
@[simp] theorem modifyPort_attn (p : Port) (f : PortState → PortState) (s : State) : (s.modifyPort p f).attn = s.attn := rfl
@[simp] theorem modifyPort_pending (p : Port) (f : PortState → PortState) (s : State) : (s.modifyPort p f).pending = s.pending := rfl

@[simp] theorem queueReply_ship (p : Port) (e : TxEntry) (s : State) : (queueReply p e s).ship = s.ship := rfl
@[simp] theorem queueReply_cond (p : Port) (e : TxEntry) (s : State) : (queueReply p e s).cond = s.cond := rfl
@[simp] theorem queueReply_eval (p : Port) (e : TxEntry) (s : State) : (queueReply p e s).eval = s.eval := rfl
@[simp] theorem queueReply_mon (p : Port) (e : TxEntry) (s : State) : (queueReply p e s).mon = s.mon := rfl
@[simp] theorem queueReply_lines (p : Port) (e : TxEntry) (s : State) : (queueReply p e s).lines = s.lines := rfl
@[simp] theorem queueReply_lifts (p : Port) (e : TxEntry) (s : State) : (queueReply p e s).lifts = s.lifts := rfl
@[simp] theorem queueReply_tanks (p : Port) (e : TxEntry) (s : State) : (queueReply p e s).tanks = s.tanks := rfl
@[simp] theorem queueReply_trials (p : Port) (e : TxEntry) (s : State) : (queueReply p e s).trials = s.trials := rfl
@[simp] theorem queueReply_rate (p : Port) (e : TxEntry) (s : State) : (queueReply p e s).rate = s.rate := rfl
@[simp] theorem queueReply_attn (p : Port) (e : TxEntry) (s : State) : (queueReply p e s).attn = s.attn := rfl
@[simp] theorem queueReply_pending (p : Port) (e : TxEntry) (s : State) : (queueReply p e s).pending = s.pending := rfl

@[simp] theorem answer_ship (q : Caller) (a : Answer) (s : State) : (answer q a s).ship = s.ship := rfl
@[simp] theorem answer_cond (q : Caller) (a : Answer) (s : State) : (answer q a s).cond = s.cond := rfl
@[simp] theorem answer_eval (q : Caller) (a : Answer) (s : State) : (answer q a s).eval = s.eval := rfl
@[simp] theorem answer_mon (q : Caller) (a : Answer) (s : State) : (answer q a s).mon = s.mon := rfl
@[simp] theorem answer_lines (q : Caller) (a : Answer) (s : State) : (answer q a s).lines = s.lines := rfl
@[simp] theorem answer_lifts (q : Caller) (a : Answer) (s : State) : (answer q a s).lifts = s.lifts := rfl
@[simp] theorem answer_tanks (q : Caller) (a : Answer) (s : State) : (answer q a s).tanks = s.tanks := rfl
@[simp] theorem answer_trials (q : Caller) (a : Answer) (s : State) : (answer q a s).trials = s.trials := rfl
@[simp] theorem answer_rate (q : Caller) (a : Answer) (s : State) : (answer q a s).rate = s.rate := rfl
@[simp] theorem answer_attn (q : Caller) (a : Answer) (s : State) : (answer q a s).attn = s.attn := rfl
@[simp] theorem answer_pending (q : Caller) (a : Answer) (s : State) : (answer q a s).pending = s.pending := rfl

@[simp] theorem defer_ship (q : Caller) (s : State) : (defer q s).ship = s.ship := rfl
@[simp] theorem defer_cond (q : Caller) (s : State) : (defer q s).cond = s.cond := rfl
@[simp] theorem defer_eval (q : Caller) (s : State) : (defer q s).eval = s.eval := rfl
@[simp] theorem defer_mon (q : Caller) (s : State) : (defer q s).mon = s.mon := rfl
@[simp] theorem defer_lines (q : Caller) (s : State) : (defer q s).lines = s.lines := rfl
@[simp] theorem defer_lifts (q : Caller) (s : State) : (defer q s).lifts = s.lifts := rfl
@[simp] theorem defer_tanks (q : Caller) (s : State) : (defer q s).tanks = s.tanks := rfl
@[simp] theorem defer_trials (q : Caller) (s : State) : (defer q s).trials = s.trials := rfl
@[simp] theorem defer_rate (q : Caller) (s : State) : (defer q s).rate = s.rate := rfl
@[simp] theorem defer_attn (q : Caller) (s : State) : (defer q s).attn = s.attn := rfl
@[simp] theorem defer_pending (q : Caller) (s : State) : (defer q s).pending = s.pending := rfl

@[simp] theorem openRequest_ship (q : Caller) (s : State) : (openRequest q s).ship = s.ship := rfl
@[simp] theorem openRequest_cond (q : Caller) (s : State) : (openRequest q s).cond = s.cond := rfl
@[simp] theorem openRequest_eval (q : Caller) (s : State) : (openRequest q s).eval = s.eval := rfl
@[simp] theorem openRequest_mon (q : Caller) (s : State) : (openRequest q s).mon = s.mon := rfl
@[simp] theorem openRequest_lines (q : Caller) (s : State) : (openRequest q s).lines = s.lines := rfl
@[simp] theorem openRequest_lifts (q : Caller) (s : State) : (openRequest q s).lifts = s.lifts := rfl
@[simp] theorem openRequest_tanks (q : Caller) (s : State) : (openRequest q s).tanks = s.tanks := rfl
@[simp] theorem openRequest_trials (q : Caller) (s : State) : (openRequest q s).trials = s.trials := rfl
@[simp] theorem openRequest_rate (q : Caller) (s : State) : (openRequest q s).rate = s.rate := rfl
@[simp] theorem openRequest_attn (q : Caller) (s : State) : (openRequest q s).attn = s.attn := rfl
@[simp] theorem openRequest_pending (q : Caller) (s : State) : (openRequest q s).pending = s.pending := rfl

@[simp] theorem setRx_ship (p : Port) (r : Receiver) (s : State) : (s.setRx p r).ship = s.ship := rfl
@[simp] theorem setRx_cond (p : Port) (r : Receiver) (s : State) : (s.setRx p r).cond = s.cond := rfl
@[simp] theorem setRx_eval (p : Port) (r : Receiver) (s : State) : (s.setRx p r).eval = s.eval := rfl
@[simp] theorem setRx_mon (p : Port) (r : Receiver) (s : State) : (s.setRx p r).mon = s.mon := rfl
@[simp] theorem setRx_lines (p : Port) (r : Receiver) (s : State) : (s.setRx p r).lines = s.lines := rfl
@[simp] theorem setRx_lifts (p : Port) (r : Receiver) (s : State) : (s.setRx p r).lifts = s.lifts := rfl
@[simp] theorem setRx_tanks (p : Port) (r : Receiver) (s : State) : (s.setRx p r).tanks = s.tanks := rfl
@[simp] theorem setRx_trials (p : Port) (r : Receiver) (s : State) : (s.setRx p r).trials = s.trials := rfl
@[simp] theorem setRx_rate (p : Port) (r : Receiver) (s : State) : (s.setRx p r).rate = s.rate := rfl
@[simp] theorem setRx_attn (p : Port) (r : Receiver) (s : State) : (s.setRx p r).attn = s.attn := rfl
@[simp] theorem setRx_pending (p : Port) (r : Receiver) (s : State) : (s.setRx p r).pending = s.pending := rfl

@[simp] theorem raiseRoutine_ship (s : State) : (raiseRoutine s).ship = s.ship := rfl
@[simp] theorem raiseRoutine_cond (s : State) : (raiseRoutine s).cond = s.cond := rfl
@[simp] theorem raiseRoutine_mon (s : State) : (raiseRoutine s).mon = s.mon := rfl
@[simp] theorem raiseRoutine_lines (s : State) : (raiseRoutine s).lines = s.lines := rfl
@[simp] theorem raiseRoutine_lifts (s : State) : (raiseRoutine s).lifts = s.lifts := rfl
@[simp] theorem raiseRoutine_tanks (s : State) : (raiseRoutine s).tanks = s.tanks := rfl
@[simp] theorem raiseRoutine_trials (s : State) : (raiseRoutine s).trials = s.trials := rfl
@[simp] theorem raiseRoutine_ports (s : State) : (raiseRoutine s).ports = s.ports := rfl
@[simp] theorem raiseRoutine_rate (s : State) : (raiseRoutine s).rate = s.rate := rfl
@[simp] theorem raiseRoutine_attn (s : State) : (raiseRoutine s).attn = s.attn := rfl
@[simp] theorem raiseRoutine_pending (s : State) : (raiseRoutine s).pending = s.pending := rfl

@[simp] theorem setItem_ship (tag : Nat) (it : ItemRecord) (s : State) : (s.setItem tag it).ship = s.ship := rfl
@[simp] theorem setItem_eval (tag : Nat) (it : ItemRecord) (s : State) : (s.setItem tag it).eval = s.eval := rfl
@[simp] theorem setItem_mon (tag : Nat) (it : ItemRecord) (s : State) : (s.setItem tag it).mon = s.mon := rfl
@[simp] theorem setItem_lines (tag : Nat) (it : ItemRecord) (s : State) : (s.setItem tag it).lines = s.lines := rfl
@[simp] theorem setItem_lifts (tag : Nat) (it : ItemRecord) (s : State) : (s.setItem tag it).lifts = s.lifts := rfl
@[simp] theorem setItem_tanks (tag : Nat) (it : ItemRecord) (s : State) : (s.setItem tag it).tanks = s.tanks := rfl
@[simp] theorem setItem_trials (tag : Nat) (it : ItemRecord) (s : State) : (s.setItem tag it).trials = s.trials := rfl
@[simp] theorem setItem_ports (tag : Nat) (it : ItemRecord) (s : State) : (s.setItem tag it).ports = s.ports := rfl
@[simp] theorem setItem_rate (tag : Nat) (it : ItemRecord) (s : State) : (s.setItem tag it).rate = s.rate := rfl
@[simp] theorem setItem_attn (tag : Nat) (it : ItemRecord) (s : State) : (s.setItem tag it).attn = s.attn := rfl
@[simp] theorem setItem_pending (tag : Nat) (it : ItemRecord) (s : State) : (s.setItem tag it).pending = s.pending := rfl

@[simp] theorem setComp_ship (n : Nat) (x : CompState) (s : State) : (s.setComp n x).ship = s.ship := rfl
@[simp] theorem setComp_eval (n : Nat) (x : CompState) (s : State) : (s.setComp n x).eval = s.eval := rfl
@[simp] theorem setComp_mon (n : Nat) (x : CompState) (s : State) : (s.setComp n x).mon = s.mon := rfl
@[simp] theorem setComp_lines (n : Nat) (x : CompState) (s : State) : (s.setComp n x).lines = s.lines := rfl
@[simp] theorem setComp_lifts (n : Nat) (x : CompState) (s : State) : (s.setComp n x).lifts = s.lifts := rfl
@[simp] theorem setComp_tanks (n : Nat) (x : CompState) (s : State) : (s.setComp n x).tanks = s.tanks := rfl
@[simp] theorem setComp_trials (n : Nat) (x : CompState) (s : State) : (s.setComp n x).trials = s.trials := rfl
@[simp] theorem setComp_ports (n : Nat) (x : CompState) (s : State) : (s.setComp n x).ports = s.ports := rfl
@[simp] theorem setComp_rate (n : Nat) (x : CompState) (s : State) : (s.setComp n x).rate = s.rate := rfl
@[simp] theorem setComp_attn (n : Nat) (x : CompState) (s : State) : (s.setComp n x).attn = s.attn := rfl
@[simp] theorem setComp_pending (n : Nat) (x : CompState) (s : State) : (s.setComp n x).pending = s.pending := rfl

@[simp] theorem stowIn_ship (tag : Nat) (m : Int) (n : Nat) (s : State) : (stowIn tag m n s).ship = s.ship := rfl
@[simp] theorem stowIn_eval (tag : Nat) (m : Int) (n : Nat) (s : State) : (stowIn tag m n s).eval = s.eval := rfl
@[simp] theorem stowIn_mon (tag : Nat) (m : Int) (n : Nat) (s : State) : (stowIn tag m n s).mon = s.mon := rfl
@[simp] theorem stowIn_lines (tag : Nat) (m : Int) (n : Nat) (s : State) : (stowIn tag m n s).lines = s.lines := rfl
@[simp] theorem stowIn_lifts (tag : Nat) (m : Int) (n : Nat) (s : State) : (stowIn tag m n s).lifts = s.lifts := rfl
@[simp] theorem stowIn_tanks (tag : Nat) (m : Int) (n : Nat) (s : State) : (stowIn tag m n s).tanks = s.tanks := rfl
@[simp] theorem stowIn_trials (tag : Nat) (m : Int) (n : Nat) (s : State) : (stowIn tag m n s).trials = s.trials := rfl
@[simp] theorem stowIn_ports (tag : Nat) (m : Int) (n : Nat) (s : State) : (stowIn tag m n s).ports = s.ports := rfl
@[simp] theorem stowIn_rate (tag : Nat) (m : Int) (n : Nat) (s : State) : (stowIn tag m n s).rate = s.rate := rfl
@[simp] theorem stowIn_attn (tag : Nat) (m : Int) (n : Nat) (s : State) : (stowIn tag m n s).attn = s.attn := rfl
@[simp] theorem stowIn_pending (tag : Nat) (m : Int) (n : Nat) (s : State) : (stowIn tag m n s).pending = s.pending := rfl

@[simp] theorem stowOut_ship (tag : Nat) (m : Int) (n : Nat) (s : State) : (stowOut tag m n s).ship = s.ship := rfl
@[simp] theorem stowOut_eval (tag : Nat) (m : Int) (n : Nat) (s : State) : (stowOut tag m n s).eval = s.eval := rfl
@[simp] theorem stowOut_mon (tag : Nat) (m : Int) (n : Nat) (s : State) : (stowOut tag m n s).mon = s.mon := rfl
@[simp] theorem stowOut_lines (tag : Nat) (m : Int) (n : Nat) (s : State) : (stowOut tag m n s).lines = s.lines := rfl
@[simp] theorem stowOut_lifts (tag : Nat) (m : Int) (n : Nat) (s : State) : (stowOut tag m n s).lifts = s.lifts := rfl
@[simp] theorem stowOut_tanks (tag : Nat) (m : Int) (n : Nat) (s : State) : (stowOut tag m n s).tanks = s.tanks := rfl
@[simp] theorem stowOut_trials (tag : Nat) (m : Int) (n : Nat) (s : State) : (stowOut tag m n s).trials = s.trials := rfl
@[simp] theorem stowOut_ports (tag : Nat) (m : Int) (n : Nat) (s : State) : (stowOut tag m n s).ports = s.ports := rfl
@[simp] theorem stowOut_rate (tag : Nat) (m : Int) (n : Nat) (s : State) : (stowOut tag m n s).rate = s.rate := rfl
@[simp] theorem stowOut_attn (tag : Nat) (m : Int) (n : Nat) (s : State) : (stowOut tag m n s).attn = s.attn := rfl
@[simp] theorem stowOut_pending (tag : Nat) (m : Int) (n : Nat) (s : State) : (stowOut tag m n s).pending = s.pending := rfl

@[simp] theorem emptyStows_ship (s : State) : (emptyStows s).ship = s.ship := rfl
@[simp] theorem emptyStows_eval (s : State) : (emptyStows s).eval = s.eval := rfl
@[simp] theorem emptyStows_mon (s : State) : (emptyStows s).mon = s.mon := rfl
@[simp] theorem emptyStows_lines (s : State) : (emptyStows s).lines = s.lines := rfl
@[simp] theorem emptyStows_lifts (s : State) : (emptyStows s).lifts = s.lifts := rfl
@[simp] theorem emptyStows_tanks (s : State) : (emptyStows s).tanks = s.tanks := rfl
@[simp] theorem emptyStows_trials (s : State) : (emptyStows s).trials = s.trials := rfl
@[simp] theorem emptyStows_ports (s : State) : (emptyStows s).ports = s.ports := rfl
@[simp] theorem emptyStows_rate (s : State) : (emptyStows s).rate = s.rate := rfl
@[simp] theorem emptyStows_attn (s : State) : (emptyStows s).attn = s.attn := rfl
@[simp] theorem emptyStows_pending (s : State) : (emptyStows s).pending = s.pending := rfl

@[simp] theorem driveLines_ship (s : State) : (driveLines s).ship = s.ship := rfl
@[simp] theorem driveLines_cond (s : State) : (driveLines s).cond = s.cond := rfl
@[simp] theorem driveLines_eval (s : State) : (driveLines s).eval = s.eval := rfl
@[simp] theorem driveLines_mon (s : State) : (driveLines s).mon = s.mon := rfl
@[simp] theorem driveLines_lifts (s : State) : (driveLines s).lifts = s.lifts := rfl
@[simp] theorem driveLines_tanks (s : State) : (driveLines s).tanks = s.tanks := rfl
@[simp] theorem driveLines_trials (s : State) : (driveLines s).trials = s.trials := rfl
@[simp] theorem driveLines_ports (s : State) : (driveLines s).ports = s.ports := rfl
@[simp] theorem driveLines_rate (s : State) : (driveLines s).rate = s.rate := rfl
@[simp] theorem driveLines_attn (s : State) : (driveLines s).attn = s.attn := rfl
@[simp] theorem driveLines_pending (s : State) : (driveLines s).pending = s.pending := rfl

@[simp] theorem setRecord_ship (c : Crane) (r : LiftRecord) (s : State) : (s.setRecord c r).ship = s.ship := rfl
@[simp] theorem setRecord_cond (c : Crane) (r : LiftRecord) (s : State) : (s.setRecord c r).cond = s.cond := rfl
@[simp] theorem setRecord_eval (c : Crane) (r : LiftRecord) (s : State) : (s.setRecord c r).eval = s.eval := rfl
@[simp] theorem setRecord_mon (c : Crane) (r : LiftRecord) (s : State) : (s.setRecord c r).mon = s.mon := rfl
@[simp] theorem setRecord_lines (c : Crane) (r : LiftRecord) (s : State) : (s.setRecord c r).lines = s.lines := rfl
@[simp] theorem setRecord_tanks (c : Crane) (r : LiftRecord) (s : State) : (s.setRecord c r).tanks = s.tanks := rfl
@[simp] theorem setRecord_trials (c : Crane) (r : LiftRecord) (s : State) : (s.setRecord c r).trials = s.trials := rfl
@[simp] theorem setRecord_ports (c : Crane) (r : LiftRecord) (s : State) : (s.setRecord c r).ports = s.ports := rfl
@[simp] theorem setRecord_rate (c : Crane) (r : LiftRecord) (s : State) : (s.setRecord c r).rate = s.rate := rfl
@[simp] theorem setRecord_attn (c : Crane) (r : LiftRecord) (s : State) : (s.setRecord c r).attn = s.attn := rfl
@[simp] theorem setRecord_pending (c : Crane) (r : LiftRecord) (s : State) : (s.setRecord c r).pending = s.pending := rfl

@[simp] theorem awaitLift_ship (c : Crane) (w : Option Caller) (s : State) : (s.awaitLift c w).ship = s.ship := rfl
@[simp] theorem awaitLift_cond (c : Crane) (w : Option Caller) (s : State) : (s.awaitLift c w).cond = s.cond := rfl
@[simp] theorem awaitLift_eval (c : Crane) (w : Option Caller) (s : State) : (s.awaitLift c w).eval = s.eval := rfl
@[simp] theorem awaitLift_mon (c : Crane) (w : Option Caller) (s : State) : (s.awaitLift c w).mon = s.mon := rfl
@[simp] theorem awaitLift_lines (c : Crane) (w : Option Caller) (s : State) : (s.awaitLift c w).lines = s.lines := rfl
@[simp] theorem awaitLift_tanks (c : Crane) (w : Option Caller) (s : State) : (s.awaitLift c w).tanks = s.tanks := rfl
@[simp] theorem awaitLift_trials (c : Crane) (w : Option Caller) (s : State) : (s.awaitLift c w).trials = s.trials := rfl
@[simp] theorem awaitLift_ports (c : Crane) (w : Option Caller) (s : State) : (s.awaitLift c w).ports = s.ports := rfl
@[simp] theorem awaitLift_rate (c : Crane) (w : Option Caller) (s : State) : (s.awaitLift c w).rate = s.rate := rfl
@[simp] theorem awaitLift_attn (c : Crane) (w : Option Caller) (s : State) : (s.awaitLift c w).attn = s.attn := rfl
@[simp] theorem awaitLift_pending (c : Crane) (w : Option Caller) (s : State) : (s.awaitLift c w).pending = s.pending := rfl

@[simp] theorem modifySlot_ship (i : Nat) (f : Slot → Slot) (s : State) : (s.modifySlot i f).ship = s.ship := rfl
@[simp] theorem modifySlot_cond (i : Nat) (f : Slot → Slot) (s : State) : (s.modifySlot i f).cond = s.cond := rfl
@[simp] theorem modifySlot_eval (i : Nat) (f : Slot → Slot) (s : State) : (s.modifySlot i f).eval = s.eval := rfl
@[simp] theorem modifySlot_lines (i : Nat) (f : Slot → Slot) (s : State) : (s.modifySlot i f).lines = s.lines := rfl
@[simp] theorem modifySlot_lifts (i : Nat) (f : Slot → Slot) (s : State) : (s.modifySlot i f).lifts = s.lifts := rfl
@[simp] theorem modifySlot_tanks (i : Nat) (f : Slot → Slot) (s : State) : (s.modifySlot i f).tanks = s.tanks := rfl
@[simp] theorem modifySlot_trials (i : Nat) (f : Slot → Slot) (s : State) : (s.modifySlot i f).trials = s.trials := rfl
@[simp] theorem modifySlot_ports (i : Nat) (f : Slot → Slot) (s : State) : (s.modifySlot i f).ports = s.ports := rfl
@[simp] theorem modifySlot_rate (i : Nat) (f : Slot → Slot) (s : State) : (s.modifySlot i f).rate = s.rate := rfl
@[simp] theorem modifySlot_attn (i : Nat) (f : Slot → Slot) (s : State) : (s.modifySlot i f).attn = s.attn := rfl
@[simp] theorem modifySlot_pending (i : Nat) (f : Slot → Slot) (s : State) : (s.modifySlot i f).pending = s.pending := rfl

@[simp] theorem countError_ship (p : Port) (k : LineErr) (s : State) : (countError p k s).ship = s.ship := by unfold countError; split <;> rfl
@[simp] theorem countError_cond (p : Port) (k : LineErr) (s : State) : (countError p k s).cond = s.cond := by unfold countError; split <;> rfl
@[simp] theorem countError_eval (p : Port) (k : LineErr) (s : State) : (countError p k s).eval = s.eval := by unfold countError; split <;> rfl
@[simp] theorem countError_mon (p : Port) (k : LineErr) (s : State) : (countError p k s).mon = s.mon := by unfold countError; split <;> rfl
@[simp] theorem countError_lines (p : Port) (k : LineErr) (s : State) : (countError p k s).lines = s.lines := by unfold countError; split <;> rfl
@[simp] theorem countError_lifts (p : Port) (k : LineErr) (s : State) : (countError p k s).lifts = s.lifts := by unfold countError; split <;> rfl
@[simp] theorem countError_tanks (p : Port) (k : LineErr) (s : State) : (countError p k s).tanks = s.tanks := by unfold countError; split <;> rfl
@[simp] theorem countError_trials (p : Port) (k : LineErr) (s : State) : (countError p k s).trials = s.trials := by unfold countError; split <;> rfl
@[simp] theorem countError_rate (p : Port) (k : LineErr) (s : State) : (countError p k s).rate = s.rate := by unfold countError; split <;> rfl
@[simp] theorem countError_pending (p : Port) (k : LineErr) (s : State) : (countError p k s).pending = s.pending := by unfold countError; split <;> rfl

@[simp] theorem deliver_ship (q : Caller) (a : Answer) (s : State) : (deliver q a s).ship = s.ship := by unfold deliver; split <;> rfl
@[simp] theorem deliver_cond (q : Caller) (a : Answer) (s : State) : (deliver q a s).cond = s.cond := by unfold deliver; split <;> rfl
@[simp] theorem deliver_eval (q : Caller) (a : Answer) (s : State) : (deliver q a s).eval = s.eval := by unfold deliver; split <;> rfl
@[simp] theorem deliver_mon (q : Caller) (a : Answer) (s : State) : (deliver q a s).mon = s.mon := by unfold deliver; split <;> rfl
@[simp] theorem deliver_lines (q : Caller) (a : Answer) (s : State) : (deliver q a s).lines = s.lines := by unfold deliver; split <;> rfl
@[simp] theorem deliver_lifts (q : Caller) (a : Answer) (s : State) : (deliver q a s).lifts = s.lifts := by unfold deliver; split <;> rfl
@[simp] theorem deliver_tanks (q : Caller) (a : Answer) (s : State) : (deliver q a s).tanks = s.tanks := by unfold deliver; split <;> rfl
@[simp] theorem deliver_trials (q : Caller) (a : Answer) (s : State) : (deliver q a s).trials = s.trials := by unfold deliver; split <;> rfl
@[simp] theorem deliver_rate (q : Caller) (a : Answer) (s : State) : (deliver q a s).rate = s.rate := by unfold deliver; split <;> rfl
@[simp] theorem deliver_attn (q : Caller) (a : Answer) (s : State) : (deliver q a s).attn = s.attn := by unfold deliver; split <;> rfl
@[simp] theorem deliver_pending (q : Caller) (a : Answer) (s : State) : (deliver q a s).pending = s.pending := by unfold deliver; split <;> rfl

@[simp] theorem deliverTo_ship (q : Option Caller) (a : Answer) (s : State) : (deliverTo q a s).ship = s.ship := by cases q <;> simp [deliverTo]
@[simp] theorem deliverTo_cond (q : Option Caller) (a : Answer) (s : State) : (deliverTo q a s).cond = s.cond := by cases q <;> simp [deliverTo]
@[simp] theorem deliverTo_eval (q : Option Caller) (a : Answer) (s : State) : (deliverTo q a s).eval = s.eval := by cases q <;> simp [deliverTo]
@[simp] theorem deliverTo_mon (q : Option Caller) (a : Answer) (s : State) : (deliverTo q a s).mon = s.mon := by cases q <;> simp [deliverTo]
@[simp] theorem deliverTo_lines (q : Option Caller) (a : Answer) (s : State) : (deliverTo q a s).lines = s.lines := by cases q <;> simp [deliverTo]
@[simp] theorem deliverTo_lifts (q : Option Caller) (a : Answer) (s : State) : (deliverTo q a s).lifts = s.lifts := by cases q <;> simp [deliverTo]
@[simp] theorem deliverTo_tanks (q : Option Caller) (a : Answer) (s : State) : (deliverTo q a s).tanks = s.tanks := by cases q <;> simp [deliverTo]
@[simp] theorem deliverTo_trials (q : Option Caller) (a : Answer) (s : State) : (deliverTo q a s).trials = s.trials := by cases q <;> simp [deliverTo]
@[simp] theorem deliverTo_rate (q : Option Caller) (a : Answer) (s : State) : (deliverTo q a s).rate = s.rate := by cases q <;> simp [deliverTo]
@[simp] theorem deliverTo_attn (q : Option Caller) (a : Answer) (s : State) : (deliverTo q a s).attn = s.attn := by cases q <;> simp [deliverTo]
@[simp] theorem deliverTo_pending (q : Option Caller) (a : Answer) (s : State) : (deliverTo q a s).pending = s.pending := by cases q <;> simp [deliverTo]

@[simp] theorem refuseBusy_ship (p : Port) (k tag : Byte) (s : State) : (refuseBusy p k tag s).ship = s.ship := by unfold refuseBusy; split <;> simp
@[simp] theorem refuseBusy_cond (p : Port) (k tag : Byte) (s : State) : (refuseBusy p k tag s).cond = s.cond := by unfold refuseBusy; split <;> simp
@[simp] theorem refuseBusy_eval (p : Port) (k tag : Byte) (s : State) : (refuseBusy p k tag s).eval = s.eval := by unfold refuseBusy; split <;> simp
@[simp] theorem refuseBusy_mon (p : Port) (k tag : Byte) (s : State) : (refuseBusy p k tag s).mon = s.mon := by unfold refuseBusy; split <;> simp
@[simp] theorem refuseBusy_lines (p : Port) (k tag : Byte) (s : State) : (refuseBusy p k tag s).lines = s.lines := by unfold refuseBusy; split <;> simp
@[simp] theorem refuseBusy_lifts (p : Port) (k tag : Byte) (s : State) : (refuseBusy p k tag s).lifts = s.lifts := by unfold refuseBusy; split <;> simp
@[simp] theorem refuseBusy_tanks (p : Port) (k tag : Byte) (s : State) : (refuseBusy p k tag s).tanks = s.tanks := by unfold refuseBusy; split <;> simp
@[simp] theorem refuseBusy_trials (p : Port) (k tag : Byte) (s : State) : (refuseBusy p k tag s).trials = s.trials := by unfold refuseBusy; split <;> simp
@[simp] theorem refuseBusy_rate (p : Port) (k tag : Byte) (s : State) : (refuseBusy p k tag s).rate = s.rate := by unfold refuseBusy; split <;> simp
@[simp] theorem refuseBusy_pending (p : Port) (k tag : Byte) (s : State) : (refuseBusy p k tag s).pending = s.pending := by unfold refuseBusy; split <;> simp

@[simp] theorem triggerRoutine_ship (s : State) : (triggerRoutine s).ship = s.ship := by unfold triggerRoutine; split <;> rfl
@[simp] theorem triggerRoutine_cond (s : State) : (triggerRoutine s).cond = s.cond := by unfold triggerRoutine; split <;> rfl
@[simp] theorem triggerRoutine_mon (s : State) : (triggerRoutine s).mon = s.mon := by unfold triggerRoutine; split <;> rfl
@[simp] theorem triggerRoutine_lines (s : State) : (triggerRoutine s).lines = s.lines := by unfold triggerRoutine; split <;> rfl
@[simp] theorem triggerRoutine_lifts (s : State) : (triggerRoutine s).lifts = s.lifts := by unfold triggerRoutine; split <;> rfl
@[simp] theorem triggerRoutine_tanks (s : State) : (triggerRoutine s).tanks = s.tanks := by unfold triggerRoutine; split <;> rfl
@[simp] theorem triggerRoutine_trials (s : State) : (triggerRoutine s).trials = s.trials := by unfold triggerRoutine; split <;> rfl
@[simp] theorem triggerRoutine_ports (s : State) : (triggerRoutine s).ports = s.ports := by unfold triggerRoutine; split <;> rfl
@[simp] theorem triggerRoutine_rate (s : State) : (triggerRoutine s).rate = s.rate := by unfold triggerRoutine; split <;> rfl
@[simp] theorem triggerRoutine_attn (s : State) : (triggerRoutine s).attn = s.attn := by unfold triggerRoutine; split <;> rfl
@[simp] theorem triggerRoutine_pending (s : State) : (triggerRoutine s).pending = s.pending := by unfold triggerRoutine; split <;> rfl

@[simp] theorem advance_ship (s : State) : (advance s).ship = s.ship := by simp [advance]
@[simp] theorem advance_mon (s : State) : (advance s).mon = s.mon := by simp [advance]
@[simp] theorem advance_lines (s : State) : (advance s).lines = s.lines := by simp [advance]
@[simp] theorem advance_lifts (s : State) : (advance s).lifts = s.lifts := by simp [advance]
@[simp] theorem advance_tanks (s : State) : (advance s).tanks = s.tanks := by simp [advance]
@[simp] theorem advance_trials (s : State) : (advance s).trials = s.trials := by simp [advance]
@[simp] theorem advance_ports (s : State) : (advance s).ports = s.ports := by simp [advance]
@[simp] theorem advance_rate (s : State) : (advance s).rate = s.rate := by simp [advance]
@[simp] theorem advance_attn (s : State) : (advance s).attn = s.attn := by simp [advance]
@[simp] theorem advance_pending (s : State) : (advance s).pending = s.pending := by simp [advance]

@[simp] theorem settle_ship (s : State) : (settle s).ship = s.ship := by dsimp only [settle]; split <;> rfl
@[simp] theorem settle_cond (s : State) : (settle s).cond = s.cond := by dsimp only [settle]; split <;> rfl
@[simp] theorem settle_eval (s : State) : (settle s).eval = s.eval := by dsimp only [settle]; split <;> rfl
@[simp] theorem settle_lifts (s : State) : (settle s).lifts = s.lifts := by dsimp only [settle]; split <;> rfl
@[simp] theorem settle_tanks (s : State) : (settle s).tanks = s.tanks := by dsimp only [settle]; split <;> rfl
@[simp] theorem settle_trials (s : State) : (settle s).trials = s.trials := by dsimp only [settle]; split <;> rfl
@[simp] theorem settle_ports (s : State) : (settle s).ports = s.ports := by dsimp only [settle]; split <;> rfl
@[simp] theorem settle_rate (s : State) : (settle s).rate = s.rate := by dsimp only [settle]; split <;> rfl
@[simp] theorem settle_pending (s : State) : (settle s).pending = s.pending := by dsimp only [settle]; split <;> rfl

@[simp] theorem settleRise_ship (s : State) : (settleRise s).ship = s.ship := by dsimp only [settleRise]; split <;> simp
@[simp] theorem settleRise_cond (s : State) : (settleRise s).cond = s.cond := by dsimp only [settleRise]; split <;> simp
@[simp] theorem settleRise_eval (s : State) : (settleRise s).eval = s.eval := by dsimp only [settleRise]; split <;> simp
@[simp] theorem settleRise_lifts (s : State) : (settleRise s).lifts = s.lifts := by dsimp only [settleRise]; split <;> simp
@[simp] theorem settleRise_tanks (s : State) : (settleRise s).tanks = s.tanks := by dsimp only [settleRise]; split <;> simp
@[simp] theorem settleRise_trials (s : State) : (settleRise s).trials = s.trials := by dsimp only [settleRise]; split <;> simp
@[simp] theorem settleRise_ports (s : State) : (settleRise s).ports = s.ports := by dsimp only [settleRise]; split <;> simp
@[simp] theorem settleRise_rate (s : State) : (settleRise s).rate = s.rate := by dsimp only [settleRise]; split <;> simp
@[simp] theorem settleRise_pending (s : State) : (settleRise s).pending = s.pending := by dsimp only [settleRise]; split <;> simp

@[simp] theorem changeMode_cond (m : ServiceMode) (r : Option FaultReason) (s : State) : (changeMode m r s).cond = s.cond := by dsimp only [changeMode]; split <;> rfl
@[simp] theorem changeMode_eval (m : ServiceMode) (r : Option FaultReason) (s : State) : (changeMode m r s).eval = s.eval := by dsimp only [changeMode]; split <;> rfl
@[simp] theorem changeMode_mon (m : ServiceMode) (r : Option FaultReason) (s : State) : (changeMode m r s).mon = s.mon := by dsimp only [changeMode]; split <;> rfl
@[simp] theorem changeMode_lifts (m : ServiceMode) (r : Option FaultReason) (s : State) : (changeMode m r s).lifts = s.lifts := by dsimp only [changeMode]; split <;> rfl
@[simp] theorem changeMode_tanks (m : ServiceMode) (r : Option FaultReason) (s : State) : (changeMode m r s).tanks = s.tanks := by dsimp only [changeMode]; split <;> rfl
@[simp] theorem changeMode_trials (m : ServiceMode) (r : Option FaultReason) (s : State) : (changeMode m r s).trials = s.trials := by dsimp only [changeMode]; split <;> rfl
@[simp] theorem changeMode_ports (m : ServiceMode) (r : Option FaultReason) (s : State) : (changeMode m r s).ports = s.ports := by dsimp only [changeMode]; split <;> rfl
@[simp] theorem changeMode_rate (m : ServiceMode) (r : Option FaultReason) (s : State) : (changeMode m r s).rate = s.rate := by dsimp only [changeMode]; split <;> rfl
@[simp] theorem changeMode_pending (m : ServiceMode) (r : Option FaultReason) (s : State) : (changeMode m r s).pending = s.pending := by dsimp only [changeMode]; split <;> rfl

@[simp] theorem startInterval_ship (s : State) : (startInterval s).ship = s.ship := by unfold startInterval; split <;> rfl
@[simp] theorem startInterval_cond (s : State) : (startInterval s).cond = s.cond := by unfold startInterval; split <;> rfl
@[simp] theorem startInterval_mon (s : State) : (startInterval s).mon = s.mon := by unfold startInterval; split <;> rfl
@[simp] theorem startInterval_lines (s : State) : (startInterval s).lines = s.lines := by unfold startInterval; split <;> rfl
@[simp] theorem startInterval_lifts (s : State) : (startInterval s).lifts = s.lifts := by unfold startInterval; split <;> rfl
@[simp] theorem startInterval_tanks (s : State) : (startInterval s).tanks = s.tanks := by unfold startInterval; split <;> rfl
@[simp] theorem startInterval_trials (s : State) : (startInterval s).trials = s.trials := by unfold startInterval; split <;> rfl
@[simp] theorem startInterval_ports (s : State) : (startInterval s).ports = s.ports := by unfold startInterval; split <;> rfl
@[simp] theorem startInterval_rate (s : State) : (startInterval s).rate = s.rate := by unfold startInterval; split <;> rfl
@[simp] theorem startInterval_attn (s : State) : (startInterval s).attn = s.attn := by unfold startInterval; split <;> rfl
@[simp] theorem startInterval_pending (s : State) : (startInterval s).pending = s.pending := by unfold startInterval; split <;> rfl

@[simp] theorem leaveComp_ship (tag : Nat) (it : ItemRecord) (s : State) : (leaveComp tag it s).ship = s.ship := by unfold leaveComp; split <;> rfl
@[simp] theorem leaveComp_eval (tag : Nat) (it : ItemRecord) (s : State) : (leaveComp tag it s).eval = s.eval := by unfold leaveComp; split <;> rfl
@[simp] theorem leaveComp_mon (tag : Nat) (it : ItemRecord) (s : State) : (leaveComp tag it s).mon = s.mon := by unfold leaveComp; split <;> rfl
@[simp] theorem leaveComp_lines (tag : Nat) (it : ItemRecord) (s : State) : (leaveComp tag it s).lines = s.lines := by unfold leaveComp; split <;> rfl
@[simp] theorem leaveComp_lifts (tag : Nat) (it : ItemRecord) (s : State) : (leaveComp tag it s).lifts = s.lifts := by unfold leaveComp; split <;> rfl
@[simp] theorem leaveComp_tanks (tag : Nat) (it : ItemRecord) (s : State) : (leaveComp tag it s).tanks = s.tanks := by unfold leaveComp; split <;> rfl
@[simp] theorem leaveComp_trials (tag : Nat) (it : ItemRecord) (s : State) : (leaveComp tag it s).trials = s.trials := by unfold leaveComp; split <;> rfl
@[simp] theorem leaveComp_ports (tag : Nat) (it : ItemRecord) (s : State) : (leaveComp tag it s).ports = s.ports := by unfold leaveComp; split <;> rfl
@[simp] theorem leaveComp_rate (tag : Nat) (it : ItemRecord) (s : State) : (leaveComp tag it s).rate = s.rate := by unfold leaveComp; split <;> rfl
@[simp] theorem leaveComp_attn (tag : Nat) (it : ItemRecord) (s : State) : (leaveComp tag it s).attn = s.attn := by unfold leaveComp; split <;> rfl
@[simp] theorem leaveComp_pending (tag : Nat) (it : ItemRecord) (s : State) : (leaveComp tag it s).pending = s.pending := by unfold leaveComp; split <;> rfl

@[simp] theorem deleteItem_ship (tag : Nat) (s : State) : (deleteItem tag s).ship = s.ship := by unfold deleteItem; split <;> simp
@[simp] theorem deleteItem_eval (tag : Nat) (s : State) : (deleteItem tag s).eval = s.eval := by unfold deleteItem; split <;> simp
@[simp] theorem deleteItem_mon (tag : Nat) (s : State) : (deleteItem tag s).mon = s.mon := by unfold deleteItem; split <;> simp
@[simp] theorem deleteItem_lines (tag : Nat) (s : State) : (deleteItem tag s).lines = s.lines := by unfold deleteItem; split <;> simp
@[simp] theorem deleteItem_lifts (tag : Nat) (s : State) : (deleteItem tag s).lifts = s.lifts := by unfold deleteItem; split <;> simp
@[simp] theorem deleteItem_tanks (tag : Nat) (s : State) : (deleteItem tag s).tanks = s.tanks := by unfold deleteItem; split <;> simp
@[simp] theorem deleteItem_trials (tag : Nat) (s : State) : (deleteItem tag s).trials = s.trials := by unfold deleteItem; split <;> simp
@[simp] theorem deleteItem_ports (tag : Nat) (s : State) : (deleteItem tag s).ports = s.ports := by unfold deleteItem; split <;> simp
@[simp] theorem deleteItem_rate (tag : Nat) (s : State) : (deleteItem tag s).rate = s.rate := by unfold deleteItem; split <;> simp
@[simp] theorem deleteItem_attn (tag : Nat) (s : State) : (deleteItem tag s).attn = s.attn := by unfold deleteItem; split <;> simp
@[simp] theorem deleteItem_pending (tag : Nat) (s : State) : (deleteItem tag s).pending = s.pending := by unfold deleteItem; split <;> simp

@[simp] theorem endSilence_ship (b : State) (s : State) : (endSilence b s).ship = s.ship := by unfold endSilence; split <;> rfl
@[simp] theorem endSilence_cond (b : State) (s : State) : (endSilence b s).cond = s.cond := by unfold endSilence; split <;> rfl
@[simp] theorem endSilence_eval (b : State) (s : State) : (endSilence b s).eval = s.eval := by unfold endSilence; split <;> rfl
@[simp] theorem endSilence_mon (b : State) (s : State) : (endSilence b s).mon = s.mon := by unfold endSilence; split <;> rfl
@[simp] theorem endSilence_lines (b : State) (s : State) : (endSilence b s).lines = s.lines := by unfold endSilence; split <;> rfl
@[simp] theorem endSilence_lifts (b : State) (s : State) : (endSilence b s).lifts = s.lifts := by unfold endSilence; split <;> rfl
@[simp] theorem endSilence_tanks (b : State) (s : State) : (endSilence b s).tanks = s.tanks := by unfold endSilence; split <;> rfl
@[simp] theorem endSilence_trials (b : State) (s : State) : (endSilence b s).trials = s.trials := by unfold endSilence; split <;> rfl
@[simp] theorem endSilence_ports (b : State) (s : State) : (endSilence b s).ports = s.ports := by unfold endSilence; split <;> rfl
@[simp] theorem endSilence_rate (b : State) (s : State) : (endSilence b s).rate = s.rate := by unfold endSilence; split <;> rfl
@[simp] theorem endSilence_pending (b : State) (s : State) : (endSilence b s).pending = s.pending := by unfold endSilence; split <;> rfl

@[simp] theorem finishOne_ship (k : OutcomeCode) (g : Option Goal) (m : Int) (c : Crane) (s : State) : (finishOne k g m c s).ship = s.ship := by unfold finishOne; split <;> rfl
@[simp] theorem finishOne_cond (k : OutcomeCode) (g : Option Goal) (m : Int) (c : Crane) (s : State) : (finishOne k g m c s).cond = s.cond := by unfold finishOne; split <;> rfl
@[simp] theorem finishOne_eval (k : OutcomeCode) (g : Option Goal) (m : Int) (c : Crane) (s : State) : (finishOne k g m c s).eval = s.eval := by unfold finishOne; split <;> rfl
@[simp] theorem finishOne_mon (k : OutcomeCode) (g : Option Goal) (m : Int) (c : Crane) (s : State) : (finishOne k g m c s).mon = s.mon := by unfold finishOne; split <;> rfl
@[simp] theorem finishOne_lines (k : OutcomeCode) (g : Option Goal) (m : Int) (c : Crane) (s : State) : (finishOne k g m c s).lines = s.lines := by unfold finishOne; split <;> rfl
@[simp] theorem finishOne_tanks (k : OutcomeCode) (g : Option Goal) (m : Int) (c : Crane) (s : State) : (finishOne k g m c s).tanks = s.tanks := by unfold finishOne; split <;> rfl
@[simp] theorem finishOne_trials (k : OutcomeCode) (g : Option Goal) (m : Int) (c : Crane) (s : State) : (finishOne k g m c s).trials = s.trials := by unfold finishOne; split <;> rfl
@[simp] theorem finishOne_ports (k : OutcomeCode) (g : Option Goal) (m : Int) (c : Crane) (s : State) : (finishOne k g m c s).ports = s.ports := by unfold finishOne; split <;> rfl
@[simp] theorem finishOne_rate (k : OutcomeCode) (g : Option Goal) (m : Int) (c : Crane) (s : State) : (finishOne k g m c s).rate = s.rate := by unfold finishOne; split <;> rfl
@[simp] theorem finishOne_pending (k : OutcomeCode) (g : Option Goal) (m : Int) (c : Crane) (s : State) : (finishOne k g m c s).pending = s.pending := by unfold finishOne; split <;> rfl

/-! The values that the named updates write. -/

@[simp] theorem raiseAt_attn (p : Port) (c : Cause) (s : State) :
    (raiseAt p c s).attn = s.attn.modify p (AttnPort.raise c) := rfl
@[simp] theorem raiseAll_attn (c : Cause) (s : State) : (raiseAll c s).attn = s.attn.map (AttnPort.raise c) := rfl
@[simp] theorem removeAt_attn (p : Port) (c : Cause) (s : State) :
    (removeAt p c s).attn = s.attn.modify p (AttnPort.remove c) := rfl
@[simp] theorem removeAll_attn (c : Cause) (s : State) : (removeAll c s).attn = s.attn.map (AttnPort.remove c) := rfl
@[simp] theorem modifyPort_ports (p : Port) (f : PortState → PortState) (s : State) :
    (s.modifyPort p f).ports = s.ports.modify p f := rfl
@[simp] theorem driveLines_lines (s : State) :
    (driveLines s).lines = lineLevels s.ship.mode s.mon.primed s.mon.effective := rfl
@[simp] theorem settle_mon (s : State) : (settle s).mon = { s.mon with effective := effectiveOf s.mon.slots } := by
  dsimp only [settle]; split <;> rfl
@[simp] theorem settle_lines (s : State) :
    (settle s).lines = lineLevels s.ship.mode s.mon.primed (effectiveOf s.mon.slots) := by
  dsimp only [settle]; split <;> rfl
@[simp] theorem changeMode_ship (m : ServiceMode) (r : Option FaultReason) (s : State) :
    (changeMode m r s).ship = { s.ship with mode := m, faultReason := r } := by
  dsimp only [changeMode]; split <;> rfl
@[simp] theorem changeMode_lines (m : ServiceMode) (r : Option FaultReason) (s : State) :
    (changeMode m r s).lines = lineLevels m s.mon.primed s.mon.effective := by
  dsimp only [changeMode]; split <;> rfl
@[simp] theorem raiseRoutine_eval (s : State) : (raiseRoutine s).eval = { s.eval with slotRoutine := true } := rfl
@[simp] theorem advance_cond (s : State) : (advance s).cond = { s.cond with version := s.cond.version + 1 } := by
  simp [advance]
@[simp] theorem setRecord_lifts (c : Crane) (r : LiftRecord) (s : State) :
    (s.setRecord c r).lifts = { s.lifts with records := s.lifts.records.set c r } := rfl
@[simp] theorem setItem_cond (tag : Nat) (it : ItemRecord) (s : State) :
    (s.setItem tag it).cond = { s.cond with items := s.cond.items.put tag it } := rfl
@[simp] theorem setComp_cond (n : Nat) (x : CompState) (s : State) :
    (s.setComp n x).cond = { s.cond with comps := s.cond.comps.store .empty n x } := rfl

end Sys2Proof.Machine
end

