-- ==== Sys2Proof/Laws/Ports.lean ====
section
/-!
SUPPORT. What the port interface does with a request, said once: the tests of R182 on a request row, and the ports after
an answer or a deferral.
-/

namespace Sys2Proof.Machine

open Sys2Proof

/-! ### Per port and per crane -/

@[simp] theorem PerPort.get_set_same {α : Type} (m : PerPort α) (p : Port) (a : α) : (m.set p a).get p = a := by
  cases p <;> rfl

theorem PerPort.get_set_other {α : Type} (m : PerPort α) (p r : Port) (a : α) (h : r ≠ p) : (m.set p a).get r = m.get r := by
  cases p <;> cases r <;> first | rfl | exact absurd rfl h

@[simp] theorem PerPort.set_set {α : Type} (m : PerPort α) (p : Port) (a b : α) : (m.set p a).set p b = m.set p b := by
  cases p <;> rfl

@[simp] theorem PerPort.set_get {α : Type} (m : PerPort α) (p : Port) : m.set p (m.get p) = m := by cases p <;> rfl

@[simp] theorem PerPort.get_modify_same {α : Type} (m : PerPort α) (p : Port) (f : α → α) :
    (m.modify p f).get p = f (m.get p) := by simp [PerPort.modify]

theorem PerPort.get_modify_other {α : Type} (m : PerPort α) (p r : Port) (f : α → α) (h : r ≠ p) :
    (m.modify p f).get r = m.get r := by simp [PerPort.modify, PerPort.get_set_other _ _ _ _ h]

@[simp] theorem PerPort.get_map {α β : Type} (f : α → β) (m : PerPort α) (p : Port) : (m.map f).get p = f (m.get p) := by
  cases p <;> rfl

@[simp] theorem PerCrane.get_set_same {α : Type} (m : PerCrane α) (c : Crane) (a : α) : (m.set c a).get c = a := by
  cases c <;> rfl

theorem PerCrane.get_set_other {α : Type} (m : PerCrane α) (c d : Crane) (a : α) (h : d ≠ c) :
    (m.set c a).get d = m.get d := by cases c <;> cases d <;> first | rfl | exact absurd rfl h

@[simp] theorem otherCrane_otherCrane (c : Crane) : otherCrane (otherCrane c) = c := by cases c <;> rfl

@[simp] theorem otherCrane_ne (c : Crane) : otherCrane c ≠ c := by cases c <;> decide

@[simp] theorem craneOf_cranePort (c : Crane) : craneOf (cranePort c) = some c := by cases c <;> rfl

/-! ### Taking a request -/

/-- A request whose mode and role receive it goes to its owning block as the port's outstanding request, and the arbiter
acts on what it raised (R80, R182, test 6). -/
theorem request_taken {p : Port} {tag : Byte} {r : Request} {s : State} (h : Ready s p)
    (hv : s.ship.mode = .verify → r.kind = .identify) (hr : roleAllows r.kind (portRole p) = true)
    (hm : modeAnswer s.ship.mode r.kind = none) :
    request p tag r s = arbitrate s.eval
      (serve r (nextCaller s p (kindByte r.kind) tag) (openRequest (nextCaller s p (kindByte r.kind) tag) s)) := by
  have h1 : ¬ (s.ship.mode = .verify ∧ r.kind ≠ .identify) := fun x => x.2 (hv x.1)
  have e1 : (openRequest (nextCaller s p (kindByte r.kind) tag) s).ship.mode = s.ship.mode := rfl
  have e2 : (nextCaller s p (kindByte r.kind) tag).port = p := rfl
  unfold request receive
  rw [if_neg h.1, if_neg (by simp [h.2])]
  dsimp only
  unfold receiveKnown
  rw [e1, e2, if_neg h1, if_neg (by simp [hr]), hm]
  rfl

/-- A request that the part takes IN SERVICE. -/
theorem request_serving {p : Port} {tag : Byte} {r : Request} {s : State} (h : Serving s p)
    (hr : roleAllows r.kind (portRole p) = true) (hm : modeAnswer .inService r.kind = none) :
    request p tag r s = arbitrate s.eval
      (serve r (nextCaller s p (kindByte r.kind) tag) (openRequest (nextCaller s p (kindByte r.kind) tag) s)) :=
  request_taken h.1 (by simp [h.2]) hr (by rw [h.2]; exact hm)

/-- The ports after a request has been opened and answered. -/
theorem answer_open_ports (s : State) (p : Port) (k : ReqKind) (tag : Byte) (a : Answer) :
    (answer (nextCaller s p (kindByte k) tag) a (openRequest (nextCaller s p (kindByte k) tag) s)).ports =
      answeredPorts s p k tag a := by
  cases p <;> rfl

/-- The ports after a request has been opened and its reply deferred. -/
theorem defer_open_ports (s : State) (p : Port) (k : ReqKind) (tag : Byte) :
    (defer (nextCaller s p (kindByte k) tag) (openRequest (nextCaller s p (kindByte k) tag) s)).ports =
      deferredPorts s p k tag := by
  cases p <;> rfl

/-- An answer reads and writes the ports alone. -/
theorem answer_eq (q : Caller) (a : Answer) (s : State) :
    answer q a s = { s with ports := s.ports.modify q.port (fun x =>
      { x with tx := x.tx ++ [⟨⟨replyKind q.kind, q.tag, a⟩, some q.mark⟩] }) } := rfl

/-- What counting an error does: nothing at 255, and otherwise one more with LINE ERROR raised on the port (R181). -/
theorem countError_eq (p : Port) (e : LineErr) (s : State) :
    countError p e s = if (s.ports.get p).counters.read e < 255 then
      { s with ports := s.ports.modify p (fun q => { q with counters := q.counters.bump e })
               attn := s.attn.modify p (AttnPort.raise .lineError) } else s := rfl

/-- What handing on a deferred reply does: the reply is queued and the entry removed when the entry still marks the
request, and otherwise nothing (R183). -/
theorem deliver_eq (q : Caller) (a : Answer) (s : State) :
    deliver q a s = if (s.ports.get q.port).deferred = some q then
      { s with ports := s.ports.modify q.port (fun x =>
          { x with deferred := none, tx := x.tx ++ [⟨⟨replyKind q.kind, q.tag, a⟩, some q.mark⟩] }) } else s := by
  unfold deliver
  split
  · cases q with | mk p k t m => cases p <;> rfl
  · rfl

/-- What the routine trigger does: it raises a routine request in the CONTINUOUS mode alone (R91). -/
theorem triggerRoutine_eq (s : State) : triggerRoutine s = { s with eval := routineRaised s } := by
  unfold triggerRoutine routineRaised
  split
  · rename_i h; rw [decide_eq_true h, Bool.or_true]; rfl
  · rename_i h; rw [decide_eq_false h, Bool.or_false]

/-- What a change that is applied advances: the version, and in the CONTINUOUS mode a routine request (R35, R91). -/
theorem advance_eq (s : State) :
    advance s = { s with cond := { s.cond with version := s.cond.version + 1 }, eval := routineRaised s } := by
  rw [advance, triggerRoutine_eq]; rfl

/-- What a recomputation of the effective action does: the monitor, the lines and ACTION CLEARED (R110 to R113). -/
theorem settle_eq (s : State) :
    settle s = { s with mon := s.mon.recomputed
                        lines := lineLevels s.ship.mode s.mon.primed (effectiveOf s.mon.slots)
                        attn := attnAfter s (effectiveOf s.mon.slots) } := by
  dsimp only [settle, attnAfter]
  split <;> rfl

/-- What a change of the service mode does: the mode, the lines and SERVICE CHANGE (R17, R111). -/
theorem changeMode_eq (m : ServiceMode) (r : Option FaultReason) (s : State) :
    changeMode m r s = { s with
      ship := { s.ship with mode := m, faultReason := r }
      lines := lineLevels m s.mon.primed s.mon.effective
      attn := if s.ship.mode = m then s.attn else s.attn.map (AttnPort.raise .serviceChange) } := by
  dsimp only [changeMode]
  split <;> rfl

end Sys2Proof.Machine
end

