-- ==== Sys2Proof/Laws/Tables.lean ====
section
/-!
SUPPORT. What the table operations do, said once: reading after writing, the keys, and the canonical forms.
-/

namespace Sys2Proof.Machine

open Sys2Proof

/-! ### Reading after writing -/

@[simp] theorem Table.find_put_same {α : Type} (k : Nat) (v : α) (t : Table α) : (t.put k v).find k = some v := by
  induction t with
  | nil => simp [Table.put, Table.find]
  | cons e r ih =>
    obtain ⟨j, w⟩ := e
    simp only [Table.put]
    split
    · simp [Table.find]
    · split
      · simp [Table.find]
      · rename_i h; simp [Table.find, h, ih]

theorem Table.find_put_other {α : Type} {j k : Nat} (v : α) (t : Table α) (h : j ≠ k) : (t.put k v).find j = t.find j := by
  induction t with
  | nil => simp [Table.put, Table.find, Ne.symm h]
  | cons e r ih =>
    obtain ⟨i, w⟩ := e
    simp only [Table.put]
    split
    · simp [Table.find, Ne.symm h]
    · split
      · rename_i hik; subst hik; simp [Table.find, Ne.symm h]
      · simp only [Table.find, ih]

@[simp] theorem Table.find_drop_same {α : Type} (k : Nat) (t : Table α) : (t.drop k).find k = none := by
  induction t with
  | nil => rfl
  | cons e r ih =>
    obtain ⟨j, w⟩ := e
    unfold Table.drop at ih ⊢
    rw [List.filter_cons]
    split
    · rename_i h
      have : j ≠ k := by simpa using h
      simp only [Table.find, if_neg this]; exact ih
    · exact ih

theorem Table.find_drop_other {α : Type} {j k : Nat} (t : Table α) (h : j ≠ k) : (t.drop k).find j = t.find j := by
  induction t with
  | nil => rfl
  | cons e r ih =>
    obtain ⟨i, w⟩ := e
    unfold Table.drop at ih ⊢
    rw [List.filter_cons]
    split
    · simp only [Table.find, ih]
    · rename_i hik
      have : i = k := by simpa using hik
      subst this
      simp only [Table.find, if_neg (Ne.symm h)]; exact ih

theorem Table.find_mapVals {α β : Type} (f : Nat → α → β) (k : Nat) (t : Table α) :
    (t.mapVals f).find k = (t.find k).map (f k) := by
  induction t with
  | nil => rfl
  | cons e r ih =>
    obtain ⟨j, w⟩ := e
    simp only [Table.mapVals, List.map_cons, Table.find] at ih ⊢
    split
    · rename_i h; subst h; rfl
    · exact ih

/-- The value at a key after a store, at that key and at any other. -/
theorem Table.value_store {α : Type} [DecidableEq α] (d : α) (j k : Nat) (v : α) (t : Table α) :
    (t.store d k v).value d j = if j = k then v else t.value d j := by
  unfold Table.store Table.value
  split
  · rename_i hv
    by_cases h : j = k
    · subst h; simp [hv]
    · rw [if_neg h, Table.find_drop_other _ h]
  · by_cases h : j = k
    · subst h; simp
    · rw [if_neg h, Table.find_put_other _ _ h]

/-! ### Keys -/

theorem Table.mem_keys_put {α : Type} (j k : Nat) (v : α) (t : Table α) : j ∈ (t.put k v).keys ↔ j = k ∨ j ∈ t.keys := by
  induction t with
  | nil => simp [Table.put, Table.keys]
  | cons e r ih =>
    obtain ⟨i, w⟩ := e
    simp only [Table.put]
    split
    · simp [Table.keys]
    · split
      · rename_i h; subst h; simp [Table.keys]
      · have : j ∈ Table.keys ((i, w) :: Table.put k v r) ↔ j = i ∨ j ∈ (Table.put k v r).keys := by simp [Table.keys]
        rw [this, ih]
        simp [Table.keys]
        tauto

/-- An entry of a table whose keys rise is what the table holds at its key. -/
theorem Table.find_of_mem {α : Type} {t : Table α} (h : t.Rising) {e : Nat × α} (he : e ∈ t) : t.find e.1 = some e.2 := by
  induction t with
  | nil => cases he
  | cons x r ih =>
    obtain ⟨j, w⟩ := x
    simp only [Table.Rising, Table.keys, List.map_cons, List.pairwise_cons] at h
    rcases List.mem_cons.1 he with rfl | he'
    · simp [Table.find]
    · have : j < e.1 := h.1 _ (List.mem_map_of_mem he')
      simp only [Table.find, if_neg (by omega : ¬ j = e.1)]
      exact ih h.2 he'

theorem Table.mem_of_find {α : Type} {t : Table α} {k : Nat} {v : α} (h : t.find k = some v) : (k, v) ∈ t := by
  induction t with
  | nil => cases h
  | cons x r ih =>
    obtain ⟨j, w⟩ := x
    simp only [Table.find] at h
    split at h
    · rename_i hj; cases h; subst hj; exact List.mem_cons_self
    · exact List.mem_cons_of_mem _ (ih h)

/-! ### The canonical forms (log 26) -/

theorem Table.rising_put {α : Type} (k : Nat) (v : α) {t : Table α} (h : t.Rising) : (t.put k v).Rising := by
  induction t with
  | nil => simp [Table.put, Table.Rising, Table.keys]
  | cons e r ih =>
    obtain ⟨j, w⟩ := e
    have h' := h
    simp only [Table.Rising, Table.keys, List.map_cons, List.pairwise_cons] at h'
    simp only [Table.put]
    split
    · rename_i hk
      simp only [Table.Rising, Table.keys, List.map_cons, List.pairwise_cons]
      refine ⟨?_, h'⟩
      intro x hx
      rcases List.mem_cons.1 hx with rfl | hx
      · exact hk
      · have := h'.1 x hx; omega
    · split
      · rename_i hj; subst hj
        simp only [Table.Rising, Table.keys, List.map_cons, List.pairwise_cons]; exact h'
      · rename_i h1 h2
        have hr := ih h'.2
        have hk := Table.mem_keys_put (α := α)
        simp only [Table.Rising, Table.keys, List.map_cons, List.pairwise_cons] at hr ⊢
        refine ⟨?_, hr⟩
        intro x hx
        rcases (hk x k v r).1 hx with rfl | hx
        · omega
        · exact h'.1 x hx

theorem Table.rising_filter {α : Type} (p : Nat × α → Bool) {t : Table α} (h : t.Rising) : Table.Rising (t.filter p) := by
  unfold Table.Rising Table.keys at h ⊢
  exact List.Pairwise.sublist (List.Sublist.map _ List.filter_sublist) h

theorem Table.rising_drop {α : Type} (k : Nat) {t : Table α} (h : t.Rising) : (t.drop k).Rising := Table.rising_filter _ h

theorem Table.rising_mapVals {α β : Type} (f : Nat → α → β) {t : Table α} (h : t.Rising) : (t.mapVals f).Rising := by
  unfold Table.Rising Table.keys Table.mapVals at *
  rwa [List.map_map]

theorem Table.mem_put {α : Type} {k : Nat} {v : α} {t : Table α} {e : Nat × α} (h : e ∈ t.put k v) : e = (k, v) ∨ e ∈ t := by
  induction t with
  | nil => simpa [Table.put] using h
  | cons x r ih =>
    obtain ⟨j, w⟩ := x
    simp only [Table.put] at h
    split at h
    · simpa using h
    · split at h
      · rcases List.mem_cons.1 h with h | h
        · exact .inl h
        · exact .inr (List.mem_cons_of_mem _ h)
      · rcases List.mem_cons.1 h with h | h
        · exact .inr (h ▸ List.mem_cons_self)
        · rcases ih h with h | h
          · exact .inl h
          · exact .inr (List.mem_cons_of_mem _ h)

theorem Table.canonical_store {α : Type} [DecidableEq α] (d : α) (k : Nat) (v : α) {t : Table α} (h : t.Canonical d) :
    (t.store d k v).Canonical d := by
  unfold Table.store
  split
  · exact ⟨Table.rising_drop k h.1, fun e he => h.2 e (List.mem_filter.1 he).1⟩
  · rename_i hv
    refine ⟨Table.rising_put k v h.1, fun e he => ?_⟩
    rcases Table.mem_put he with rfl | he
    · exact hv
    · exact h.2 e he

/-- A default entry filtered out of a rising table changes no value. -/
theorem Table.value_filter {α : Type} [DecidableEq α] (d : α) (k : Nat) {t : Table α} (h : t.Rising) :
    Table.value d k (t.filter (fun e => e.2 != d)) = t.value d k := by
  induction t with
  | nil => rfl
  | cons x r ih =>
    obtain ⟨j, w⟩ := x
    simp only [Table.Rising, Table.keys, List.map_cons, List.pairwise_cons] at h
    have ih := ih h.2
    rw [List.filter_cons]
    by_cases hw : w = d
    · rw [if_neg (by simp [hw])]
      rw [ih]
      simp only [Table.value, Table.find]
      split
      · rename_i hj
        have : Table.find k r = none := by
          cases hf : Table.find k r with
          | none => rfl
          | some v =>
            have := h.1 k (List.mem_map_of_mem (f := Prod.fst) (Table.mem_of_find hf))
            omega
        rw [this, hw]; rfl
      · rfl
    · rw [if_pos (by simp [hw])]
      simp only [Table.value, Table.find] at ih ⊢
      split
      · rfl
      · exact ih

end Sys2Proof.Machine
end

