-- ==== Sys2Proof/Laws/Ops.lean ====
section
/-!
SUPPORT. What each shared operation of the blocks does, said once as its whole effect on the state.
-/

namespace Sys2Proof.Machine

open Sys2Proof

/-! ### Causes (R188) -/

theorem mem_allCauses (c : Cause) : c ∈ allCauses := by cases c <;> decide

@[simp] theorem mem_pending_raise (a : AttnPort) (c x : Cause) : x ∈ (AttnPort.raise c a).pending ↔ x = c ∨ x ∈ a.pending := by
  unfold AttnPort.raise
  by_cases h : c ∈ a.pending
  · simp only [List.contains_iff_mem.2 h, if_true]
    exact ⟨.inr, fun hx => hx.elim (fun e => e ▸ h) id⟩
  · cases hm : a.mode <;> simp [h, causeInsert, mem_allCauses]

@[simp] theorem mem_pending_remove (a : AttnPort) (c x : Cause) : x ∈ (AttnPort.remove c a).pending ↔ x ≠ c ∧ x ∈ a.pending := by
  unfold AttnPort.remove AttnPort.relevel
  cases a.mode <;> simp [causeRemove, and_comm]

@[simp] theorem raise_unmasked (a : AttnPort) (c : Cause) : (AttnPort.raise c a).unmasked = a.unmasked := by
  unfold AttnPort.raise; split
  · rfl
  · split <;> rfl

@[simp] theorem raise_mode (a : AttnPort) (c : Cause) : (AttnPort.raise c a).mode = a.mode := by
  unfold AttnPort.raise; split
  · rfl
  · split <;> simp_all

@[simp] theorem remove_unmasked (a : AttnPort) (c : Cause) : (AttnPort.remove c a).unmasked = a.unmasked := by
  unfold AttnPort.remove AttnPort.relevel; split <;> rfl

@[simp] theorem remove_mode (a : AttnPort) (c : Cause) : (AttnPort.remove c a).mode = a.mode := by
  unfold AttnPort.remove AttnPort.relevel; split <;> simp_all

/-! ### Effective action, modes and the monitor (R17, R103, R110) -/

/-- A recomputation whose result is known. -/
theorem settle_to {s : State} {e : Option Action} (h : effectiveOf s.mon.slots = e) :
    settle s = { s with mon := { s.mon with effective := e }
                        lines := lineLevels s.ship.mode s.mon.primed e
                        attn := attnAfter s e } := by
  subst h; exact settle_eq s

/-- Slots that are all CLEAR give the effective action NONE. -/
theorem effectiveOf_clear {l : List Slot} (h : ∀ o ∈ l, o.alarm = false) : effectiveOf l = none := by
  induction l with
  | nil => rfl
  | cons a r ih =>
    have hr := ih (fun o ho => h o (List.mem_cons_of_mem _ ho))
    simp only [effectiveOf, List.foldr_cons, h a List.mem_cons_self, Bool.false_eq_true, if_false] at hr ⊢
    exact hr

/-- Slots loaded from an image are CLEAR (R103). -/
theorem slots_clear (img : Image) : ∀ o ∈ img.slots, o.alarm = false := by
  intro o ho
  simp only [Image.slots, List.mem_map] at ho
  obtain ⟨i, _, rfl⟩ := ho
  split
  · rfl
  · rfl

/-- A setting of a slot with code NONE lies in its range, and is the record's where that does (R7, R103, log 35). -/
theorem unchecked_spec (field : Nat) {lo hi : Int} (v : Int) (h : lo ≤ hi) :
    lo ≤ unchecked field lo hi v ∧ unchecked field lo hi v ≤ hi ∧ (lo ≤ v → v ≤ hi → unchecked field lo hi v = v) := by
  unfold unchecked bringInto within
  by_cases hv : lo ≤ v ∧ v ≤ hi
  · simp [hv]
  · simp only [Bool.and_eq_true, decide_eq_true_eq, hv, if_false]
    refine ⟨?_, ?_, fun a b => absurd ⟨a, b⟩ hv⟩ <;> repeat' split <;> omega

/-- What a record gives its slot: always its code, CLEAR, with counter 0 and no injected value (R103). -/
theorem slotOfRecord_eq (r : CriterionRecord) :
    slotOfRecord r = ⟨settingsOfRecord r, false, 0, none⟩ ∧ (slotOfRecord r).set.code = codeOfNumber r.code := by
  refine ⟨rfl, ?_⟩
  simp only [slotOfRecord, settingsOfRecord]
  split <;> simp_all

/-- A fall to NONE raises ACTION CLEARED unless the effective action was NONE already (R113). -/
theorem attnAfter_none (s : State) :
    attnAfter s none = if s.mon.effective = none then s.attn else s.attn.map (AttnPort.raise .actionCleared) := by
  unfold attnAfter
  cases h : s.mon.effective with
  | none => rfl
  | some a => cases a <;> rfl

/-- What loading the slots from the image does (R14, R16, R103). -/
theorem loadSlots_eq (s : State) : loadSlots s = { s with
    ship := { s.ship with slotsUnloaded := false }
    cond := { s.cond with
      comps := (s.cond.comps.mapVals (fun _ cs => { cs with flag := .opened })).filter (fun e => e.2 != .empty) }
    mon := { s.mon with slots := s.ship.image.slots, rangeStart := s.ship.image.range.1,
                        rangeStop := s.ship.image.range.2, effective := none }
    lines := lineLevels s.ship.mode s.mon.primed none
    attn := if s.mon.effective = none then s.attn else s.attn.map (AttnPort.raise .actionCleared) } := by
  unfold loadSlots
  exact (settle_to (effectiveOf_clear (slots_clear s.ship.image))).trans (by rw [attnAfter_none]; rfl)

/-- The flag of every compartment is OPEN after the slots have been loaded, and nothing else of it changes (R14). -/
theorem comp_opened (t : Table CompState) (h : t.Rising) (n : Nat) :
    Table.value CompState.empty n
      ((t.mapVals (fun _ cs => { cs with flag := OpenFlag.opened })).filter (fun e => e.2 != CompState.empty)) =
      { t.value .empty n with flag := .opened } := by
  rw [Table.value_filter _ _ (Table.rising_mapVals _ h)]
  simp only [Table.value, Table.find_mapVals]
  cases t.find n <;> rfl

/-- The evaluation unit at an entry to IN SERVICE (R17, R92). -/
theorem startInterval_eq (s : State) : startInterval s = { s with
    eval := { s.eval with
      intervalTimer := if s.eval.routineMode = .continuous then some s.eval.interval else s.eval.intervalTimer } } := by
  cases s with
  | mk ship cond eval mon lines lifts tanks trials ports rate attn pending =>
    cases eval with
    | mk a b c d e f g h i j k l m n o => cases m <;> rfl

/-- What an entry to IN SERVICE does (R17, R92). -/
theorem enterService_eq (s : State) : enterService s = { s with
    ship := { s.ship with mode := .inService, faultReason := none }
    mon := { s.mon with primed := false }
    eval := { s.eval with slotRoutine := true, intervalTimer :=
      if s.eval.routineMode = .continuous then some s.eval.interval else s.eval.intervalTimer }
    lines := lineLevels .inService false s.mon.effective
    attn := if s.ship.mode = .inService then s.attn else s.attn.map (AttnPort.raise .serviceChange) } := by
  unfold enterService
  rw [startInterval_eq, changeMode_eq]
  rfl

/-! ### Replies (R178, R179, log 9) -/

/-- The payload of a reply begins with its status byte, and but for a layout of section 8 it is no longer than the length
byte allows. -/
theorem payload_spec (a : Answer) :
    a.payload.head? = some (statusByte a.status) ∧ ((∀ bytes, a.body ≠ .layout bytes) → a.payload.length ≤ Config.maxPayload) := by
  refine ⟨rfl, fun h => ?_⟩
  unfold Answer.payload
  split <;> first | (rename_i hb; exact absurd hb (h _)) | simp [versionBytes, crcBytes, bytes2, bytes4, Config.maxPayload]

/-! ### The condition -/

/-- The item table after a record has been written. -/
theorem item_setItem (s : State) (j tag : Nat) (it : ItemRecord) :
    (s.setItem tag it).item j = if j = tag then some it else s.item j := by
  unfold State.item State.setItem State.withCond
  by_cases h : j = tag
  · subst h; simp
  · rw [if_neg h]; exact Table.find_put_other _ _ h

/-- The compartments after one has been written. -/
theorem comp_setComp (s : State) (j n : Nat) (cs : CompState) :
    (s.setComp n cs).comp j = if j = n then cs else s.comp j := Table.value_store _ _ _ _ _

@[simp] theorem comp_setItem (s : State) (j tag : Nat) (it : ItemRecord) : (s.setItem tag it).comp j = s.comp j := rfl

@[simp] theorem item_setComp (s : State) (j n : Nat) (cs : CompState) : (s.setComp n cs).item j = s.item j := rfl

/-- What a refused change answers: the state as it was, and the version (R35, R36). -/
theorem refuse_eq (st : Status) (s : State) : refuse st s = (s, ⟨st, .version s.cond.version⟩) := rfl

/-- What an applied change does beyond its own effect: the version advances, the routine trigger acts, and the reply
carries the new version (R35, R36, R91). -/
theorem accept_eq (st : Status) (s : State) : accept st s =
    ({ s with cond := { s.cond with version := s.cond.version + 1 }, eval := routineRaised s },
     ⟨st, .version (s.cond.version + 1)⟩) := by
  unfold accept; rw [advance_eq]

/-! ### The arbiter (R79, R80) -/

/-- The start of a lift check changes the evaluation unit alone. -/
theorem startLiftCheck_eq (c : Crane) (s : State) : startLiftCheck c s = { s with eval := (startLiftCheck c s).eval } := by
  unfold startLiftCheck
  split <;> cases c <;> rfl

/-- A job start changes the evaluation unit alone. -/
theorem startJob_eq (s : State) : startJob s = { s with eval := (startJob s).eval } := by
  unfold startJob
  split
  · split
    · exact startLiftCheck_eq _ s
    · rfl
    · split <;> rfl
  · rfl

/-- The arbiter changes the evaluation unit alone. -/
theorem arbitrate_eq (e : EvalUnit) (s : State) : arbitrate e s = { s with eval := (arbitrate e s).eval } := by
  unfold arbitrate
  split
  · exact startJob_eq s
  · rfl

@[simp] theorem arbitrate_ship (e : EvalUnit) (s : State) : (arbitrate e s).ship = s.ship := by rw [arbitrate_eq]
@[simp] theorem arbitrate_cond (e : EvalUnit) (s : State) : (arbitrate e s).cond = s.cond := by rw [arbitrate_eq]
@[simp] theorem arbitrate_mon (e : EvalUnit) (s : State) : (arbitrate e s).mon = s.mon := by rw [arbitrate_eq]
@[simp] theorem arbitrate_lines (e : EvalUnit) (s : State) : (arbitrate e s).lines = s.lines := by rw [arbitrate_eq]
@[simp] theorem arbitrate_lifts (e : EvalUnit) (s : State) : (arbitrate e s).lifts = s.lifts := by rw [arbitrate_eq]
@[simp] theorem arbitrate_tanks (e : EvalUnit) (s : State) : (arbitrate e s).tanks = s.tanks := by rw [arbitrate_eq]
@[simp] theorem arbitrate_trials (e : EvalUnit) (s : State) : (arbitrate e s).trials = s.trials := by rw [arbitrate_eq]
@[simp] theorem arbitrate_ports (e : EvalUnit) (s : State) : (arbitrate e s).ports = s.ports := by rw [arbitrate_eq]
@[simp] theorem arbitrate_rate (e : EvalUnit) (s : State) : (arbitrate e s).rate = s.rate := by rw [arbitrate_eq]
@[simp] theorem arbitrate_attn (e : EvalUnit) (s : State) : (arbitrate e s).attn = s.attn := by rw [arbitrate_eq]
@[simp] theorem arbitrate_pending (e : EvalUnit) (s : State) : (arbitrate e s).pending = s.pending := by rw [arbitrate_eq]

/-- No slot becomes pending and no engine free between a unit and itself. -/
theorem arbitrate_quiet (s : State) : arbitrate s.eval s = s := by
  unfold arbitrate becamePending becameFree
  cases s.eval.slotC1 <;> cases s.eval.slotC2 <;> cases s.eval.slotProspect <;> cases s.eval.slotRoutine <;>
    cases s.eval.engine <;> rfl

/-- A step that leaves the slots and the engine as they were ends with nothing more. -/
theorem arbitrate_same {e : EvalUnit} {s : State} (h1 : s.eval.slotC1 = e.slotC1) (h2 : s.eval.slotC2 = e.slotC2)
    (h3 : s.eval.slotProspect = e.slotProspect) (h4 : s.eval.slotRoutine = e.slotRoutine) (h5 : s.eval.engine = e.engine) :
    arbitrate e s = s := by
  have h := arbitrate_quiet s
  unfold arbitrate becamePending becameFree at h ⊢
  rw [← h1, ← h2, ← h3, ← h4, ← h5]
  exact h

/-- No job is started outside IN SERVICE (R80). -/
theorem startJob_outside {s : State} (h : s.ship.mode ≠ .inService) : startJob s = s := by
  unfold startJob
  rw [if_neg (fun x => h x.1)]

/-- No job is started while the engine is busy, which a job already running keeps until its end (R79, R80). -/
theorem startJob_busy {s : State} (h : s.eval.engine.isSome = true) : startJob s = s := by
  unfold startJob
  rw [if_neg (fun x => by simp [x.2] at h)]

/-- The arbiter never acts outside IN SERVICE (R80). -/
theorem arbitrate_outside {e : EvalUnit} {s : State} (h : s.ship.mode ≠ .inService) : arbitrate e s = s := by
  unfold arbitrate
  rw [startJob_outside h, ite_self]

/-- The arbiter never acts while the engine is busy (R79). -/
theorem arbitrate_busy {e : EvalUnit} {s : State} (h : s.eval.engine.isSome = true) : arbitrate e s = s := by
  unfold arbitrate
  rw [startJob_busy h, ite_self]

/-! ### Lift records -/

/-- The records after one has been written. -/
theorem record_setRecord (s : State) (c d : Crane) (r : LiftRecord) :
    (s.setRecord c r).record d = if d = c then r else s.record d := by
  cases c <;> cases d <;> rfl

/-- What the entry of one record to DONE does; an IDLE record is left alone (R124, R146). -/
theorem finishOne_eq {s : State} {c : Crane} {l : Lift} (code : OutcomeCode) (final : Option Goal) (mass : Int)
    (h : (s.record c).lift = some l) :
    finishOne code final mass c s = { s with
      lifts := { s.lifts with
        records := s.lifts.records.set c { s.record c with state := .done, timer := none, silent := false, outcome := some code }
        ended := s.lifts.ended.set c (some ⟨mass, final.getD l.origin⟩) }
      attn := s.attn.modify (cranePort c) (AttnPort.raise .outcomeReady) } := by
  unfold finishOne; rw [h]; rfl

/-- What the end of a silence does to the attention unit: SILENT LIFT is removed when the last mark has gone (R188). -/
theorem endSilence_eq (b s : State) : endSilence b s =
    { s with attn := if b.anySilent && !s.anySilent then s.attn.map (AttnPort.remove .silentLift) else s.attn } := by
  unfold endSilence; split <;> rfl

/-- A record in LEAD with its partner beside it moves with it; every other moves alone (R132). -/
theorem crew_eq (s : State) (c : Crane) : s.crew c = if s.ledTandem c = true then [c, otherCrane c] else [c] := rfl

end Sys2Proof.Machine
end

