-- ==== Sys2Proof/Laws/PerInstr.lean ====
section
/-!
SUPPORT. A law of every command by itself, one lemma for each constructor: a request row's kind has its own kind byte in
section 8.2 of the ports chapter, and that byte names the kind again.
-/

namespace Sys2Proof.Laws.RequestKind

open Sys2Proof Sys2Proof.Machine

/-- A request row has a kind whose byte names it again and whose reply byte differs from it; a row
that is no request has none. -/
def Statement (i : Instr) : Prop :=
  ∀ p tag r, requestRow i = some (p, tag, r) →
    kindOfByte (kindByte r.kind) = some r.kind ∧ replyKind (kindByte r.kind) ≠ kindByte r.kind

/-- Every kind is named by its own byte, and the reply's byte differs from it. -/
theorem kind_named (k : ReqKind) : kindOfByte (kindByte k) = some k ∧ replyKind (kindByte k) ≠ kindByte k := by
  cases k <;> decide

theorem identify (p : Port) (tag : Byte) : Statement (.identify p tag) := fun _ _ r _ => kind_named r.kind
theorem readLineStatus (p : Port) (tag : Byte) : Statement (.readLineStatus p tag) := fun _ _ r _ => kind_named r.kind
theorem attentionQuery (p : Port) (tag : Byte) : Statement (.attentionQuery p tag) := fun _ _ r _ => kind_named r.kind
theorem setAttention (p : Port) (tag : Byte) (unmasked : List Nat) (mode : Option LineMode) : Statement (.setAttention p tag unmasked mode) := fun _ _ r _ => kind_named r.kind
theorem openData (p : Port) (tag : Byte) : Statement (.openData p tag) := fun _ _ r _ => kind_named r.kind
theorem writeData (p : Port) (tag : Byte) (kind index : Nat) (fields : List FieldWord) : Statement (.writeData p tag kind index fields) := fun _ _ r _ => kind_named r.kind
theorem closeData (p : Port) (tag : Byte) (expected : CheckWord) : Statement (.closeData p tag expected) := fun _ _ r _ => kind_named r.kind
theorem addItems (p : Port) (tag : Byte) (entries : List Entry) : Statement (.addItems p tag entries) := fun _ _ r _ => kind_named r.kind
theorem amendItem (p : Port) (tag : Byte) (item : Nat) (mass dport : Option Int) : Statement (.amendItem p tag item mass dport) := fun _ _ r _ => kind_named r.kind
theorem planMove (p : Port) (tag : Byte) (item : Nat) (plan : Option Goal) : Statement (.planMove p tag item plan) := fun _ _ r _ => kind_named r.kind
theorem cancelPlan (p : Port) (tag : Byte) (item : Nat) : Statement (.cancelPlan p tag item) := fun _ _ r _ => kind_named r.kind
theorem removeItem (p : Port) (tag : Byte) (item : Nat) : Statement (.removeItem p tag item) := fun _ _ r _ => kind_named r.kind
theorem setCompartment (p : Port) (tag : Byte) (comp : Nat) (flag : Option OpenFlag) : Statement (.setCompartment p tag comp flag) := fun _ _ r _ => kind_named r.kind
theorem clearCondition (p : Port) (tag : Byte) : Statement (.clearCondition p tag) := fun _ _ r _ => kind_named r.kind
theorem setDensity (p : Port) (tag : Byte) (density : Int) : Statement (.setDensity p tag density) := fun _ _ r _ => kind_named r.kind
theorem readItem (p : Port) (tag : Byte) (item : Nat) : Statement (.readItem p tag item) := fun _ _ r _ => kind_named r.kind
theorem listItems (p : Port) (tag : Byte) (start : Nat) : Statement (.listItems p tag start) := fun _ _ r _ => kind_named r.kind
theorem readCompartment (p : Port) (tag : Byte) (comp start : Nat) : Statement (.readCompartment p tag comp start) := fun _ _ r _ => kind_named r.kind
theorem evaluateNow (p : Port) (tag : Byte) : Statement (.evaluateNow p tag) := fun _ _ r _ => kind_named r.kind
theorem setEvaluation (p : Port) (tag : Byte) (mode : Option RoutineMode) (interval : Int) : Statement (.setEvaluation p tag mode interval) := fun _ _ r _ => kind_named r.kind
theorem evaluateProspect (p : Port) (tag : Byte) (scope : Option Scope) : Statement (.evaluateProspect p tag scope) := fun _ _ r _ => kind_named r.kind
theorem readResult (p : Port) (tag : Byte) (sel : Selector) (part : Nat) : Statement (.readResult p tag sel part) := fun _ _ r _ => kind_named r.kind
theorem readProspect (p : Port) (tag : Byte) (part : Nat) : Statement (.readProspect p tag part) := fun _ _ r _ => kind_named r.kind
theorem setCriterion (p : Port) (tag : Byte) (slot : Nat) (code : Option Code) (limit hyst n : Int) (action : Option Action) : Statement (.setCriterion p tag slot code limit hyst n action) := fun _ _ r _ => kind_named r.kind
theorem setRange (p : Port) (tag : Byte) (start stop : Nat) : Statement (.setRange p tag start stop) := fun _ _ r _ => kind_named r.kind
theorem resetSlot (p : Port) (tag : Byte) (slot : Nat) : Statement (.resetSlot p tag slot) := fun _ _ r _ => kind_named r.kind
theorem inject (p : Port) (tag : Byte) (slot : Nat) (value : Int) : Statement (.inject p tag slot value) := fun _ _ r _ => kind_named r.kind
theorem withdraw (p : Port) (tag : Byte) (slot : Nat) : Statement (.withdraw p tag slot) := fun _ _ r _ => kind_named r.kind
theorem readAlarms (p : Port) (tag : Byte) : Statement (.readAlarms p tag) := fun _ _ r _ => kind_named r.kind
theorem readCriterion (p : Port) (tag : Byte) (slot : Nat) : Statement (.readCriterion p tag slot) := fun _ _ r _ => kind_named r.kind
theorem findSpace (p : Port) (tag : Byte) (first last : Nat) (mass : Int) (mode : Option FindMode) (skipClosed : Bool) (kinds : List Nat) : Statement (.findSpace p tag first last mass mode skipClosed kinds) := fun _ _ r _ => kind_named r.kind
theorem pushTrial (p : Port) (tag : Byte) (layer : LayerArg) : Statement (.pushTrial p tag layer) := fun _ _ r _ => kind_named r.kind
theorem popTrial (p : Port) (tag : Byte) : Statement (.popTrial p tag) := fun _ _ r _ => kind_named r.kind
theorem clearTrials (p : Port) (tag : Byte) : Statement (.clearTrials p tag) := fun _ _ r _ => kind_named r.kind
theorem readTrials (p : Port) (tag : Byte) : Statement (.readTrials p tag) := fun _ _ r _ => kind_named r.kind
theorem soundings (p : Port) (tag : Byte) (pairs : List (Nat × Nat)) : Statement (.soundings p tag pairs) := fun _ _ r _ => kind_named r.kind
theorem drafts (p : Port) (tag : Byte) (aft fwd : Int) : Statement (.drafts p tag aft fwd) := fun _ _ r _ => kind_named r.kind
theorem draftZero (p : Port) (tag : Byte) : Statement (.draftZero p tag) := fun _ _ r _ => kind_named r.kind
theorem readDrafts (p : Port) (tag : Byte) : Statement (.readDrafts p tag) := fun _ _ r _ => kind_named r.kind
theorem liftRequest (p : Port) (tag : Byte) (item : Nat) (dest : Option Goal) (outreach hook : Point) (partner : Option PortRef) (share : Option Nat) : Statement (.liftRequest p tag item dest outreach hook partner share) := fun _ _ r _ => kind_named r.kind
theorem joinLift (p : Port) (tag : Byte) (lead : PortRef) (item : Nat) (outreach : Point) : Statement (.joinLift p tag lead item outreach) := fun _ _ r _ => kind_named r.kind
theorem hookOn (p : Port) (tag : Byte) (hook : Point) : Statement (.hookOn p tag hook) := fun _ _ r _ => kind_named r.kind
theorem hookAt (p : Port) (tag : Byte) (hook : Point) : Statement (.hookAt p tag hook) := fun _ _ r _ => kind_named r.kind
theorem landed (p : Port) (tag : Byte) (landing : Option Goal) : Statement (.landed p tag landing) := fun _ _ r _ => kind_named r.kind
theorem abortLift (p : Port) (tag : Byte) : Statement (.abortLift p tag) := fun _ _ r _ => kind_named r.kind
theorem collectOutcome (p : Port) (tag : Byte) : Statement (.collectOutcome p tag) := fun _ _ r _ => kind_named r.kind
theorem readLift (p : Port) (tag : Byte) (record : Option Crane) : Statement (.readLift p tag record) := fun _ _ r _ => kind_named r.kind
theorem telegramReceived (p : Port) (chars : List RxChar) : Statement (.telegramReceived p chars) := fun _ _ r _ => kind_named r.kind
theorem receiveGapTimeout (p : Port) : Statement (.receiveGapTimeout p) := fun _ _ r _ => kind_named r.kind
theorem replySent (p : Port) : Statement (.replySent p) := fun _ _ r _ => kind_named r.kind
theorem breakLine (p : Port) : Statement (.breakLine p) := fun _ _ r _ => kind_named r.kind
theorem breakRelease (p : Port) : Statement (.breakRelease p) := fun _ _ r _ => kind_named r.kind
theorem supplyRise (retained : Bool) (straps : Straps) : Statement (.supplyRise retained straps) := fun _ _ r _ => kind_named r.kind
theorem resetPin (straps : Straps) : Statement (.resetPin straps) := fun _ _ r _ => kind_named r.kind
theorem verifyEnd : Statement .verifyEnd := fun _ _ r _ => kind_named r.kind
theorem commitEnd : Statement .commitEnd := fun _ _ r _ => kind_named r.kind
theorem jobStart : Statement .jobStart := fun _ _ r _ => kind_named r.kind
theorem captureComplete : Statement .captureComplete := fun _ _ r _ => kind_named r.kind
theorem routineCompletion : Statement .routineCompletion := fun _ _ r _ => kind_named r.kind
theorem liftCheckCompletion : Statement .liftCheckCompletion := fun _ _ r _ => kind_named r.kind
theorem prospectCompletion : Statement .prospectCompletion := fun _ _ r _ => kind_named r.kind
theorem intervalTimerExpiry : Statement .intervalTimerExpiry := fun _ _ r _ => kind_named r.kind
theorem joinWindowExpiry (c : Crane) : Statement (.joinWindowExpiry c) := fun _ _ r _ => kind_named r.kind
theorem grantLapseExpiry (c : Crane) : Statement (.grantLapseExpiry c) := fun _ _ r _ => kind_named r.kind
theorem reportTimerExpiry (c : Crane) : Statement (.reportTimerExpiry c) := fun _ _ r _ => kind_named r.kind
theorem draftReadingStale : Statement .draftReadingStale := fun _ _ r _ => kind_named r.kind
theorem attentionPulseEnd (p : Port) : Statement (.attentionPulseEnd p) := fun _ _ r _ => kind_named r.kind
theorem characterReceived (p : Port) (char : RxChar) : Statement (.characterReceived p char) := fun _ _ r _ => kind_named r.kind

end Sys2Proof.Laws.RequestKind
end

