-- ==== Sys2Proof/WellFormed.lean ====
section
/-!
DEFINITION. The well-formed commands: every operand fits the field that carries it, where the manual gives the field's
width (sections 8.1 and 8.4 of the ports chapter, R23, R151) or the model takes one (log 30). Values inside their
fields but outside their ranges are well formed: the owning block refuses them.
-/

namespace Sys2Proof

/-- Fits one unsigned byte. -/
def fits8 (n : Nat) : Bool := decide (n < 256)

/-- Fits two unsigned bytes: a tag, 0 included, which its request refuses. -/
def fits16 (n : Nat) : Bool := decide (n < 65536)

/-- Fits two bytes in two's complement. -/
def fitsS16 (v : Int) : Bool := decide (-32768 ≤ v) && decide (v < 32768)

/-- Fits four bytes in two's complement. -/
def fitsS32 (v : Int) : Bool := decide (-2147483648 ≤ v) && decide (v < 2147483648)

/-- A point in two-byte fields. -/
def Point.wf (q : Point) : Bool := fitsS16 q.x && fitsS16 q.y && fitsS16 q.z

/-- A placement in the field of section 8.4: an absent rests-on is sent as 0, so a present one is not 0. -/
def Placement.wf (pl : Placement) : Bool :=
  fits8 pl.comp && fitsS16 pl.xAft && fitsS16 pl.xFore && fitsS16 pl.y && fitsS16 pl.z &&
  pl.restsOn.all (fun r => fits16 r && r != 0)

/-- A goal in its field. -/
def Goal.wf : Goal → Bool
  | .place pl => pl.wf
  | .ashore => true

/-- An entry of ADD ITEMS in its fields. -/
def Entry.wf (e : Entry) : Bool := fits16 e.tag && fitsS32 e.mass && fitsS32 e.dport && e.place.wf && e.plan.all Goal.wf

/-- A layer in its fields. -/
def LayerArg.wf : LayerArg → Bool
  | .item tag g => fits16 tag && g.wf
  | .tank n f => fits8 n && fitsS32 f
  | .neither => true

/-- A change in its fields. -/
def Change.wf : Change → Bool
  | .addItems es => es.all Entry.wf
  | .amendItem item m d => fits16 item && m.all fitsS32 && d.all fitsS32
  | .planMove item g => fits16 item && g.all Goal.wf
  | .cancelPlan item => fits16 item
  | .removeItem item => fits16 item
  | .setCompartment n _ => fits8 n
  | .clearCondition => true
  | .setDensity d => fitsS32 d
  | .soundings ps => ps.all (fun x => fits8 x.1 && fits16 x.2)
  | .hookOn q => q.wf
  | .hookAt q => q.wf
  | .landed g => g.all Goal.wf

/-- Whether the operands of a command fit their fields. A telegram on the line has at most 125 characters (R178). -/
def Instr.wf : Instr → Bool
  | .identify .. | .readLineStatus .. | .attentionQuery .. | .openData .. | .closeData .. | .clearCondition ..
  | .evaluateNow .. | .evaluateProspect .. | .readAlarms .. | .popTrial .. | .clearTrials .. | .readTrials ..
  | .draftZero .. | .readDrafts .. | .abortLift .. | .collectOutcome .. | .readLift .. => true
  | .setAttention _ _ u _ => u.all fits8
  | .writeData _ _ kind index fs => fits8 kind && fits8 index && decide (2 + 4 * fs.length ≤ Config.maxPayload)
  | .addItems _ _ es => (Change.addItems es).wf
  | .amendItem _ _ item m d => (Change.amendItem item m d).wf
  | .planMove _ _ item g => (Change.planMove item g).wf
  | .cancelPlan _ _ item => fits16 item
  | .removeItem _ _ item => fits16 item
  | .setCompartment _ _ n _ => fits8 n
  | .setDensity _ _ d => fitsS32 d
  | .readItem _ _ item => fits16 item
  | .listItems _ _ start => fits16 start
  | .readCompartment _ _ n start => fits8 n && fits16 start
  | .setEvaluation _ _ _ i => fitsS32 i
  | .readResult _ _ sel part => fits8 part && (match sel with | .latest | .prior => true | .number n => fits16 n)
  | .readProspect _ _ part => fits8 part
  | .setCriterion _ _ i _ l h n _ => fits8 i && fitsS32 l && fitsS32 h && fitsS32 n
  | .setRange _ _ a b => fits8 a && fits8 b
  | .resetSlot _ _ i => fits8 i
  | .inject _ _ i v => fits8 i && fitsS32 v
  | .withdraw _ _ i => fits8 i
  | .readCriterion _ _ i => fits8 i
  | .findSpace _ _ a b m _ _ ks => fits8 a && fits8 b && fitsS32 m && ks.all fits8
  | .pushTrial _ _ l => l.wf
  | .soundings _ _ ps => (Change.soundings ps).wf
  | .drafts _ _ a f => fitsS16 a && fitsS16 f
  | .liftRequest _ _ item d o h _ sh => fits16 item && d.all Goal.wf && o.wf && h.wf && sh.all fits16
  | .joinLift _ _ _ item o => fits16 item && o.wf
  | .hookOn _ _ q => q.wf
  | .hookAt _ _ q => q.wf
  | .landed _ _ g => g.all Goal.wf
  | .telegramReceived _ cs => decide (cs.length ≤ Config.maxPayload + 5)
  | .receiveGapTimeout _ | .replySent _ | .breakLine _ | .breakRelease _ | .supplyRise .. | .resetPin _ | .verifyEnd
  | .commitEnd | .jobStart | .captureComplete | .routineCompletion | .liftCheckCompletion | .prospectCompletion
  | .intervalTimerExpiry | .joinWindowExpiry _ | .grantLapseExpiry _ | .reportTimerExpiry _ | .draftReadingStale
  | .attentionPulseEnd _ | .characterReceived .. => true

end Sys2Proof
end

