-- ==== Sys2Proof/Tests/Slice0.lean ====
section
/-!
SUPPORT. The tests: ill-formed commands, the manual's own numbers, one step of the manual's worked sequences, and for
each statement with hypotheses a state and operands that meet them, clause by clause, at the ends of the ranges.
-/

namespace Sys2Proof.Tests

open Sys2Proof Sys2Proof.Machine

-- One theorem after another: beside one another their kernel checks take a thread, and a stack, each.
set_option Elab.async false

/-! ### Well-formedness -/

/-- A point and a placement that fit no field. -/
def far : Point := ⟨0, 0, 32768⟩
def wide : Placement := ⟨256, 0, 0, 0, 0, none⟩

/-- Ill-formed terms, one for each check: the attention mask, ship data and ADD ITEMS. -/
def illShipData : List Instr :=
  [.setAttention .portP 0 [256] none, .writeData .portP 0 256 0 [], .writeData .portP 0 1 256 [],
   .writeData .portP 0 1 0 (List.replicate 30 0), .addItems .portP 0 [⟨65536, none, none, 1, 0, .ashore, none⟩],
   .addItems .portP 0 [⟨1, none, none, 2147483648, 0, .ashore, none⟩],
   .addItems .portP 0 [⟨1, none, none, 1, -2147483649, .ashore, none⟩],
   .addItems .portP 0 [⟨1, none, none, 1, 0, .place wide, none⟩],
   .addItems .portP 0 [⟨1, none, none, 1, 0, .ashore, some (.place wide)⟩]]

/-- Ill-formed terms, one for each check: the changes. -/
def illChanges : List Instr :=
  [.amendItem .portP 0 65536 none none, .amendItem .portP 0 1 (some 2147483648) none,
   .amendItem .portP 0 1 none (some 2147483648), .planMove .portP 0 65536 none,
   .planMove .portP 0 1 (some (.place ⟨3, 32768, 0, 0, 0, none⟩)), .planMove .portP 0 1 (some (.place ⟨3, 0, -32769, 0, 0, none⟩)),
   .planMove .portP 0 1 (some (.place ⟨3, 0, 0, 32768, 0, none⟩)), .planMove .portP 0 1 (some (.place ⟨3, 0, 0, 0, 32768, none⟩)),
   .planMove .portP 0 1 (some (.place ⟨3, 0, 0, 0, 0, some 0⟩)), .planMove .portP 0 1 (some (.place ⟨3, 0, 0, 0, 0, some 65536⟩))]

/-- Ill-formed terms, one for each check: the other planning requests and reads. -/
def illReads : List Instr :=
  [.cancelPlan .portP 0 65536, .removeItem .portP 0 65536, .setCompartment .portP 0 256 none, .setDensity .portP 0 2147483648,
   .readItem .portP 0 65536, .listItems .portP 0 65536, .readCompartment .portP 0 256 0, .readCompartment .portP 0 0 65536,
   .setEvaluation .portP 0 none 2147483648, .readResult .portP 0 .latest 256, .readResult .portP 0 (.number 65536) 0,
   .readProspect .portP 0 256, .setCriterion .portP 0 256 none 0 0 0 none, .setCriterion .portP 0 0 none 2147483648 0 0 none,
   .setCriterion .portP 0 0 none 0 2147483648 0 none, .setCriterion .portP 0 0 none 0 0 2147483648 none]

/-- Ill-formed terms, one for each check: the monitor and the planning services. -/
def illMonitor : List Instr :=
  [.setRange .portP 0 256 0, .setRange .portP 0 0 256, .resetSlot .portP 0 256, .inject .portP 0 256 0,
   .inject .portP 0 0 2147483648, .withdraw .portP 0 256, .readCriterion .portP 0 256,
   .findSpace .portP 0 256 0 0 none false [], .findSpace .portP 0 0 256 0 none false [],
   .findSpace .portP 0 0 0 2147483648 none false [], .findSpace .portP 0 0 0 0 none false [256],
   .pushTrial .portP 0 (.item 65536 .ashore), .pushTrial .portP 0 (.item 1 (.place wide)), .pushTrial .portP 0 (.tank 256 0),
   .pushTrial .portP 0 (.tank 0 2147483648)]

/-- Ill-formed terms, one for each check: tanks, lifts and the line. -/
def illOthers : List Instr :=
  [.soundings .portB 0 [(256, 0)], .soundings .portB 0 [(0, 65536)], .drafts .portB 0 32768 0, .drafts .portB 0 0 32768,
   .liftRequest .portC1 0 65536 none ⟨0, 0, 0⟩ ⟨0, 0, 0⟩ none none, .liftRequest .portC1 0 1 (some (.place wide)) ⟨0, 0, 0⟩ ⟨0, 0, 0⟩ none none,
   .liftRequest .portC1 0 1 none far ⟨0, 0, 0⟩ none none, .liftRequest .portC1 0 1 none ⟨0, 0, 0⟩ far none none,
   .liftRequest .portC1 0 1 none ⟨0, 0, 0⟩ ⟨0, 0, 0⟩ none (some 65536), .joinLift .portC2 0 .unknown 65536 ⟨0, 0, 0⟩,
   .joinLift .portC2 0 .unknown 1 far, .hookOn .portC1 0 far, .hookAt .portC1 0 ⟨32768, 0, 0⟩, .hookAt .portC1 0 ⟨0, -32769, 0⟩,
   .landed .portC1 0 (some (.place wide)), .telegramReceived .portP (List.replicate 126 ⟨0, true⟩)]

theorem test_illShipData_refused : illShipData.all (fun i => !i.wf) = true := by decide +kernel
theorem test_illChanges_refused : illChanges.all (fun i => !i.wf) = true := by decide +kernel
theorem test_illReads_refused : illReads.all (fun i => !i.wf) = true := by decide +kernel
theorem test_illMonitor_refused : illMonitor.all (fun i => !i.wf) = true := by decide +kernel
theorem test_illOthers_refused : illOthers.all (fun i => !i.wf) = true := by decide +kernel

theorem test_boundary_terms_are_well_formed :
    (Instr.writeData .portP 0 255 255 (List.replicate 29 0)).wf = true ∧
    (Instr.telegramReceived .portP (List.replicate 125 ⟨0, true⟩)).wf = true ∧
    (Instr.planMove .portP 0 65535 (some (.place ⟨255, 32767, -32768, 0, 0, some 65535⟩))).wf = true := by decide +kernel

/-! ### The manual's numbers -/

/-- The check value of the manual's section on the check: 29B1h for the characters 1 to 9. -/
theorem test_crc_of_123456789 : crc16 [0x31, 0x32, 0x33, 0x34, 0x35, 0x36, 0x37, 0x38, 0x39] = 0x29B1#16 := by decide +kernel

/-- The table of R51, with 15.5584 as 155584/10000 and so on. -/
theorem test_rounding_table :
    roundDiv 75 2 = 38 ∧ roundDiv (-75) 2 = -38 ∧ roundDiv 155584 10000 = 16 ∧ roundDiv (-8595) 1000 = -9 ∧
    roundDiv (-2955) 1000 = -3 ∧ roundDiv (-3) 2 = -2 ∧ roundDiv 605 2 = 303 ∧ roundDiv 4555 2 = 2278 := by decide

/-- The table of R55: the lead weights. -/
theorem test_lead_weights : leadMass 4555 500 = 2278 ∧ leadMass 4555 600 = 2733 ∧ leadMass 12001 333 = 3996 := by decide

/-- The ship of the worked case of chapter 03, with its two rows alone, and the reference settings of the worked sequences
of chapter 05 in slots 0, 6 and 7. -/
def ship : Image where
  particulars := some ⟨10000, 0, 13⟩
  blocks := [(0, ⟨20000, 0, 10000, 0, 600⟩)]
  rows := [(0, ⟨400, 26000, 5050, 4900, 820, 150000, 140, 275, 400, 500, 560, 580⟩),
           (1, ⟨450, 30000, 5030, 4850, 800, 160000, 138, 272, 398, 495, 552, 570⟩)]
  stations := [(0, ⟨5000, 5200, 40, 2400, 4000, 50000⟩), (1, ⟨7500, 7900, 20, 3800, 3000, 60000⟩)]
  comps := [(3, ⟨1800, 4200, -1000, 1000, 100, 1500, .stow .hold 8000⟩),
            (5, ⟨5800, 8200, -1000, 1000, 100, 1500, .stow .hold 4000⟩),
            (20, ⟨4000, 6000, -900, 900, 0, 200, .tank 2000 5000 0 2000000⟩)]
  criteria := [(0, ⟨1, 15, 5, 2, 2⟩), (6, ⟨6, 20, 5, 3, 0⟩), (7, ⟨7, 50, 5, 1, 2⟩)]
  timers := none

theorem test_worked_image_passes_the_tests : ship.fault = none := by decide +kernel

/-- The placements of items 11 and 12 in the worked case. -/
def place11 : Placement := ⟨3, 2000, 4000, 100, 400, none⟩
def place12 : Placement := ⟨5, 6000, 8000, -200, 500, none⟩

/-- IN SERVICE with the worked ship and nothing aboard. -/
def served : State :=
  { State.reset with
    ship := { State.reset.ship with image := ship, present := true, checkWord := ship.check, mode := .inService,
                                    slotsUnloaded := false }
    mon := { State.reset.mon with slots := ship.slots, rangeStop := 13 } }

/-- The condition of the worked case: items 11 and 12 ABOARD and tank 20 at fill 500; and item 13 PENDING with a plan. -/
def worked : State :=
  { served with
    cond := { served.cond with
      items := [(11, ⟨.cargo, .aboard, 5000, 1, some place11, none, none⟩), (12, ⟨.cargo, .aboard, 3000, 2, some place12, none, none⟩)]
      comps := [(3, ⟨.opened, 5000, [11]⟩), (5, ⟨.opened, 3000, [12]⟩)] }
    tanks := { served.tanks with fills := [(20, 500)] } }

/-- The figures of the worked case (chapter 03, section 10), stages 1 to 6. -/
theorem test_worked_case_totals_to_heel :
    (figureSet ship (routineCapture worked)).map (fun f => (f.totals, f.trim, f.stab)) =
      some (⟨29000, 4862, -3, 536, 2000000, 29000⟩, ⟨32, 454, 422⟩, ⟨69, 605, 269, 200, -9⟩) := by decide +kernel

/-- Stages 3, 7 and 8 of the worked case. -/
theorem test_worked_case_hydrostatics_and_levers :
    (figureSet ship (routineCapture worked)).map (fun f => (f.hydro, f.levers)) =
      some (⟨438, 5035, 4862, 805, 157500, 138, 273, 398, 496, 554, 572⟩,
            ⟨3, 36, 69, 98, 109, 93, 50, 1555, 2590, 1035, 400⟩) := by decide +kernel

/-- Stage 9 and stage 10 of the worked case, with the maxima and the four flags. -/
theorem test_worked_case_strength_and_load :
    (figureSet ship (routineCapture worked)).map (fun f => (f.stations, f.maxShear, f.maxBend, f.loadRatio, f.flags)) =
      some ([⟨883, -12808, 221, 256⟩, ⟨321, -41927, 107, 699⟩], 221, 699, 750, ⟨false, false, false, false⟩) := by decide +kernel

/-- The tank content of the worked case: 1000 dt at z 50, slack (R153, R154). -/
theorem test_worked_tank : ship.tankWeights [(20, 500)] = [⟨.tank 20, 1000, 5000, 5000, 0, 50, none⟩] ∧
    ship.freeSurface [(20, 500)] = 2000000 ∧ ship.freeSurface [(20, 20)] = 0 ∧ ship.freeSurface [(20, 980)] = 0 := by decide +kernel

/-- A slot with the settings of slot 0 of the reference criteria: GM_MIN, limit 15, hysteresis 5, N 2, STOP CRANES. -/
def slot0 (alarm : Bool) (count : Nat) : Slot := ⟨⟨.gmMin, 15, 5, 2, .stopCranes⟩, alarm, count, none⟩

/-- The moves of slot 0 at results 102 to 106 of the first worked sequence of chapter 05. -/
theorem test_worked_slot_moves :
    moveSlot (slot0 false 0) 12 = slot0 false 1 ∧ moveSlot (slot0 false 1) 13 = slot0 true 2 ∧
    moveSlot (slot0 true 2) 17 = slot0 true 2 ∧ moveSlot (slot0 true 2) 19 = slot0 true 2 ∧
    moveSlot (slot0 true 2) 21 = slot0 false 0 := by decide

/-- The permits and CALARM of that sequence: released at STOP CRANES, asserted at NOTE. -/
theorem test_worked_permits :
    lineLevels .inService true (some .stopCranes) = ⟨false, false, false⟩ ∧ lineLevels .inService true (some .note) = ⟨true, true, false⟩ ∧
    lineLevels .inService false none = ⟨false, false, false⟩ ∧ lineLevels .verify false (some .alarm) = ⟨false, false, true⟩ := by decide

/-! ### States for the witnesses -/

/-- A job of the routine kind in a stage, on what the condition is. -/
def withJob (st : Stage) (w : Work) (s : State) : State := { s with eval := { s.eval with engine := some ⟨st, s.cond.version, w⟩ } }

/-- A routine job's work at a state. -/
def routineWork (s : State) : Work := .routine (routineCapture s) false ⟨none, 0, 0⟩

/-- A capture in progress. -/
def capturing : State := withJob .capturing (routineWork worked) worked

/-- A lift of item 12 with a role. -/
def lift12 (role : LiftRole) : Lift :=
  ⟨12, .place place12, .ashore, ⟨7000, 1500, 2000⟩, some ⟨7000, 0, 2000⟩, role, if role = .single then none else some 600⟩

/-- A record with that lift in a state. -/
def record12 (st : LiftState) (role : LiftRole) (t : Option RunningTimer) : LiftRecord := ⟨st, some (lift12 role), t, false, none, none⟩

/-- The worked condition with a record on crane 1, and one with a record on crane 2. -/
def onCrane1 (r : LiftRecord) : State := worked.setRecord .crane1 r
def onCranes (r x : LiftRecord) : State := (worked.setRecord .crane1 r).setRecord .crane2 x

/-- Item 12 on the hook of crane 1. -/
def hoisted : State :=
  let s := onCrane1 (record12 .slung .single (some ⟨.report, 10⟩))
  { s with cond := { s.cond with
      items := [(11, ⟨.cargo, .aboard, 5000, 1, some place11, none, none⟩), (12, ⟨.cargo, .slung, 3000, 2, none, none, some .crane1⟩)]
      comps := [(3, ⟨.opened, 5000, [11]⟩)] } }

/-- Item 12 on the hooks of both cranes. -/
def hoistedByTwo : State :=
  { hoisted with lifts := { hoisted.lifts with records := ⟨record12 .slung .lead none, record12 .slung .partner none⟩ } }

/-- DATA LOADING with the worked ship in the buffer. -/
def loading : State :=
  { served with ship := { served.ship with mode := .dataLoading, present := false, image := .blank, buffer := ship } }

/-- VERIFY with the worked ship stored. -/
def verifying (unloaded : Bool) : State :=
  { served with ship := { served.ship with mode := .verify, slotsUnloaded := unloaded } }

/-- A request of a port with mark 0. -/
def asked (p : Port) (k : ReqKind) : Caller := ⟨p, kindByte k, 5, 0⟩

/-- A state in which a port waits for the reply to a request. -/
def waits (p : Port) (k : ReqKind) (s : State) : State :=
  s.modifyPort p (fun q => { q with outstanding := some (asked p k), deferred := some (asked p k), nextMark := 1 })

/-- A BUSY reply held by a transmitter. -/
def busyReply : TxEntry := ⟨⟨0x81, 5, ⟨.busy, .statusOnly⟩⟩, none⟩

/-- A result record with the figures of the worked case. -/
def result (seq : Nat) : Option RoutineResult :=
  (figureSet ship (routineCapture worked)).map (fun f => ⟨seq, 0, false, false, 2, f, none, List.replicate 16 .na, 0, false⟩)

/-- The worked condition with a LATEST and a PRIOR result and a fresh reading at the freshness limit. -/
def measured : State :=
  { worked with
    eval := { worked.eval with latest := result 65535, prior := result 1 }
    tanks := { worked.tanks with reading := some ⟨0, 5000, 30⟩ } }

/-! ### The queue and the ports -/

theorem witness_StepTakesTheFrontCommand : ({ served with pending := [.verifyEnd, .jobStart] } : State).pending = .verifyEnd :: [.jobStart] := rfl

theorem witness_EmptyQueuePassesOneSecond : hoisted.pending = [] ∧ (hoisted.record .crane1).timer = some ⟨.report, 10⟩ := by decide

/-- Each of the seven tests meets its state. -/
theorem witness_RequestTestsDecideInOrder :
    requestRow (.readDrafts .portC1 7) = some (.portC1, 7, .readDrafts) ∧
    ((served.setRx .portC1 .inBreak).ports.get .portC1).rx = .inBreak ∧
    (let q := (waits .portC1 .readDrafts served).ports.get .portC1
     q.rx ≠ .inBreak ∧ q.outstanding.isSome = true ∧ holdsBusy q.tx = false) ∧
    (let q := (queueReply .portC1 busyReply (waits .portC1 .readDrafts served)).ports.get .portC1
     q.rx ≠ .inBreak ∧ q.outstanding.isSome = true ∧ holdsBusy q.tx = true) ∧
    (Ready State.reset .portC1 ∧ State.reset.ship.mode = .verify ∧ Request.readDrafts.kind ≠ .identify) ∧
    (requestRow (.draftZero .portC1 7) = some (.portC1, 7, .draftZero) ∧ Ready served .portC1 ∧ served.ship.mode ≠ .verify ∧
      roleAllows Request.draftZero.kind (portRole .portC1) = false) ∧
    (Ready loading .portC1 ∧ loading.ship.mode ≠ .verify ∧ roleAllows Request.readDrafts.kind (portRole .portC1) = true ∧
      modeAnswer loading.ship.mode Request.readDrafts.kind = some .notInService) ∧
    (Ready served .portC1 ∧ modeAnswer served.ship.mode Request.readDrafts.kind = none) := by decide +kernel

/-- Each row of R180: the lengths 120 and 121 on both sides of the oversize test, and payloads of length 0 and 120. -/
theorem witness_ReceiverDealsWithEachEvent :
    (served.ports.get .portP).rx = .waiting ∧
    (∀ l : List Byte, l = [1, 2] → ((served.setRx .portP (.assembling l)).ports.get .portP).rx = .assembling [1, 2]) ∧
    120 < (121#8).toNat ∧ (120#8).toNat ≤ 120 ∧
    ((served.setRx .portP (.assembling [1, 2, 0, 9])).ports.get .portP).rx =
      .assembling (1 :: 2 :: byteOf ([] : List Byte).length :: [] ++ [9]) ∧
    ((served.setRx .portP (.assembling (1 :: 2 :: 120 :: List.replicate 120 0 ++ [9]))).ports.get .portP).rx =
      .assembling (1 :: 2 :: byteOf (List.replicate 120 (0 : Byte)).length :: List.replicate 120 0 ++ [9]) ∧
    ([7] : List Byte).length ≤ (1#8).toNat ∧
    ((served.setRx .portP .discarding).ports.get .portP).rx = .discarding ∧
    ((served.setRx .portP .inBreak).ports.get .portP).rx = .inBreak := by
  refine ⟨by decide +kernel, fun l h => by subst h; decide +kernel, ?_⟩
  decide +kernel

/-- A telegram of each sort at a waiting receiver. -/
theorem witness_SoundTelegramIsItsRequest :
    ([] : List Byte).length ≤ 120 ∧ (List.replicate 120 (0 : Byte)).length ≤ 120 ∧ (served.ports.get .portP).rx = .waiting ∧
    (kindOfByte (kindByte .readItem) = some .readItem ∧ requestOf .readItem [0, 11] = some (.readItem 11) ∧
      requestRow (.readItem .portP 3 11) = some (.portP, 3, .readItem 11)) ∧
    (requestOf .readItem (List.replicate 120 0) = none ∧ Ready served .portP ∧ served.ship.mode ≠ .verify ∧
      roleAllows .readItem (portRole .portP) = true ∧ modeAnswer served.ship.mode .readItem = none) ∧
    kindOfByte 0 = none ∧
    [0, 0] ≠ crcBytes (crc16 (kindByte .identify :: 0 :: byteOf ([] : List Byte).length :: [])) ∧
    ((bare .busy).body = .statusOnly ∧ (⟨.done, .version 7⟩ : Answer).body = .version 7 ∧
      (⟨.done, .committed 7⟩ : Answer).body = .committed 7 ∧ (⟨.done, .layout [1]⟩ : Answer).body = .layout [1] ∧
      ∀ bytes, (⟨.done, .cleared 1⟩ : Answer).body ≠ .layout bytes) ∧
    (((1 : Byte).toNat < 128 ∧ ¬ (200 : Byte).toNat < 128) ∧ [(0 : Byte)] ≠ [] ∧ [(0 : Byte)].length ≠ 2) := by
  refine ⟨by decide +kernel, by decide +kernel, by decide +kernel, by decide +kernel, by decide +kernel, by decide +kernel,
    by decide +kernel, ⟨rfl, rfl, rfl, rfl, fun _ h => by cases h⟩, by decide⟩

/-- WRITE DATA of kind 4, index 2, with the fields -1 and 5000, each in four bytes (R9, R12); one byte less does not fit. -/
theorem test_write_data_payload :
    requestOf .writeData [4, 2, 0xFF, 0xFF, 0xFF, 0xFF, 0, 0, 0x13, 0x88] = some (.writeData 4 2 [0xFFFFFFFF, 5000]) ∧
    requestOf .writeData [4, 2, 0xFF, 0xFF, 0xFF] = none := by decide +kernel

/-- A BUSY reply to IDENTIFY under tag 5: kind 81h, tag, length 1, status 10h, and a check of two bytes (R178, R179). -/
theorem test_busy_reply_telegram : (busyReply.reply.telegram.take 4, busyReply.reply.telegram.length) = ([0x81, 5, 1, 0x10], 6) := by
  decide +kernel

/-- A version of 0102h is sent in four bytes, high byte first. -/
theorem test_version_reply_payload : (⟨.done, .version 0x0102⟩ : Answer).payload = [0, 0, 0, 1, 2] := by decide +kernel

/-- A counter at 254 and one at 255. -/
theorem witness_ErrorCountersSaturate :
    (Counters.read ⟨254, 0, 0, 0, 0, 0, 255⟩ .framing < 255) ∧ (255 ≤ Counters.read ⟨254, 0, 0, 0, 0, 0, 255⟩ .dropped) ∧
    Ready served .portB ∧ served.ship.mode ≠ .verify := by decide +kernel

theorem witness_ReplySentAndBreakActOnOnePort :
    (served.ports.get .portB).tx = [] ∧
    ((queueReply .portB busyReply served).ports.get .portB).tx = busyReply :: [] ∧
    (served.ports.get .portB).rx ≠ .inBreak ∧ ((served.setRx .portB .inBreak).ports.get .portB).rx = .inBreak := by decide +kernel

/-! ### Identification and attention -/

theorem witness_IdentifyReports : Ready State.reset .portC2 := by decide

theorem witness_AttentionQueryReturns : Ready served .portC2 ∧ served.ship.mode ≠ .verify := by decide +kernel

/-- The entries 0, 1, 7 and 8 of a mask, a port in each mode, and a cause new and old. -/
theorem witness_AttentionMasksModesAndPulses :
    Ready served .portB ∧ served.ship.mode ≠ .verify ∧ (∃ n ∈ [0, 1], n < 1 ∨ 7 < n) ∧ (∃ n ∈ [8], n < 1 ∨ 7 < n) ∧
    (∀ n ∈ [1, 7], 1 ≤ n ∧ n ≤ 7) ∧
    (let a : AttnPort := ⟨[.newResult], [], .level, false⟩
     Cause.newResult ∈ a.pending ∧ Cause.lineError ∉ a.pending ∧ a.mode = .level) ∧
    (let a : AttnPort := ⟨[], [.newResult], .pulse, false⟩
     Cause.newResult ∉ a.pending ∧ a.mode = .pulse) ∧
    (served.attn.get .portP).mode = .level ∧
    (({ served with attn := served.attn.set .portP ⟨[], [], .pulse, true⟩ } : State).attn.get .portP).mode = .pulse := by decide +kernel

/-! ### Ship data, verification and restarts -/

/-- A commit, a record that blocks, and neither; in DATA FAULT a SLUNG record does not block. -/
theorem witness_OpenDataBeginsALoad :
    (Ready served .portP ∧ served.ship.mode ≠ .verify) ∧
    (({ loading with ship := { loading.ship with committing := some (asked .portP .closeData) } } : State).ship.committing.isSome = true) ∧
    (liftActive (hoisted.record .crane1) = true ∧ ¬ (hoisted.ship.mode = .dataFault ∧ (hoisted.record .crane1).state = .slung)) ∧
    (let s : State := { hoisted with ship := { hoisted.ship with mode := .dataFault } }
     Ready s .portP ∧ s.ship.mode ≠ .verify ∧ s.ship.committing = none ∧
     (s.ship.mode = .dataFault ∧ (s.record .crane1).state = .slung) ∧ liftActive (s.record .crane2) = false ∧
     (s.record .crane1).lift.isSome = true ∧ (s.record .crane2).state ≠ .slung) ∧ served.cond.comps.Rising := by
  exact ⟨by decide +kernel, by decide +kernel, by decide +kernel, by decide +kernel, List.Pairwise.nil⟩

/-- The kinds 0, 1, 7 and 8, a stow and a TANK record, and the highest index of kind 5 with the next. -/
theorem witness_WriteDataPlacesARecord :
    (Ready served .portP ∧ served.ship.mode ≠ .verify ∧ served.ship.mode ≠ .dataLoading) ∧
    (Ready loading .portP ∧ loading.ship.mode ≠ .verify ∧ loading.ship.mode = .dataLoading ∧ loading.ship.committing = none) ∧
    (∀ kind ∈ [1, 2, 3, 4, 5, 6, 7], ¬ (kind = 0 ∨ 7 < kind)) ∧
    ([0, 0, 15, 63, 15, 95, 15, 0].getD 5 0 < 96 ∧ ¬ [0, 0, 15, 63, 15, 95, 15, 0].getD 5 0 < 95) ∧
    (let f : List FieldWord := [1, 0, 0, 0, 0, 0, 0, 0]
     f.length = 8 ∧ 1 ≤ (f.map BitVec.toInt).headD 0 ∧ (f.map BitVec.toInt).headD 0 ≤ 3) ∧
    (let f : List FieldWord := [4, 0, 0, 0, 0, 0, 0, 0, 0, 0, 0]
     f.length = 11 ∧ (f.map BitVec.toInt).headD 0 = 4) ∧ ship.comps.keys.Pairwise (· < ·) := by decide +kernel

theorem witness_ImageTestsAcceptExactly :
    ship.blocks.keys.Pairwise (· < ·) ∧ ship.rows.keys.Pairwise (· < ·) ∧ ship.stations.keys.Pairwise (· < ·) ∧
    ship.comps.keys.Pairwise (· < ·) ∧ ship.criteria.keys.Pairwise (· < ·) ∧ ship.fault = none ∧ Image.blank.fault ≠ none ∧
    ({ ship with stations := ship.stations.drop 0 } : Image).fault = some (.stations, 4, 0) ∧
    ({ ship with criteria := ship.criteria.put 7 ⟨15, 0, 0, 1, 0⟩ } : Image).fault = some (.criteria, 6, 7) := by decide +kernel

/-- Outside DATA LOADING, an empty buffer, a wrong expected word, and the right one. -/
theorem witness_CloseDataEndsALoad :
    (Ready served .portP ∧ served.ship.mode ≠ .verify ∧ ¬ (served.ship.mode = .dataLoading ∧ served.ship.committing = none)) ∧
    (Ready loading .portP ∧ loading.ship.mode = .dataLoading ∧ loading.ship.committing = none) ∧
    Image.blank.fault = some (.particulars, 1, 0) ∧
    (loading.ship.buffer.fault = none ∧ loading.ship.buffer.check ≠ loading.ship.buffer.check + 1) ∧
    loading.ship.buffer.check = ship.check := by
  refine ⟨by decide +kernel, by decide +kernel, by decide +kernel, ⟨by decide +kernel, ?_⟩, rfl⟩
  generalize loading.ship.buffer.check = w; bv_omega

/-- No commit, and a commit of the worked ship; a slot with a default and one without. -/
theorem witness_CommitEndStoresTheImage :
    served.ship.committing = none ∧
    (let s : State := { loading with ship := { loading.ship with committing := some (asked .portP .closeData) } }
     s.ship.committing = some (asked .portP .closeData) ∧ s.cond.comps.keys.Pairwise (· < ·)) ∧
    loading.ship.buffer.particulars.map (fun r => (r.rangeStart, r.rangeStop)) = some (0, 13) ∧
    ship.criteria.find 15 = none ∧ ship.criteria.find 0 = some ⟨1, 15, 5, 2, 2⟩ ∧
    (ship.criteria.put 15 ⟨0, 40, 3, 8, 3⟩).find 15 = some ⟨0, 40, 3, 8, 3⟩ := by decide +kernel

/-- A record with code NONE gives its slot its own settings, and passes the tests with a field outside its range (R7, R103). -/
theorem test_none_record_keeps_its_settings :
    slotOfRecord ⟨0, 40, 3, 8, 3⟩ = ⟨⟨.none, 40, 3, 8, .alarm⟩, false, 0, none⟩ ∧
    ({ ship with criteria := ship.criteria.put 15 ⟨0, 40, -1, 9, 4⟩ } : Image).fault = none := by decide +kernel

/-- Another mode, no data, a check that differs, and both ways into service. -/
theorem witness_VerifyEndChoosesTheMode :
    served.ship.mode ≠ .verify ∧ (State.reset.ship.mode = .verify ∧ State.reset.ship.present = false) ∧
    (let s : State := { verifying false with ship := { (verifying false).ship with checkWord := (verifying false).ship.checkWord + 1 } }
     s.ship.mode = .verify ∧ s.ship.present = true ∧ s.ship.image.check ≠ s.ship.checkWord) ∧
    (∀ u, (verifying u).ship.mode = .verify ∧ (verifying u).ship.present = true ∧
      (verifying u).ship.image.check = (verifying u).ship.checkWord ∧ (verifying u).ship.slotsUnloaded = u ∧
      (verifying u).ship.image.particulars.map (fun r => (r.rangeStart, r.rangeStop)) = some (0, 13) ∧
      (verifying u).cond.comps.Rising) := by
  refine ⟨by decide +kernel, by decide +kernel, ⟨rfl, rfl, ?_⟩, fun u => ⟨rfl, rfl, rfl, rfl, rfl, List.Pairwise.nil⟩⟩
  show ship.check ≠ ship.check + 1
  generalize ship.check = w; bv_omega

/-- Retained memory lost, and kept with its mark damaged. -/
theorem witness_ColdRestartClears :
    ¬ (false = true ∧ served.ship.retentionMark = true) ∧
    (let s : State := { served with ship := { served.ship with retentionMark := false } }
     ¬ (true = true ∧ s.ship.retentionMark = true)) := by decide +kernel

theorem witness_WarmRestartKeeps :
    (Instr.supplyRise true ⟨false, true⟩ = .supplyRise true ⟨false, true⟩ ∧ hoisted.ship.retentionMark = true) ∧
    Instr.resetPin ⟨true, true⟩ = .resetPin ⟨true, true⟩ := by decide +kernel

/-! ### Changes of the condition -/

/-- A malformed change, one held, and one when its port has one held. -/
theorem witness_ChangeDuringCaptureIsHeld :
    requestRow (.soundings .portB 1 [(20, 5)]) = some (.portB, 1, .change (.soundings [(20, 5)])) ∧ Serving capturing .portB ∧
    roleAllows (Request.change (.soundings [(20, 5)])).kind (portRole .portB) = true ∧ changeMalformed (.soundings []) = true ∧
    changeMalformed (.soundings [(20, 5)]) = false ∧ capturing.capturing = true ∧ capturing.cond.hold = [] ∧
    (let s : State := { capturing with cond := { capturing.cond with hold := [⟨asked .portB .soundings, .soundings [(20, 1)]⟩] } }
     ∃ h ∈ s.cond.hold, h.caller.port = .portB) := by decide +kernel

/-- An entry for a PENDING item in compartment 3. -/
def entry13 : Entry := ⟨13, some .cargo, some .pending, 60000, 15, .place ⟨3, 1800, 4200, 1000, 1500, none⟩, none⟩

/-- No entry, five, a second entry that fails on the first's tag, and four good entries; the ends of the ranges. -/
theorem witness_AddItemsAppliesAllOrNone :
    Applying worked .portP ∧ 4 < (List.replicate 5 entry13).length ∧
    (∃ t, addEntries 1 worked [entry13] = .ok t ∧ entryFault t entry13 = some .tagInUse) ∧
    entryFault worked { entry13 with mass := 60001 } = some .badArgument ∧ entryFault worked { entry13 with mass := 1 } = none ∧
    entryFault worked { entry13 with dport := 16 } = some .badArgument ∧
    (∃ t, addEntries 1 worked [entry13, { entry13 with tag := 14 }, { entry13 with tag := 15 }, { entry13 with tag := 65535 }] = .ok t) := by
  refine ⟨by decide +kernel, by decide, ⟨applyEntry worked entry13, ?_, by decide +kernel⟩, by decide +kernel, by decide +kernel,
    by decide +kernel, ⟨([entry13, { entry13 with tag := 14 }, { entry13 with tag := 15 }, { entry13 with tag := 65535 }] : List Entry).foldl
      applyEntry worked, ?_⟩⟩
  · have : entryFault worked entry13 = none := by decide +kernel
    simp [addEntries, this]
  · have h1 : entryFault worked entry13 = none := by decide +kernel
    have h2 : entryFault (applyEntry worked entry13) { entry13 with tag := 14 } = none := by decide +kernel
    have h3 : entryFault (applyEntry (applyEntry worked entry13) { entry13 with tag := 14 }) { entry13 with tag := 15 } = none := by
      decide +kernel
    have h4 : entryFault (applyEntry (applyEntry (applyEntry worked entry13) { entry13 with tag := 14 }) { entry13 with tag := 15 })
      { entry13 with tag := 65535 } = none := by decide +kernel
    simp only [addEntries, h1, h2, h3, h4, List.foldl]

/-- The ends of the mass and port ranges, no such item, a named one and a free one; and an item with a plan. -/
theorem witness_AmendItemAndCancelPlanApply :
    Applying worked .portP ∧ ((60001 : Int) < 1 ∨ 60000 < (60001 : Int)) ∧ ¬ ((60000 : Int) < 1 ∨ 60000 < (60000 : Int)) ∧
    ((-1 : Int) < 0 ∨ 15 < (-1 : Int)) ∧ worked.item 13 = none ∧
    (let s := onCrane1 (record12 .checking .single none)
     Applying s .portP ∧ s.item 12 = some ⟨.cargo, .aboard, 3000, 2, some place12, none, none⟩ ∧ s.named 12 = true ∧ s.named 11 = false) ∧
    (let it : ItemRecord := ⟨.cargo, .aboard, 5000, 1, some place11, some .ashore, none⟩
     let s := worked.setItem 11 it
     Applying s .portP ∧ s.item 11 = some it ∧ it.state = .aboard ∧ s.named 11 = false ∧ it.plan = some .ashore) := by decide +kernel

/-- Every refusal of PLAN MOVE and both plans that are taken. -/
theorem witness_PlanMoveAppliesWithItsWarnings :
    Applying worked .portP ∧ worked.item 13 = none ∧
    (let it : ItemRecord := ⟨.constant, .aboard, 1, 0, some place11, none, none⟩
     (worked.setItem 13 it).item 13 = some it ∧ it.kind = .constant) ∧
    (let s := onCrane1 (record12 .checking .single none)
     Applying s .portP ∧ s.item 12 = some ⟨.cargo, .aboard, 3000, 2, some place12, none, none⟩ ∧ s.named 12 = true) ∧
    (let it : ItemRecord := ⟨.cargo, .pending, 1, 0, none, some (.place place11), none⟩
     Applying (worked.setItem 13 it) .portP ∧ (worked.setItem 13 it).item 13 = some it ∧ it.kind = .cargo ∧ it.state = .pending ∧
     (worked.setItem 13 it).named 13 = false) ∧
    (worked.item 11 = some ⟨.cargo, .aboard, 5000, 1, some place11, none, none⟩ ∧ worked.named 11 = false ∧
     placementValid worked .newPlan 11 ⟨3, 1799, 4200, 0, 100, none⟩ = false ∧
     placementValid worked .newPlan 11 ⟨3, 1800, 4200, 0, 100, none⟩ = true) ∧
    goalOk (.place ⟨3, 1800, 19501, 0, 100, none⟩) = false := by decide +kernel

/-- A coordinate outside its range is refused before the missing item (R41, R126, log 36). -/
theorem test_plan_move_out_of_range :
    (applyPlanMove 13 (some (.place ⟨3, 1800, 19501, 0, 100, none⟩)) worked).2.status = .badArgument ∧
    (applyPlanMove 13 (some (.place ⟨96, 1800, 19500, 0, 100, none⟩)) worked).2.status = .noSuchItem := by decide +kernel

/-- No such item, a SLUNG one, one that is rested on, and a free one. -/
theorem witness_RemoveItemApplies :
    Applying worked .portP ∧ worked.item 13 = none ∧
    (Applying hoisted .portP ∧ hoisted.item 12 = some ⟨.cargo, .slung, 3000, 2, none, none, some .crane1⟩) ∧
    (let s := worked.setItem 13 ⟨.cargo, .aboard, 1, 0, some { place12 with restsOn := some 12 }, none, none⟩
     s.item 12 = some ⟨.cargo, .aboard, 3000, 2, some place12, none, none⟩ ∧ s.named 12 = false ∧ s.overstowed 12 = true) ∧
    (worked.item 12 = some ⟨.cargo, .aboard, 3000, 2, some place12, none, none⟩ ∧ worked.named 12 = false ∧
     worked.overstowed 12 = false) := by decide +kernel

theorem witness_SetCompartmentClearAndDensityApply :
    Applying worked .portP ∧ worked.ship.image.comp 3 = some ⟨1800, 4200, -1000, 1000, 100, 1500, .stow .hold 8000⟩ ∧
    worked.ship.image.stowComp 20 = none ∧ worked.ship.image.stowComp 96 = none ∧
    (Applying hoisted .portP ∧ (hoisted.record .crane1).state ∈ [LiftState.joining, .checking, .granted, .slung]) ∧
    ((worked.record .crane1).state ∈ [LiftState.idle, .done] ∧ (worked.record .crane2).state ∈ [LiftState.idle, .done] ∧
     worked.cond.comps.keys.Pairwise (· < ·)) := by decide +kernel

/-- No pair, 13 pairs, 12 pairs, pairs that all miss, and pairs at and above 1000. -/
theorem witness_SoundingsFillTanks :
    Serving worked .portB ∧ 12 < (List.replicate 13 (20, 1000)).length ∧ (List.replicate 12 (20, 1001)).length ≤ 12 ∧
    worked.capturing = false ∧ ([(3, 5)].filter (fun x => worked.ship.image.isTank x.1) = []) ∧
    ([(20, 1000), (20, 1001)].filter (fun x : Nat × Nat => worked.ship.image.isTank x.1) ≠ []) := by decide +kernel

/-! ### Reads and the evaluation unit -/

theorem witness_ConditionReads :
    Serving worked .portC1 ∧ worked.item 13 = none ∧
    worked.item 12 = some ⟨.cargo, .aboard, 3000, 2, some place12, none, none⟩ ∧ worked.ship.image.comp 96 = none ∧
    worked.ship.image.comp 3 = some ⟨1800, 4200, -1000, 1000, 100, 1500, .stow .hold 8000⟩ ∧
    worked.ship.image.comp 20 = some ⟨4000, 6000, -900, 900, 0, 200, .tank 2000 5000 0 2000000⟩ ∧
    (∃ l, (hoisted.record .crane1).state = .slung ∧ (hoisted.record .crane1).lift = some l ∧ l.tag = 12 ∧
      recordNames (hoisted.record .crane2) 12 = false) := by
  refine ⟨by decide +kernel, by decide +kernel, by decide +kernel, by decide +kernel, by decide +kernel, by decide +kernel,
    lift12 .single, by decide +kernel⟩

/-- Empty banks, both banks at the ends of the numbering, a part that exists and one that does not, and a full verdict list. -/
theorem witness_ResultReadsAndLayouts :
    Serving worked .portC1 ∧ worked.eval.latest = none ∧ worked.eval.prior = none ∧ worked.eval.prospect = none ∧
    (Serving measured .portC1 ∧ measured.eval.latest.map (fun r => r.seq) = some 65535 ∧
     measured.eval.prior.map (fun r => r.seq) = some 1) ∧
    measured.ship.image.stationCount = 2 ∧ (List.replicate 16 Verdict.na).length = 16 := by decide +kernel

theorem witness_EvaluationRequests :
    Serving served .portP ∧ ((0 : Int) < 1 ∨ 60 < (0 : Int)) ∧ ((61 : Int) < 1 ∨ 60 < (61 : Int)) ∧ (1 : Int) ≤ 60 ∧
    served.eval.intervalTimer = none ∧
    ({ served with eval := { served.eval with intervalTimer := some 0 } } : State).eval.intervalTimer = some 0 := by decide +kernel

/-- The part not IN SERVICE, and each slot first in its turn; the two lift checks in both orders. -/
theorem witness_ArbiterStartsTheFirstJob :
    ¬ (loading.ship.mode = .inService ∧ loading.eval.engine = none) ∧ (served.ship.mode = .inService ∧ served.eval.engine = none) ∧
    (let s := onCrane1 (record12 .checking .single none)
     s.ship.mode = .inService ∧ s.eval.engine = none ∧ (s.record .crane1).lift = some (lift12 .single)) ∧
    (let s := onCranes (record12 .checking .single none) (record12 .checking .single none)
     (s.record .crane2).lift = some (lift12 .single)) ∧
    (let e : EvalUnit := { served.eval with slotC1 := some 3, slotC2 := some 4 }
     e.slotC1 = some 3 ∧ e.slotC2 = some 4 ∧ 3 ≤ 4) ∧
    (let e : EvalUnit := { served.eval with slotC1 := some 4, slotC2 := some 3 }
     e.slotC2 = some 3 ∧ e.slotC1 = some 4 ∧ 3 < 4) ∧
    (let e : EvalUnit := { served.eval with slotProspect := some (.actual, asked .portP .evaluateProspect) }
     e.slotC1 = none ∧ e.slotC2 = none ∧ e.slotProspect = some (.actual, asked .portP .evaluateProspect)) ∧
    (served.eval.slotProspect = none ∧ served.eval.slotRoutine = false) ∧
    (served.eval.slotRoutine = false ∧ (raiseRoutine served).eval.slotRoutine = true) ∧
    (capturing.eval.engine ≠ none ∧ served.eval.engine = none) := by
  refine ⟨by decide +kernel, by decide +kernel, by decide +kernel, by decide +kernel, by decide +kernel, by decide +kernel,
    by decide +kernel, by decide +kernel, by decide +kernel, ⟨(by intro h; cases h), by decide +kernel⟩⟩

/-- The first request after entry to IN SERVICE is the routine request that the entry raises, and it starts at once (R80). -/
theorem test_entry_starts_the_routine_job :
    (match exec .commitEnd { loading with ship := { loading.ship with committing := some (asked .portP .closeData) } } with
     | .next t => routineInFlight t.eval && !t.eval.slotRoutine
     | _ => false) = true := by decide +kernel

/-- The end of the worked sequence of chapter 04, section 3.1: at the completion C1's lift check and a routine request are
pending, and the lift check is started. -/
theorem test_completion_starts_the_lift_check_first :
    (let s := withJob .computing (routineWork worked) (onCrane1 (record12 .checking .single none))
     match exec .routineCompletion { s with eval := { s.eval with slotC1 := some 0, slotRoutine := true } } with
     | .next t => checkRunning t.eval .crane1 && t.eval.slotC1.isNone && t.eval.slotRoutine
     | _ => false) = true := by decide +kernel

theorem witness_CaptureCompleteAppliesHeldChanges :
    (∃ j, capturing.eval.engine = some j ∧ j.stage = .capturing) ∧ served.capturing = false ∧
    served.eval.routineMode = .continuous ∧
    (requestRow (.hookOn .portC2 5 ⟨0, 0, 0⟩) = some (.portC2, 5, .change (.hookOn ⟨0, 0, 0⟩)) ∧ Applying worked .portC2 ∧
      roleAllows .hookOn (portRole .portC2) = true ∧ changeMalformed (.hookOn ⟨0, 0, 0⟩) = false) := by
  exact ⟨⟨⟨.capturing, 0, routineWork worked⟩, rfl, rfl⟩, by decide +kernel, by decide +kernel, by decide +kernel⟩

/-- The figure set of the worked case (chapter 03, section 10.8). -/
def figures : FigureSet where
  totals := ⟨29000, 4862, -3, 536, 2000000, 29000⟩
  hydro := ⟨438, 5035, 4862, 805, 157500, 138, 273, 398, 496, 554, 572⟩
  trim := ⟨32, 454, 422⟩
  stab := ⟨69, 605, 269, 200, -9⟩
  levers := ⟨3, 36, 69, 98, 109, 93, 50, 1555, 2590, 1035, 400⟩
  stations := [⟨883, -12808, 221, 256⟩, ⟨321, -41927, 107, 699⟩]
  maxShear := 221
  maxBend := 699
  loadRatio := 750
  flags := ⟨false, false, false, false⟩

theorem test_worked_case_figure_set : figureSet ship (routineCapture worked) = some figures := by decide +kernel

/-- A capture with no weight gives no figure set. -/
def empty : Capture := ⟨[], 1025, 0⟩

theorem test_no_figure_set_without_mass : figureSet ship empty = none := by decide +kernel

/-- Slot 0 of the reference criteria in range and out of it, a code that does not apply, and one without a figure. -/
theorem witness_PlainComparisonUsesComputedFigures :
    served.mon.slots[0]? = some (slot0 false 0) ∧
    (inRange served.mon.rangeStart served.mon.rangeStop 13 = true ∧ inRange served.mon.rangeStart served.mon.rangeStop 14 = false) ∧
    applies .gmMin .lp = true ∧ compared figures none .gmMin = some 200 ∧ applies .heelMax .lp = false ∧
    compared figures none .draftAgreeMax = none := by decide +kernel

/-- GM_MIN at its limit. -/
theorem witness_CodesCompareTheirFigures : (⟨.gmMin, 15, 5, 2, .note⟩ : Settings).code = .gmMin ∧ Code.gmMin ≠ .none := by decide

/-- N/A, CLEAR with both counts, ALARM at 20, which recovers, and at 19, which does not. -/
theorem witness_JudgingMovesSlots :
    (served.mon.slots[1]? = some Slot.unused ∧ Slot.unused.set.code = .none) ∧
    (served.mon.slots[0]? = some (slot0 false 0) ∧ (slot0 false 0).set.code ≠ .none ∧
      inRange served.mon.rangeStart served.mon.rangeStop 0 = true ∧ applies (slot0 false 0).set.code .r = true ∧
      compared figures none (slot0 false 0).set.code = some 200) ∧
    ((slot0 false 0).count + 1 < (slot0 false 0).set.n ∧ (slot0 false 1).set.n ≤ (slot0 false 1).count + 1) ∧
    failsLimit (slot0 false 0).set 14 = true ∧ failsLimit (slot0 false 0).set 15 = false ∧
    ((slot0 true 2).set.limit + (slot0 true 2).set.hyst ≤ 20 ∧ ¬ (slot0 true 2).set.limit + (slot0 true 2).set.hyst ≤ 19) := by
  decide +kernel

/-- No job, a job with a figure set and one without. -/
theorem witness_RoutineCompletionJudges :
    served.eval.engine = none ∧
    ((withJob .computing (routineWork worked) worked).eval.engine = some ⟨.computing, 0, .routine (routineCapture worked) false ⟨none, 0, 0⟩⟩ ∧
     figureSet (withJob .computing (routineWork worked) worked).ship.image (routineCapture worked) = some figures) ∧
    (withJob .computing (.routine empty false ⟨none, 0, 0⟩) worked).eval.engine = some ⟨.computing, 0, .routine empty false ⟨none, 0, 0⟩⟩ := by
  decide +kernel

theorem witness_EffectiveActionAndLines :
    effectiveOf [slot0 true 2] = some .stopCranes ∧ effectiveOf [slot0 false 1] = none ∧ slot0 true 2 ∈ [slot0 true 2] ∧
    (slot0 true 2).alarm = true := by decide

/-- No check, a check of a tandem lead whose partner's reply is deferred, and a check without a figure set. -/
theorem witness_LiftCheckDecides :
    served.eval.engine = none ∧
    (let s := withJob .computing (.lift .crane1 (routineCapture worked) (routineCapture worked))
       (waits .portC2 .joinLift (onCranes (record12 .checking .lead none) (record12 .checking .partner none)))
     let t : State := { s with lifts := { s.lifts with waiting := ⟨none, some (asked .portC2 .joinLift)⟩ } }
     t.eval.engine = some ⟨.computing, 0, .lift .crane1 (routineCapture worked) (routineCapture worked)⟩ ∧
     figureSet t.ship.image (routineCapture worked) = some figures ∧ (t.record .crane1).state = .checking ∧
     liftRole (t.record .crane1) = some .lead ∧ liftRole (t.record .crane2) = some .partner ∧ (t.record .crane2).state = .checking ∧
     t.lifts.waiting.get .crane1 = none ∧ t.lifts.waiting.get .crane2 = some (asked .portC2 .joinLift) ∧
     (asked .portC2 .joinLift).port = cranePort .crane2 ∧
     (t.ports.get (cranePort .crane2)).deferred = some (asked .portC2 .joinLift)) ∧
    (withJob .computing (.lift .crane1 empty empty) worked).eval.engine = some ⟨.computing, 0, .lift .crane1 empty empty⟩ := by decide +kernel

theorem witness_ProspectCompletionWrites :
    served.eval.engine = none ∧
    (let w : Work := .prospect .departure (routineCapture worked) 8 7 1 true (asked .portP .evaluateProspect)
     (withJob .computing w worked).eval.engine = some ⟨.computing, 0, w⟩ ∧
     figureSet (withJob .computing w worked).ship.image (routineCapture worked) = some figures) ∧
    (let w : Work := .prospect .actual empty 0 0 0 false (asked .portP .evaluateProspect)
     (withJob .computing w worked).eval.engine = some ⟨.computing, 0, w⟩) := by decide +kernel

/-! ### The monitor, the planning services and the drafts -/

/-- The indices 15 and 16 and the ends of each setting's range. -/
theorem witness_SetCriterionReplacesSettings :
    Serving served .portP ∧ 16 ≤ 16 ∧ 15 < 16 ∧ served.mon.slots[15]? = some Slot.unused ∧
    ((1000001 : Int) < -1000000 ∨ 1000000 < (1000001 : Int)) ∧
    (∀ v ∈ [(-1000000 : Int), 1000000], ¬ (v < -1000000 ∨ 1000000 < v)) ∧
    (∀ v ∈ [(0 : Int), 100000], ¬ (v < 0 ∨ 100000 < v)) ∧ (∀ v ∈ [(1 : Int), 8], ¬ (v < 1 ∨ 8 < v)) := by decide +kernel

/-- The indices 15 and 16, a slot that leaves and one that stays, and a start above the stop. -/
theorem witness_SetRangeClearsLeavers :
    Serving served .portP ∧ 16 ≤ 16 ∧ 15 < 16 ∧ served.mon.slots[7]? ≠ none ∧
    (served.mon.rangeStart ≤ 7 ∧ 7 ≤ served.mon.rangeStop) ∧ ¬ (8 ≤ 7 ∧ 7 ≤ 13) ∧ (8 ≤ 8 ∧ 8 ≤ 13) ∧ ¬ 9 ≤ 3 := by decide +kernel

theorem witness_MonitorSettingsAndReads :
    Serving served .portP ∧ Serving served .portC1 ∧ 16 ≤ 16 ∧ 15 < 16 ∧ served.mon.slots[15]? = some Slot.unused ∧
    ((-1000001 : Int) < -1000000) ∧ ((-1000000 : Int) ≤ 1000000) := by decide +kernel

/-- The numbers 95 and 96, the kinds 1 and 3 with 0 and 4, the masses at both ends. -/
theorem witness_FindSpaceWalks :
    Serving worked .portP ∧ 96 ≤ 96 ∧ ¬ 96 ≤ 95 ∧ (∃ k ∈ [4], k < 1 ∨ 3 < k) ∧ ¬ (∃ k ∈ [1, 3], k < 1 ∨ 3 < k) ∧
    ¬ ((1000000 : Int) < 0 ∨ 1000000 < (1000000 : Int)) ∧ ((1000001 : Int) < 0 ∨ 1000000 < (1000001 : Int)) := by decide +kernel

/-- Every test of a layer, fills at 0, 1000, 1001 and 65535, a full stack, and a stack of one layer. -/
theorem witness_TrialStackPushesAndPops :
    Serving worked .portP ∧ goalOk (.place { place11 with xAft := -501 }) = false ∧ goalOk .ashore = true ∧ worked.item 13 = none ∧
    worked.item 11 ≠ none ∧ geometrySound worked.ship.image { place11 with xAft := 1799 } = false ∧
    geometrySound worked.ship.image place11 = true ∧ worked.ship.image.isTank 20 = true ∧ worked.ship.image.isTank 3 = false ∧
    worked.trials.layers = [] ∧
    (let s : State := { worked with trials := ⟨List.replicate 8 (.tank 20 1000), false⟩ }
     Serving s .portP ∧ 8 ≤ s.trials.layers.length ∧ s.trials.layers = List.replicate 7 (.tank 20 1000) ++ [.tank 20 1000]) := by decide +kernel

/-- Drafts at both ends of their range and past them, a reading at the freshness limit and one past it, an empty LATEST, an
item SLUNG, and none. -/
theorem witness_DraftReadingsAndZero :
    Serving worked .portB ∧ ((-1 : Int) < 0 ∨ 5000 < (5001 : Int)) ∧ ((0 : Int) ≤ 5000) ∧
    worked.tanks.reading = none ∧
    (Serving measured .portB ∧ measured.tanks.reading = some ⟨0, 5000, 30⟩ ∧ ((30 : Nat) : Int) ≤ measured.ship.image.timerLengths.freshness ∧
     measured.ship.image.timerLengths.freshness < ((31 : Nat) : Int)) ∧
    (let s : State := { worked with tanks := measured.tanks }
     s.tanks.reading = some ⟨0, 5000, 30⟩ ∧ s.eval.latest = none) ∧
    (let s : State := { hoisted with tanks := measured.tanks, eval := measured.eval }
     Serving s .portB ∧ s.eval.latest.map (fun r => r.slung) = some false ∧ ∃ e ∈ s.cond.items, e.2.state = .slung) ∧
    (measured.eval.latest.map (fun r => r.slung) = some false ∧ ¬ ∃ e ∈ measured.cond.items, e.2.state = .slung) := by decide +kernel

/-! ### Lifts -/

/-- The share at 100, 900 and past them, every state of the own record, a hold, and each check of the item. -/
theorem witness_LiftRequestIsTestedAndTaken :
    Serving worked (cranePort .crane1) ∧ (worked.record .crane1).state = .idle ∧ worked.anySilent = false ∧
    (ship.timers = none ∧ ({ ship with timers := some ⟨2, 10, 60, 5⟩ } : Image).timers = some ⟨2, 10, 60, 5⟩) ∧
    actionRank worked.mon.effective < 2 ∧ worked.item 13 = none ∧
    worked.item 12 = some ⟨.cargo, .aboard, 3000, 2, some place12, none, none⟩ ∧ recordNames (worked.record .crane2) 12 = false ∧
    worked.overstowed 12 = false ∧ placementValid worked .liftDest 12 ⟨3, 1800, 1800, -1000, 100, none⟩ = true ∧
    placementValid worked .liftDest 12 ⟨3, 1799, 1800, -1000, 100, none⟩ = false ∧
    ((-500 : Int) ≤ -500 ∧ (-500 : Int) ≤ 19500) ∧ ¬ ((-500 : Int) ≤ -501) ∧ (100 ≤ 100 ∧ 900 ≤ 900 ∧ ¬ 901 ≤ 900) ∧
    ((onCrane1 (record12 .done .single none)).record .crane1).state = .done ∧
    (let s := onCrane1 (record12 .granted .single none)
     (s.record .crane1).state ≠ .done ∧ (s.record .crane1).state ≠ .idle) ∧
    (let s := onCranes .idle { record12 .slung .single none with silent := true }
     Serving s (cranePort .crane1) ∧ (s.record .crane1).state = .idle ∧ s.anySilent = true) ∧
    (let s : State := { worked with mon := { worked.mon with effective := some .hold } }
     Serving s (cranePort .crane1) ∧ s.anySilent = false ∧ 2 ≤ actionRank s.mon.effective) ∧
    (let it : ItemRecord := ⟨.constant, .aboard, 1, 0, some place11, none, none⟩
     (worked.setItem 13 it).item 13 = some it ∧ it.kind = .constant) ∧
    recordNames ((onCranes .idle (record12 .checking .single none)).record .crane2) 12 = true ∧
    ((worked.setItem 13 ⟨.cargo, .aboard, 1, 0, some { place12 with restsOn := some 12 }, none, none⟩).overstowed 12 = true) ∧
    (let it : ItemRecord := ⟨.cargo, .aboard, 3000, 2, some place12, some .ashore, none⟩
     (worked.setItem 12 it).item 12 = some it ∧ it.plan = some .ashore ∧ Goal.ashore ≠ .place place11) ∧
    PortRef.unknown ≠ .port (cranePort (otherCrane .crane1)) := by decide +kernel

/-- A join that fits the waiting lead, one that does not, and every state of the own record. -/
theorem witness_JoinLiftIsTestedAndTaken :
    (let s := onCrane1 (record12 .joining .lead (some ⟨.joinWindow, 10⟩))
     Serving s (cranePort .crane2) ∧ (s.record (otherCrane .crane2)).state = .joining ∧
     (s.record (otherCrane .crane2)).lift = some (lift12 .lead) ∧ (lift12 .lead).tag = 12 ∧ (s.record .crane2).state = .idle ∧
     s.anySilent = false ∧ actionRank s.mon.effective < 2) ∧
    (worked.record .crane1).state ≠ .joining ∧
    ((onCranes (record12 .joining .lead none) (record12 .done .single none)).record .crane2).state = .done ∧
    (let s := onCranes (record12 .joining .lead none) (record12 .slung .single none)
     (s.record .crane2).state ≠ .done ∧ (s.record .crane2).state ≠ .idle) ∧
    (let s : State := { onCrane1 (record12 .joining .lead none) with mon := { worked.mon with effective := some .hold } }
     Serving s (cranePort .crane2) ∧ (s.record .crane2).state = .idle ∧ s.anySilent = false ∧ 2 ≤ actionRank s.mon.effective) ∧
    (let s : State := onCranes { record12 .joining .lead none with silent := true } .idle
     s.anySilent = true ∧ (s.record .crane2).state = .idle) := by decide +kernel

/-- A GRANTED single lift, a GRANTED tandem lift, a partner, a SLUNG record marked SILENT, and points at the ends. -/
theorem witness_HookReportsApply :
    (let s := onCrane1 (record12 .granted .single (some ⟨.grantLapse, 120⟩))
     Applying s (cranePort .crane1) ∧ (s.record .crane1).state = .granted ∧ (s.record .crane1).lift = some (lift12 .single) ∧
     (lift12 .single).role ≠ .partner ∧ s.item 12 = some ⟨.cargo, .aboard, 3000, 2, some place12, none, none⟩) ∧
    (let s := onCranes (record12 .granted .lead (some ⟨.grantLapse, 120⟩)) (record12 .granted .partner none)
     Applying s (cranePort .crane1) ∧ (lift12 .lead).role = .lead ∧ liftRole (s.record .crane2) = some .partner ∧
     (s.record .crane2).state = .granted ∧ (s.record .crane2).lift = some (lift12 .partner)) ∧
    pointOk ⟨-500, 2500, 5000⟩ = true ∧ pointOk ⟨19500, -2500, 0⟩ = true ∧ (worked.record .crane1).state ≠ .granted ∧
    (hoisted.record .crane1).state = .slung ∧ (hoisted.record .crane1).lift = some (lift12 .single) ∧
    Applying hoisted (cranePort .crane1) ∧ (Serving capturing (cranePort .crane1) ∧ pointOk ⟨-501, 0, 0⟩ = false) := by decide +kernel

/-- A partner, an IDLE record, and SLUNG records of a single and of a tandem lift. -/
theorem witness_LandedSetsDown :
    goalOk .ashore = true ∧ goalOk (.place place11) = true ∧ Applying hoistedByTwo (cranePort .crane2) ∧
    liftRole (hoistedByTwo.record .crane2) = some .partner ∧
    (Applying worked (cranePort .crane1) ∧ liftRole (worked.record .crane1) ≠ some .partner ∧ (worked.record .crane1).state ≠ .slung) ∧
    (Applying hoisted (cranePort .crane1) ∧ (hoisted.record .crane1).state = .slung ∧ (hoisted.record .crane1).lift = some (lift12 .single) ∧
     (lift12 .single).role ≠ .partner ∧ hoisted.item 12 = some ⟨.cargo, .slung, 3000, 2, none, none, some .crane1⟩) ∧
    ((lift12 .lead).role = .lead ∧ (hoistedByTwo.record .crane2).state = .slung) ∧
    (Serving capturing (cranePort .crane1) ∧ goalOk (.place { place11 with z := 5001 }) = false) := by decide +kernel

/-- A valid placement, and invalid ones for a destination in a compartment and for one ASHORE. -/
theorem witness_LandingOutcomeAndClamping :
    placementValid hoisted .landing 12 ⟨3, 1800, 4200, 1000, 1500, none⟩ = true ∧
    placementValid hoisted .landing 12 ⟨3, 1799, 4200, 1000, 1500, none⟩ = false ∧
    ((lift12 .single).dest = .ashore ∧ (lift12 .single).origin = .place place12) ∧
    hoisted.ship.image.comp place12.comp = some ⟨5800, 8200, -1000, 1000, 100, 1500, .stow .hold 4000⟩ ∧
    ((5800 : Int) ≤ 8200 ∧ (-1000 : Int) ≤ 1000 ∧ (100 : Int) ≤ 1500) := by decide +kernel

/-- Every state of the own record, and a DONE record with its outcome. -/
theorem witness_AbortAndCollectByState :
    (Serving worked (cranePort .crane1) ∧ (worked.record .crane1).state = .idle) ∧
    (let s := onCranes (record12 .granted .lead none) (record12 .granted .partner none)
     (s.record .crane2).state ≠ .idle ∧ liftRole (s.record .crane2) = some .partner ∧
     (s.record .crane1).state = .granted ∧ liftRole (s.record .crane1) = some .lead ∧ (s.record .crane1).lift = some (lift12 .lead)) ∧
    (∀ st ∈ [LiftState.checking, .slung, .done], ((onCrane1 (record12 st .single none)).record .crane1).state = st ∧
      liftRole ((onCrane1 (record12 st .single none)).record .crane1) ≠ some .partner) ∧
    (let r : LiftRecord := { record12 .done .single none with outcome := some .landed }
     let s := (onCrane1 r).withLifts { (onCrane1 r).lifts with ended := ⟨some ⟨3000, .ashore⟩, none⟩ }
     Serving s (cranePort .crane1) ∧ (s.record .crane1).state = .done ∧ (s.record .crane1).lift = some (lift12 .single) ∧
     (s.record .crane1).outcome = some .landed ∧ s.lifts.ended.get .crane1 = some ⟨3000, .ashore⟩) := by decide +kernel

/-- A timer of each kind running in its state, and none. -/
theorem witness_LiftTimersExpire :
    (worked.record .crane1).timer = none ∧
    (let s := onCrane1 (record12 .joining .lead (some ⟨.joinWindow, 0⟩))
     let t : State := { s with lifts := { s.lifts with waiting := ⟨some (asked .portC1 .liftRequest), none⟩ } }
     (t.record .crane1).state = .joining ∧ (t.record .crane1).timer = some ⟨.joinWindow, 0⟩ ∧
     (t.record .crane1).lift = some (lift12 .lead) ∧ t.lifts.waiting.get .crane1 = some (asked .portC1 .liftRequest)) ∧
    (let s := onCranes (record12 .granted .lead (some ⟨.grantLapse, 1⟩)) (record12 .granted .partner none)
     (s.record .crane1).state = .granted ∧ (s.record .crane1).timer = some ⟨.grantLapse, 1⟩ ∧ liftRole (s.record .crane1) = some .lead ∧
     liftRole (s.record .crane2) = some .partner ∧ (s.record .crane2).state = .granted) ∧
    ((hoisted.record .crane1).state = .slung ∧ (hoisted.record .crane1).timer = some ⟨.report, 10⟩) := by decide +kernel

/-! ### Arithmetic and invariants -/

/-- A tie and a value beside it, with the divisor 2. -/
theorem witness_RoundingIsNearestTiesAwayFromZero : (0 : Int) < 2 ∧ roundDiv (-3) 2 = -2 ∧ roundDiv 1 2 = 1 ∧ roundDiv 0 1 = 0 := by decide

theorem witness_FigureSetFollowsTheTenStages : figureSet ship (routineCapture worked) = some figures := test_worked_case_figure_set

/-- Items in each state, and a tandem lift with both hook points. -/
theorem witness_RoutineCaptureHoldsTheCondition :
    (let it : ItemRecord := ⟨.cargo, .slung, 3000, 2, none, none, some .crane1⟩
     it.state = .slung ∧ it.link = some .crane1 ∧ (hoisted.record .crane1).lift = some (lift12 .single) ∧
     (lift12 .single).hook = some ⟨7000, 0, 2000⟩ ∧ (lift12 .single).role = .single) ∧
    ((hoistedByTwo.record .crane1).lift = some (lift12 .lead) ∧ (lift12 .lead).role ≠ .single ∧ (lift12 .lead).share = some 600 ∧
     (hoistedByTwo.record (otherCrane .crane1)).lift = some (lift12 .partner) ∧ (lift12 .partner).hook = some ⟨7000, 0, 2000⟩) ∧
    (∀ it ∈ hoisted.item 12, it.state = .slung ∧ it.plan = none) ∧ (hoisted.record .crane1).state = .slung ∧
    (∀ it ∈ worked.item 11, it.state = .aboard ∧ it.plan = none ∧ it.actual = some place11) ∧
    worked.cond.items.keys.Pairwise (· < ·) := by
  decide +kernel

/-- Two layers for one item and one that would skip: the later layer places it, and the counts are 2 and 1 (R173). -/
theorem test_prospect_takes_the_later_layer :
    (let s : State := { worked with trials := ⟨[.item 12 (.place place11), .item 99 .ashore, .item 12 .ashore], false⟩ }
     ((prospectSet s .actual).items, (prospectSet s .actual).applied, (prospectSet s .actual).skipped)) =
      ([(11, [⟨.item 11, 5000, 2000, 4000, 100, 400, some 3⟩]), (12, [])], 2, 1) := by decide +kernel

/-- The step from reset that takes the end of verification, to DATA FAULT. -/
theorem witness_a_step_from_reset :
    (∃ t, step { State.reset with pending := [.verifyEnd] } = .next t ∧ t.ship.mode = .dataFault) := ⟨_, rfl, rfl⟩

/-- Item 12 on the hook, and the attention of a served ship: the condition of the agreement below. -/
def agreed : State := { hoisted with pending := [.hookAt .portC1 1 ⟨7000, 100, 2000⟩] }

theorem agreed_records (c : Crane) : agreed.record c = if c = .crane1 then record12 .slung .single (some ⟨.report, 10⟩) else .idle := by
  cases c <;> rfl

theorem agreed_items (tag : Nat) (it : ItemRecord) (h : agreed.item tag = some it) :
    (tag = 11 ∧ it = ⟨.cargo, .aboard, 5000, 1, some place11, none, none⟩) ∨
    (tag = 12 ∧ it = ⟨.cargo, .slung, 3000, 2, none, none, some .crane1⟩) := by
  have : agreed.item tag = if tag = 11 then some ⟨.cargo, .aboard, 5000, 1, some place11, none, none⟩ else
      if tag = 12 then some ⟨.cargo, .slung, 3000, 2, none, none, some .crane1⟩ else none := by
    by_cases h1 : tag = 11
    · subst h1; rfl
    · by_cases h2 : tag = 12
      · subst h2; rfl
      · simp only [State.item, agreed, hoisted, Table.find, h1, h2, if_false]
        simp [Ne.symm h1, Ne.symm h2]
  rw [this] at h
  by_cases h1 : tag = 11
  · simp [h1] at h; exact .inl ⟨h1, h.symm⟩
  · by_cases h2 : tag = 12
    · simp [h2] at h; exact .inr ⟨h2, h.symm⟩
    · simp [h1, h2] at h

theorem agreed_comp (n : Nat) : agreed.comp n = if n = 3 then ⟨.opened, 5000, [11]⟩ else .empty := by
  by_cases h : n = 3
  · subst h; rfl
  · simp [State.comp, agreed, hoisted, Table.value, Table.find, Ne.symm h, h]

theorem agreed_load (n : Nat) : massAboard agreed.cond.items n = if n = 3 then 5000 else 0 := by
  by_cases h : n = 3
  · subst h; rfl
  · have hp : ¬ place11.comp = n := fun e => h e.symm
    simp [massAboard, agreed, hoisted, h, hp, aboardIn]

/-- A lift in the air meets the agreement of records, items and compartments, with no request waiting, and its HOOK AT is a
step. -/
theorem witness_EveryStepKeepsLiftsAndItemsAgreed : LiftsAgree agreed ∧ ArbiterKept agreed ∧ ∃ t, step agreed = .next t := by
  refine ⟨⟨⟨?_, ?_, ?_⟩, ⟨?_, ?_, ?_, ?_⟩, ?_, ?_, ?_, ?_, ⟨?_, ?_, ?_⟩, ⟨?_, ?_⟩, ?_, ?_⟩, by unfold ArbiterKept SlotsEmpty; decide +kernel, ⟨_, rfl⟩⟩
  · intro c; unfold LiftRecord.Shaped; cases c <;> decide +kernel
  · intro c; cases c <;> decide +kernel
  · intro c; cases c <;> decide +kernel
  · intro c; cases c <;> decide +kernel
  · decide +kernel
  · decide +kernel
  · intro p; cases p <;> decide +kernel
  · intro c; cases c <;> decide +kernel
  · intro tag _ h
    have : recordNames (agreed.record .crane2) tag = false := rfl
    rw [this] at h; cases h
  · intro c; cases c <;> decide +kernel
  · intro c q h; cases c <;> cases h
  · decide +kernel
  · decide +kernel
  · unfold ItemRecord.Shaped; decide +kernel
  · intro c l h1 h2
    cases c
    · cases h2; exact ⟨_, rfl, by decide +kernel⟩
    · cases h2
  · intro tag it h1 h2
    rcases agreed_items tag it h1 with ⟨rfl, rfl⟩ | ⟨rfl, rfl⟩
    · cases h2
    · exact ⟨.crane1, rfl, by decide +kernel⟩
  · intro n
    rw [agreed_comp, agreed_load]
    by_cases h : n = 3
    · subst h
      refine ⟨rfl, by decide, fun tag => ⟨fun ht => ?_, fun ⟨it, h1, h2⟩ => ?_⟩⟩
      · have : tag = 11 := by simpa using ht
        subst this; exact ⟨_, rfl, rfl⟩
      · rcases agreed_items tag it h1 with ⟨rfl, rfl⟩ | ⟨rfl, rfl⟩
        · decide
        · cases h2
    · rw [if_neg h, if_neg h]
      refine ⟨rfl, List.nodup_nil, fun tag => ⟨fun ht => (List.not_mem_nil ht).elim, fun ⟨it, h1, h2⟩ => ?_⟩⟩
      rcases agreed_items tag it h1 with ⟨rfl, rfl⟩ | ⟨rfl, rfl⟩
      · simp [aboardIn, place11, Ne.symm h] at h2
      · cases h2
  · decide +kernel

/-- A ship served, with a computing routine job at the front: every premise of the rule that no step stops. -/
def computing : State := { withJob .computing (routineWork worked) worked with pending := [.routineCompletion] }

theorem witness_NoStepStopsOnACheckedImage :
    EngineSound computing ∧ ImageChecked computing ∧ ValuesInRange computing ∧ ItemsShaped computing ∧ LiftsShaped computing := by
  refine ⟨?_, by unfold ImageChecked; decide +kernel, by unfold ValuesInRange; decide +kernel,
    ⟨by decide +kernel, by decide +kernel, by unfold ItemRecord.Shaped; decide +kernel⟩, ⟨?_, ?_, ?_⟩⟩
  · intro j h
    cases h
    refine ⟨by decide +kernel, ?_⟩
    show (figureSet ship (routineCapture worked)).isSome = true
    decide +kernel
  · intro c; unfold LiftRecord.Shaped; cases c <;> decide +kernel
  · intro c; cases c <;> decide +kernel
  · intro c; cases c <;> decide +kernel

/-- Its step is the judging of a result. -/
theorem computing_steps : ∃ t, step computing = .next t := by
  have h : step computing = .next (completeRoutine 0 false figures none { computing with pending := [] }) := by
    show routineCompletes { computing with pending := [] } = _
    have : figureSet computing.ship.image (routineCapture worked) = some figures := test_worked_case_figure_set
    simp only [routineCompletes]
    show (match figureSet computing.ship.image (routineCapture worked) with
      | none => Host.Outcome.fault Fault.divisorNotPositive
      | some f => Host.Outcome.next (completeRoutine 0 false f (disagreement f false ⟨none, 0, 0⟩) { computing with pending := [] })) = _
    rw [this]; rfl
  exact ⟨_, h⟩

theorem witness_EveryStepKeepsLinesAndAttention :
    LinesFollow computing ∧ AttentionFollows computing ∧ ∃ t, step computing = .next t :=
  ⟨by unfold LinesFollow; decide +kernel, by unfold AttentionFollows PerPort.Forall AttnPort.Follows; decide +kernel, computing_steps⟩

theorem witness_EveryStepKeepsTheMonitorInShape : ImageChecked computing ∧ MonitorShaped computing ∧ ∃ t, step computing = .next t := by
  refine ⟨by unfold ImageChecked; decide +kernel, ⟨by decide +kernel, by unfold Slot.Shaped; decide +kernel, by decide +kernel,
    by decide +kernel, ?_⟩, computing_steps⟩
  intro i _
  by_cases hi : i < 16
  · interval_cases i <;> decide +kernel
  · have : computing.mon.slots[i]? = none := List.getElem?_eq_none (by
      have : computing.mon.slots.length = 16 := by decide +kernel
      omega)
    simp [State.slot, this, Slot.unused]

theorem witness_EveryStepKeepsRangesTablesAndHoldList :
    ValuesInRange computing ∧ TablesCanonical computing ∧ HoldListKept computing ∧ ∃ t, step computing = .next t := by
  refine ⟨by unfold ValuesInRange; decide +kernel, ⟨by decide +kernel, by decide +kernel, by decide +kernel, ?_⟩,
    ⟨by decide +kernel, fun h => absurd rfl h⟩, computing_steps⟩
  intro img h
  rcases h with rfl | rfl <;> decide +kernel

/-- A port with an outstanding request whose reply is deferred. -/
theorem witness_EveryStepKeepsThePortsInOrder :
    (let s : State := { waits .portP .closeData served with pending := [.replySent .portP] }
     PortsOrdered s ∧ ∃ t, step s = .next t) := by
  refine ⟨⟨?_, ?_, ?_, ?_⟩, ⟨_, rfl⟩⟩ <;>
    (refine ⟨fun e => by cases e <;> decide +kernel, by decide +kernel, ?_, ?_, ?_⟩) <;>
    first
      | (intro c h; cases h; decide +kernel)
      | (intro e h; cases h)

end Sys2Proof.Tests
end

section
namespace Sys2Proof.Machine
open Sys2Proof

/-! ### A request row and the tests of R182 -/

/-- A request row is its request arriving on its port. -/
theorem exec_requestRow {i : Instr} {p : Port} {tag : Byte} {r : Request} (s : State)
    (h : requestRow i = some (p, tag, r)) : exec i s = .next (request p tag r s) := by
  cases i <;> cases h <;> rfl

/-- A request opened and answered at once changes the ports alone. -/
theorem answer_open (s : State) (p : Port) (k : ReqKind) (tag : Byte) (a : Answer) :
    answer (nextCaller s p (kindByte k) tag) a (openRequest (nextCaller s p (kindByte k) tag) s) =
      { s with ports := answeredPorts s p k tag a } := by
  cases p <;> rfl

/-- A request on a port that takes one goes to tests 3 to 6 of R182 as the outstanding request of its port. -/
theorem request_ready {p : Port} {tag : Byte} {r : Request} {s : State} (h : Ready s p) :
    request p tag r s = receiveKnown r.kind (serve r) (nextCaller s p (kindByte r.kind) tag)
      (openRequest (nextCaller s p (kindByte r.kind) tag) s) := by
  unfold request receive
  rw [if_neg h.1, if_neg (by simp [h.2])]

/-- A request that its owning block answers at once, changing nothing else, has that answer as its whole effect. -/
theorem request_answered {p : Port} {tag : Byte} {r : Request} {s : State} {a : Answer} (h : Ready s p)
    (hv : s.ship.mode = .verify → r.kind = .identify) (hr : roleAllows r.kind (portRole p) = true)
    (hm : modeAnswer s.ship.mode r.kind = none)
    (ha : serve r (nextCaller s p (kindByte r.kind) tag) (openRequest (nextCaller s p (kindByte r.kind) tag) s) =
      answer (nextCaller s p (kindByte r.kind) tag) a (openRequest (nextCaller s p (kindByte r.kind) tag) s)) :
    request p tag r s = { s with ports := answeredPorts s p r.kind tag a } := by
  rw [request_taken h hv hr hm, ha, answer_open]
  exact arbitrate_quiet { s with ports := answeredPorts s p r.kind tag a }

/-- A request of another kind than IDENTIFY is NOT READY in VERIFY (R182, test 3). -/
theorem request_verify {p : Port} {tag : Byte} {r : Request} {s : State} (h : Ready s p) (hv : s.ship.mode = .verify)
    (hk : r.kind ≠ .identify) :
    request p tag r s = { s with ports := answeredPorts s p r.kind tag ⟨.notReady, .statusOnly⟩ } := by
  rw [request_ready h, receiveKnown, if_pos ⟨hv, hk⟩]
  exact answer_open s p r.kind tag _

/-- Counting an error commutes with the opening of a request. -/
theorem countError_openRequest (p : Port) (k : Byte) (tag : Byte) (e : LineErr) (s : State) :
    countError p e (openRequest (nextCaller s p k tag) s) =
      openRequest (nextCaller (countError p e s) p k tag) (countError p e s) := by
  have hread : ((openRequest (nextCaller s p k tag) s).ports.get p).counters = (s.ports.get p).counters := by
    cases p <;> rfl
  unfold countError
  rw [hread]
  by_cases hc : (s.ports.get p).counters.read e < 255
  · rw [if_pos hc, if_pos hc]; cases p <;> rfl
  · rw [if_neg hc, if_neg hc]

/-- Counting an error leaves the mark of the port's next request. -/
theorem nextCaller_countError (p : Port) (k : Byte) (tag : Byte) (e : LineErr) (s : State) :
    nextCaller (countError p e s) p k tag = nextCaller s p k tag := by
  unfold countError
  split
  · cases p <;> rfl
  · rfl

/-- A request from a port whose role may not send it is answered ROLE, and counted (R182, test 4). -/
theorem request_role {p : Port} {tag : Byte} {r : Request} {s : State} (h : Ready s p) (hv : s.ship.mode ≠ .verify)
    (hr : roleAllows r.kind (portRole p) = false) :
    request p tag r s = { countError p .role s with
      ports := answeredPorts (countError p .role s) p r.kind tag ⟨.role, .statusOnly⟩ } := by
  have hport : (nextCaller s p (kindByte r.kind) tag).port = p := rfl
  rw [request_ready h, receiveKnown, if_neg (fun x => hv x.1), hport, if_pos hr, countError_openRequest,
    ← nextCaller_countError p (kindByte r.kind) tag .role s]
  exact answer_open (countError p .role s) p r.kind tag _

/-- A request that the service mode does not accept is answered as R15 says (R182, test 5). -/
theorem request_refusedByMode {p : Port} {tag : Byte} {r : Request} {s : State} {st : Status} (h : Ready s p)
    (hv : s.ship.mode ≠ .verify) (hr : roleAllows r.kind (portRole p) = true)
    (hm : modeAnswer s.ship.mode r.kind = some st) :
    request p tag r s = { s with ports := answeredPorts s p r.kind tag ⟨st, .statusOnly⟩ } := by
  have hport : (nextCaller s p (kindByte r.kind) tag).port = p := rfl
  have hmode : (openRequest (nextCaller s p (kindByte r.kind) tag) s).ship.mode = s.ship.mode := rfl
  rw [request_ready h, receiveKnown, if_neg (fun x => hv x.1), hport, if_neg (by simp [hr]), hmode, hm]
  exact answer_open s p r.kind tag _

/-- VERIFY accepts IDENTIFY alone, whatever the port. -/
theorem identify_of_accepted : ∀ {k : ReqKind}, modeAnswer .verify k = none → k = .identify
  | .identify, _ => rfl

/-! ### IDENTIFY (R21) -/

/-- Settles O8: IDENTIFY passes every test of R182, and its block answers it and changes nothing. -/
theorem identifyReports : Obligations.IdentifyReports := by
  intro p tag s h
  have hm : modeAnswer s.ship.mode .identify = none := by cases s.ship.mode <;> rfl
  rw [exec_requestRow s (rfl : requestRow (.identify p tag) = some (p, tag, .identify)),
    request_answered (r := .identify) (a := ⟨.done, .identity (identityOf s)⟩) h (fun _ => rfl) rfl hm rfl]
  rfl

/-! ### The tests in their order -/

/-- The order of the tests of R182 on a request row (the first part of the statement). -/
theorem request_tests {i : Instr} {p : Port} {tag : Byte} {r : Request} (s : State)
    (h : requestRow i = some (p, tag, r)) :
    let q := s.ports.get p
    let k := r.kind
    (q.rx = .inBreak → exec i s = .next s) ∧
    (q.rx ≠ .inBreak → q.outstanding.isSome = true → holdsBusy q.tx = false →
      exec i s = .next { s with ports := s.ports.set p { q with
        tx := q.tx ++ [⟨⟨replyKind (kindByte k), tag, ⟨.busy, .statusOnly⟩⟩, none⟩] } }) ∧
    (q.rx ≠ .inBreak → q.outstanding.isSome = true → holdsBusy q.tx = true → exec i s = .next (countError p .dropped s)) := by
  rw [exec_requestRow s h]
  unfold request receive
  refine ⟨fun hb => ?_, fun hb ho ht => ?_, fun hb ho ht => ?_⟩
  · rw [if_pos hb]
  · rw [if_neg hb, if_pos ho, refuseBusy, if_neg (by simp [ht])]; rfl
  · rw [if_neg hb, if_pos ho, refuseBusy, if_pos ht]

/-- Settles O3: the tests of R182 one by one, and the tables of R15, R177 and section 8.2 kind by kind. -/
theorem requestTestsDecideInOrder : Obligations.RequestTestsDecideInOrder := by
  refine ⟨fun i p tag r s h => ?_, fun k => ?_, ⟨rfl, rfl, rfl, rfl⟩, fun k r => ?_⟩
  · obtain ⟨hbreak, hbusy, hdropped⟩ := request_tests s h
    refine ⟨hbreak, hbusy, hdropped, fun hp hv hk => ?_, fun hp hv hr => ?_, fun st hp hv hr hm => ?_, fun hp hr hm => ?_⟩
    · rw [exec_requestRow s h, request_verify hp hv hk]; rfl
    · rw [exec_requestRow s h, request_role hp hv hr]; rfl
    · rw [exec_requestRow s h, request_refusedByMode hp hv hr hm]; rfl
    · rw [exec_requestRow s h, request_taken hp (fun hv => identify_of_accepted (hv ▸ hm)) hr hm]
  · cases k <;> decide
  · cases k <;> cases r <;> decide

end Sys2Proof.Machine
end

section
namespace Sys2Proof.Machine
open Sys2Proof

/-! ### Restarts (R18 to R20) -/

/-- Sixteen unused slots give the effective action NONE. -/
theorem effectiveOf_allNone : effectiveOf Slot.allNone = none := rfl

/-- A COLD restart, field by field: the image, its marker and its check word are kept, and everything else takes the values
of R19 and R20. -/
theorem coldRestart_eq (straps : Straps) (s : State) : coldRestart straps s =
    { ship := { s.ship with buffer := .blank, mode := .verify, faultReason := none, restartCause := .cold,
                            slotsUnloaded := true, retentionMark := true, committing := none }
      cond := ⟨[], [], 1025, 0, []⟩
      eval := ⟨none, none, s.eval.raiseClock, none, false, none, none, none, none, 0, none, 0, .continuous, 5, none⟩
      mon := ⟨Slot.allNone, 0, 0, .all [], false, none, 0⟩
      lines := ⟨false, false, false⟩
      lifts := ⟨.both .idle, .both none, .both none⟩
      tanks := ⟨[], none, 0, 0⟩
      trials := ⟨[], false⟩
      ports := s.ports.map (fun q => PortState.fresh q.nextMark)
      rate := strapRate straps
      attn := .all .fresh
      pending := s.pending } := rfl

/-- Settles O17: retained memory is lost or its mark is not intact, so the supply rises COLD. -/
theorem coldRestartClears : Obligations.ColdRestartClears := by
  intro retained straps s h
  have hcold : supplyRises retained straps s = coldRestart straps s := by
    unfold supplyRises
    rw [if_neg (by simpa using h)]
  show Host.Outcome.next (supplyRises retained straps s) = _
  rw [hcold, coldRestart_eq]
  obtain ⟨rate1, rate0⟩ := straps
  cases rate1 <;> cases rate0 <;> rfl

/-- A restart clears the working state over lift records already adjusted, and the causes come later (R20). -/
theorem restartAny_adjusted (cause : RestartCause) (straps : Straps) (s : State) :
    restartAny cause straps (adjustLifts s) =
      { ship := { s.ship with buffer := .blank, mode := .verify, faultReason := none, restartCause := cause,
                              committing := none }
        cond := { s.cond with hold := [] }
        eval := ⟨none, none, s.eval.raiseClock, none, false, none, none, none, none, 0, none, 0, s.eval.routineMode,
                 s.eval.interval, none⟩
        mon := { s.mon with sticky := .all [], primed := false, lastJudged := 0 }
        lines := s.lines
        lifts := ⟨s.lifts.records.map adjustRecord, ⟨adjustEnded s .crane1, adjustEnded s .crane2⟩, .both none⟩
        tanks := { s.tanks with reading := none }
        trials := ⟨[], false⟩
        ports := s.ports.map (fun q => PortState.fresh q.nextMark)
        rate := strapRate straps
        attn := .all .fresh
        pending := s.pending } := rfl

/-- The causes that the lift records give a port with an empty pending set at a restart (R148, R192): OUTCOME READY for an
own record in DONE, then SILENT LIFT for a silent record. -/
def restartCauses (ended silent : Bool) : List Cause :=
  (if ended = true then [.outcomeReady] else []) ++ (if silent = true then [.silentLift] else [])

/-- What the announcement of a record in DONE does: OUTCOME READY on its own port (R148, R192). -/
theorem announceDone_eq (c : Crane) (s : State) : announceDone c s = { s with
    attn := if ((s.record c).state == .done) = true then s.attn.modify (cranePort c) (AttnPort.raise .outcomeReady)
      else s.attn } := by
  unfold announceDone
  by_cases h : (s.record c).state = .done
  · simp only [h, if_true, beq_self_eq_true]; rfl
  · simp only [h, if_false, beq_iff_eq]

/-- What both announcements do, one after the other (R148, R192). -/
theorem announceLifts_eq (s : State) : announceLifts s = { s with
    attn :=
      let one := if ((s.record .crane1).state == .done) = true then s.attn.modify .portC1 (AttnPort.raise .outcomeReady)
        else s.attn
      let two := if ((s.record .crane2).state == .done) = true then one.modify .portC2 (AttnPort.raise .outcomeReady)
        else one
      if s.anySilent = true then two.map (AttnPort.raise .silentLift) else two } := by
  unfold announceLifts
  rw [announceDone_eq .crane2, announceDone_eq .crane1]
  by_cases h : s.anySilent = true
  · simp only [if_pos h]
    exact if_pos h
  · simp only [if_neg h]
    exact if_neg h

/-- The attention unit of a WARM restart: the causes of the records alone, on pending sets that were emptied (R148, R192). -/
theorem announced_fresh (done1 done2 silent : Bool) :
    (let one := if done1 = true then (PerPort.all AttnPort.fresh).modify .portC1 (AttnPort.raise .outcomeReady)
       else PerPort.all AttnPort.fresh
     let two := if done2 = true then one.modify .portC2 (AttnPort.raise .outcomeReady) else one
     if silent = true then two.map (AttnPort.raise .silentLift) else two) =
    ⟨⟨restartCauses false silent, [], .level, false⟩, ⟨restartCauses false silent, [], .level, false⟩,
     ⟨restartCauses done1 silent, [], .level, false⟩, ⟨restartCauses done2 silent, [], .level, false⟩⟩ := by
  cases done1 <;> cases done2 <;> cases silent <;> rfl

/-- An adjusted record is in DONE where it was GRANTED or DONE (R148). -/
theorem adjustRecord_done (r : LiftRecord) :
    ((adjustRecord r).state == .done) = (r.state == .granted || r.state == .done) := by
  unfold adjustRecord
  cases h : r.state <;> simp only [h] <;> rfl

/-- A WARM restart, field by field: retained memory is kept, the working state is cleared, the records are adjusted, and
the causes of the records alone are pending. -/
theorem warmRestart_eq (cause : RestartCause) (straps : Straps) (s : State) :
    let r1 := adjustRecord (s.record .crane1)
    let r2 := adjustRecord (s.record .crane2)
    let silent := r1.silent || r2.silent
    warmRestart cause straps s =
      { ship := { s.ship with buffer := .blank, mode := .verify, faultReason := none, restartCause := cause,
                              committing := none }
        cond := { s.cond with hold := [] }
        eval := ⟨none, none, s.eval.raiseClock, none, false, none, none, none, none, 0, none, 0, s.eval.routineMode,
                 s.eval.interval, none⟩
        mon := { s.mon with sticky := .all [], primed := false, effective := effectiveOf s.mon.slots, lastJudged := 0 }
        lines := ⟨false, false, effectiveOf s.mon.slots == some .alarm⟩
        lifts := ⟨⟨r1, r2⟩, ⟨adjustEnded s .crane1, adjustEnded s .crane2⟩, .both none⟩
        tanks := { s.tanks with reading := none }
        trials := ⟨[], false⟩
        ports := s.ports.map (fun q => PortState.fresh q.nextMark)
        rate := strapRate straps
        attn := ⟨⟨restartCauses false silent, [], .level, false⟩, ⟨restartCauses false silent, [], .level, false⟩,
          ⟨restartCauses (r1.state == .done) silent, [], .level, false⟩,
          ⟨restartCauses (r2.state == .done) silent, [], .level, false⟩⟩
        pending := s.pending } := by
  unfold warmRestart
  rw [restartAny_adjusted, announceLifts_eq]
  dsimp only
  rw [← announced_fresh]
  rfl

/-- Settles O18: both WARM causes run the one restart whose fields `warmRestart_eq` gives. -/
theorem warmRestartKeeps : Obligations.WarmRestartKeeps := by
  intro c cause straps s hc after kept ended silent silence attn
  have hrun : exec c s = .next (warmRestart cause straps s) := by
    rcases hc with ⟨rfl, hmark, rfl⟩ | ⟨rfl, rfl⟩
    · show Host.Outcome.next (supplyRises true straps s) = _
      unfold supplyRises
      rw [if_pos (by simp [hmark])]
    · rfl
  have hafter : ∀ r, adjustRecord r = after r := fun r => by
    unfold adjustRecord after
    cases r.state <;> rfl
  have hkept : ∀ d, adjustEnded s d = kept d := fun d => rfl
  rw [hrun, warmRestart_eq]
  simp only [hkept, adjustRecord_done]
  simp only [hafter]
  rfl

end Sys2Proof.Machine
end

section
namespace Sys2Proof.Machine
open Sys2Proof

/-! ### WRITE DATA and CLOSE DATA (R12, R13) -/

/-- A request that DATA LOADING alone accepts is NOT READY outside it and in a commit (R12, R13, R15). -/
theorem request_notLoading {r : Request} {tag : Byte} {s : State} (h : Ready s .portP)
    (hk : r.kind = .writeData ∨ r.kind = .closeData)
    (hblock : ∀ q t, t.ship.mode ≠ .dataLoading ∨ t.ship.committing.isSome = true → serve r q t = answer q (bare .notReady) t)
    (hn : s.ship.mode ≠ .dataLoading ∨ s.ship.committing.isSome = true) :
    request .portP tag r s = { s with ports := answeredPorts s .portP r.kind tag ⟨.notReady, .statusOnly⟩ } := by
  have hid : r.kind ≠ .identify := by rcases hk with hk | hk <;> simp [hk]
  have hrole : roleAllows r.kind (portRole .portP) = true := by rcases hk with hk | hk <;> rw [hk] <;> rfl
  cases hm : s.ship.mode with
  | verify => exact request_verify h hm hid
  | inService => exact request_refusedByMode h (by simp [hm]) hrole (by rcases hk with hk | hk <;> rw [hk, hm] <;> rfl)
  | dataFault => exact request_refusedByMode h (by simp [hm]) hrole (by rcases hk with hk | hk <;> rw [hk, hm] <;> rfl)
  | dataLoading =>
    exact request_answered h (by simp [hm]) hrole (by rcases hk with hk | hk <;> rw [hk, hm] <;> rfl) (hblock _ _ hn)

/-- In DATA LOADING a request of a load from P goes to the ship data store, and the arbiter does not act. -/
theorem request_loading {r : Request} {tag : Byte} {s : State} (h : Ready s .portP) (hm : s.ship.mode = .dataLoading)
    (hk : r.kind = .writeData ∨ r.kind = .closeData) :
    request .portP tag r s = arbitrate s.eval
      (serve r (nextCaller s .portP (kindByte r.kind) tag) (openRequest (nextCaller s .portP (kindByte r.kind) tag) s)) :=
  request_taken h (by simp [hm]) (by rcases hk with hk | hk <;> rw [hk] <;> rfl)
    (by rcases hk with hk | hk <;> rw [hk, hm] <;> rfl)

/-- What CLOSE DATA does outside a load. -/
theorem takeCloseData_notReady (w : CheckWord) (q : Caller) (t : State)
    (h : t.ship.mode ≠ .dataLoading ∨ t.ship.committing.isSome = true) :
    takeCloseData w q t = answer q (bare .notReady) t := by
  unfold takeCloseData; rw [if_pos h]

/-- A load that fails a test ends in DATA FAULT, with the buffer emptied and SERVICE CHANGE raised (R13, R17). -/
theorem takeCloseData_fails {w : CheckWord} {q : Caller} {t : State} {reason : FaultReason} {kind index : Nat}
    (hm : t.ship.mode = .dataLoading) (hc : t.ship.committing = none)
    (hf : t.ship.buffer.closeFault w = some (reason, kind, index)) :
    takeCloseData w q t = answer q ⟨.badArgument, .dataFault reason kind index⟩ { t with
      ship := { t.ship with buffer := .blank, mode := .dataFault, faultReason := some reason }
      lines := ⟨false, false, t.mon.effective == some .alarm⟩
      attn := t.attn.map (AttnPort.raise .serviceChange) } := by
  unfold takeCloseData
  rw [if_neg (by simp [hm, hc]), hf]
  dsimp only
  rw [changeMode_eq, if_neg (by simp [hm])]
  rfl

/-- A load that passes every test begins its commit, with the reply deferred (R14). -/
theorem takeCloseData_passes {w : CheckWord} {q : Caller} {t : State} (hm : t.ship.mode = .dataLoading)
    (hc : t.ship.committing = none) (hf : t.ship.buffer.closeFault w = none) :
    takeCloseData w q t = defer q (t.withShip { t.ship with committing := some q }) := by
  unfold takeCloseData
  rw [if_neg (by simp [hm, hc]), hf]

/-- The eight tests report tests 1 to 7 first, and then the check word (R13). -/
theorem closeFault_eq_some {img : Image} {w : CheckWord} {x : ImageFault} :
    img.closeFault w = some x ↔ img.fault = some x ∨ (img.fault = none ∧ img.check ≠ w ∧ x = (.checkMismatch, 0, 0)) := by
  unfold Image.closeFault
  cases img.fault <;> by_cases hw : img.check = w <;> simp [hw, eq_comm]

/-- All eight tests pass exactly when tests 1 to 7 pass and the check word is the expected one. -/
theorem closeFault_eq_none {img : Image} {w : CheckWord} :
    img.closeFault w = none ↔ img.fault = none ∧ img.check = w := by
  unfold Image.closeFault
  cases img.fault <;> by_cases hw : img.check = w <;> simp [hw]

/-- A CLOSE DATA whose first failing test is known ends the load in DATA FAULT (R13). -/
theorem request_closeData_fails {tag : Byte} {w : CheckWord} {s : State} {reason : FaultReason} {kind index : Nat}
    (h : Ready s .portP) (hm : s.ship.mode = .dataLoading) (hc : s.ship.committing = none)
    (hf : s.ship.buffer.closeFault w = some (reason, kind, index)) :
    request .portP tag (.closeData w) s = { s with
      ship := { s.ship with buffer := .blank, mode := .dataFault, faultReason := some reason }
      lines := ⟨false, false, s.mon.effective == some .alarm⟩
      attn := s.attn.map (AttnPort.raise .serviceChange)
      ports := answeredPorts s .portP .closeData tag ⟨.badArgument, .dataFault reason kind index⟩ } := by
  let q := nextCaller s .portP (kindByte .closeData) tag
  rw [request_loading (r := .closeData w) h hm (.inr rfl)]
  show arbitrate s.eval (takeCloseData w q (openRequest q s)) = _
  rw [takeCloseData_fails (t := openRequest q s) hm hc hf, arbitrate_outside (by simp)]
  rfl

/-- A CLOSE DATA that every test passes begins the commit, and its reply is deferred (R14). -/
theorem request_closeData_passes {tag : Byte} {w : CheckWord} {s : State} (h : Ready s .portP)
    (hm : s.ship.mode = .dataLoading) (hc : s.ship.committing = none) (hf : s.ship.buffer.closeFault w = none) :
    request .portP tag (.closeData w) s = { s with
      ship := { s.ship with committing := some (nextCaller s .portP 0x0A tag) }
      ports := deferredPorts s .portP .closeData tag } := by
  let q := nextCaller s .portP (kindByte .closeData) tag
  rw [request_loading (r := .closeData w) h hm (.inr rfl)]
  show arbitrate s.eval (takeCloseData w q (openRequest q s)) = _
  rw [takeCloseData_passes (t := openRequest q s) hm hc hf, arbitrate_outside (by simp [hm])]
  rfl

/-- Settles O14: the refusals and the two ends of CLOSE DATA, and the check word byte by byte. -/
theorem closeDataEndsALoad : Obligations.CloseDataEndsALoad := by
  refine ⟨fun tag w s h => ?_, fun img => ?_⟩
  · intro run loading
    have hrun : run = .next (request .portP tag (.closeData w) s) := rfl
    refine ⟨fun hn => ?_, fun reason kind index hl hf => ?_, fun hl hf hw => ?_⟩
    · have hn' : s.ship.mode ≠ .dataLoading ∨ s.ship.committing.isSome = true := by
        by_contra hcon
        simp only [not_or, not_not, Bool.not_eq_true, Option.isSome_eq_false_iff, Option.isNone_iff_eq_none] at hcon
        exact hn hcon
      rw [hrun, request_notLoading (r := .closeData w) h (.inr rfl) (takeCloseData_notReady w) hn']; rfl
    · rw [hrun, request_closeData_fails h hl.1 hl.2 (closeFault_eq_some.2 hf)]
    · rw [hrun, request_closeData_passes h hl.1 hl.2 (closeFault_eq_none.2 ⟨hf, hw⟩)]
  · intro record
    have hcomp : ∀ r : CompRecord, r.fields = match r.use with
        | .stow k m => [match k with | .hold => 1 | .tween => 2 | .deck => 3, r.xAft, r.xFore, r.yMin, r.yMax, r.zFloor,
                        r.zTop, m]
        | .tank m cx cy fsm => [4, r.xAft, r.xFore, r.yMin, r.yMax, r.zFloor, r.zTop, m, cx, cy, fsm] := fun r => by
      unfold CompRecord.fields
      cases r.use with
      | stow k m => cases k <;> rfl
      | tank m cx cy fsm => rfl
    unfold Image.check Image.serialize tableBytes
    simp only [hcomp]
    cases img.particulars <;> cases img.timers <;> rfl

end Sys2Proof.Machine
end

section
namespace Sys2Proof.Machine
open Sys2Proof

/-! ### The record that WRITE DATA carries (R12) -/

/-- A PARTICULARS record has three fields (R2). -/
theorem particularsOf_eq (v : List Int) : particularsOf v =
    if v.length = 3 then some ⟨v.getD 0 0, v.getD 1 0, v.getD 2 0⟩ else none := by
  unfold particularsOf
  split
  · rfl
  · next hne =>
    refine (if_neg fun hl => ?_).symm
    match v, hl with
    | [a, b, c], _ => exact hne a b c rfl

/-- A LIGHTSHIP BLOCK record has five fields (R3). -/
theorem blockOf_eq (v : List Int) : blockOf v =
    if v.length = 5 then some ⟨v.getD 0 0, v.getD 1 0, v.getD 2 0, v.getD 3 0, v.getD 4 0⟩ else none := by
  unfold blockOf
  split
  · rfl
  · next hne =>
    refine (if_neg fun hl => ?_).symm
    match v, hl with
    | [a, b, c, d, e], _ => exact hne a b c d e rfl

/-- A HYDRO ROW record has twelve fields (R4). -/
theorem rowOf_eq (v : List Int) : rowOf v =
    if v.length = 12 then some ⟨v.getD 0 0, v.getD 1 0, v.getD 2 0, v.getD 3 0, v.getD 4 0, v.getD 5 0, v.getD 6 0,
      v.getD 7 0, v.getD 8 0, v.getD 9 0, v.getD 10 0, v.getD 11 0⟩ else none := by
  unfold rowOf
  split
  · rfl
  · next hne =>
    refine (if_neg fun hl => ?_).symm
    match v, hl with
    | [a, b, c, d, e, f, g, h, i, j, k, l], _ => exact hne a b c d e f g h i j k l rfl

/-- A STATION record has six fields (R5). -/
theorem stationOf_eq (v : List Int) : stationOf v =
    if v.length = 6 then some ⟨v.getD 0 0, v.getD 1 0, v.getD 2 0, v.getD 3 0, v.getD 4 0, v.getD 5 0⟩ else none := by
  unfold stationOf
  split
  · rfl
  · next hne =>
    refine (if_neg fun hl => ?_).symm
    match v, hl with
    | [a, b, c, d, e, f], _ => exact hne a b c d e f rfl

/-- A CRITERION DEFAULT record has five fields (R7). -/
theorem criterionOf_eq (v : List Int) : criterionOf v =
    if v.length = 5 then some ⟨v.getD 0 0, v.getD 1 0, v.getD 2 0, v.getD 3 0, v.getD 4 0⟩ else none := by
  unfold criterionOf
  split
  · rfl
  · next hne =>
    refine (if_neg fun hl => ?_).symm
    match v, hl with
    | [a, b, c, d, e], _ => exact hne a b c d e rfl

/-- A TIMERS record has four fields (R8). -/
theorem timersOf_eq (v : List Int) : timersOf v =
    if v.length = 4 then some ⟨v.getD 0 0, v.getD 1 0, v.getD 2 0, v.getD 3 0⟩ else none := by
  unfold timersOf
  split
  · rfl
  · next hne =>
    refine (if_neg fun hl => ?_).symm
    match v, hl with
    | [a, b, c, d], _ => exact hne a b c d rfl

/-- A COMPARTMENT record has eight fields for kinds 1 to 3 and eleven for kind 4 (R6). -/
theorem compOfFields_eq (v : List Int) : compOfFields v =
    if (v.length = 8 ∧ 1 ≤ v.getD 0 0 ∧ v.getD 0 0 ≤ 3) ∨ (v.length = 11 ∧ v.getD 0 0 = 4) then
      some ⟨v.getD 1 0, v.getD 2 0, v.getD 3 0, v.getD 4 0, v.getD 5 0, v.getD 6 0,
        if v.getD 0 0 = 4 then .tank (v.getD 7 0) (v.getD 8 0) (v.getD 9 0) (v.getD 10 0)
        else .stow (if v.getD 0 0 = 1 then .hold else if v.getD 0 0 = 2 then .tween else .deck) (v.getD 7 0)⟩
    else none := by
  unfold compOfFields
  split
  · next k xa xf ya yb za zb m =>
    simp only [List.length_cons, List.length_nil, List.getD_cons_zero, List.getD_cons_succ]
    by_cases h1 : k = 1
    · simp [h1]
    · by_cases h2 : k = 2
      · simp [h2]
      · by_cases h3 : k = 3
        · simp [h3]
        · rw [if_neg h1, if_neg h2, if_neg h3, if_neg (by omega)]
  · next k xa xf ya yb za zb m cx cy fsm =>
    simp only [List.length_cons, List.length_nil, List.getD_cons_zero, List.getD_cons_succ]
    by_cases h4 : k = 4 <;> simp [h4]
  · next hstow htank =>
    refine (if_neg ?_).symm
    rintro (⟨hl, _⟩ | ⟨hl, _⟩)
    · match v, hl with
      | [a, b, c, d, e, f, g, h], _ => exact hstow a b c d e f g h rfl
    · match v, hl with
      | [a, b, c, d, e, f, g, h, i, j, k], _ => exact htank a b c d e f g h i j k rfl

/-- The four cases in which R12 refuses a record: an unknown kind, an index beyond the kind's, a number of fields that
does not fit the kind, and a compartment kind that does not fit its number of fields. -/
def RecordRefused (kind index : Nat) (v : List Int) : Prop :=
  kind = 0 ∨ 7 < kind ∨ [0, 0, 15, 63, 15, 95, 15, 0].getD kind 0 < index ∨
    (kind ≠ 5 ∧ v.length ≠ [0, 3, 5, 12, 6, 0, 5, 4].getD kind 0) ∨
    (kind = 5 ∧ ¬ (v.length = 8 ∧ 1 ≤ v.getD 0 0 ∧ v.getD 0 0 ≤ 3) ∧ ¬ (v.length = 11 ∧ v.getD 0 0 = 4))

/-- No kind number outside 1..7 has an index. -/
theorem maxIndex_unknown {kind : Nat} (h : kind = 0 ∨ 7 < kind) : maxIndex kind = none := by
  match kind, h with
  | 0, _ => rfl
  | n + 8, _ => rfl

/-- A record that R12 refuses is not written. -/
theorem write_refused (img : Image) {kind index : Nat} {v : List Int} (h : RecordRefused kind index v) :
    img.write kind index v = none := by
  unfold Image.write
  by_cases hk : kind = 0 ∨ 7 < kind
  · rw [maxIndex_unknown hk]
  · obtain ⟨h1, h7⟩ : 1 ≤ kind ∧ kind ≤ 7 := by omega
    unfold RecordRefused at h
    interval_cases kind <;>
      simp [maxIndex, particularsOf_eq, blockOf_eq, rowOf_eq, stationOf_eq, compOfFields_eq, criterionOf_eq,
        timersOf_eq] at h ⊢ <;> omega

/-- The image with a record of a kind that R12 takes, its fields read in the order of the kind's table. -/
def Image.place (img : Image) (kind index : Nat) (v : List Int) : Image :=
  let i (k : Nat) : Int := v.getD k 0
  match kind with
  | 1 => { img with particulars := some ⟨i 0, i 1, i 2⟩ }
  | 2 => { img with blocks := img.blocks.put index ⟨i 0, i 1, i 2, i 3, i 4⟩ }
  | 3 => { img with rows := (img.rows.put index ⟨i 0, i 1, i 2, i 3, i 4, i 5, i 6, i 7, i 8, i 9, i 10, i 11⟩) }
  | 4 => { img with stations := img.stations.put index ⟨i 0, i 1, i 2, i 3, i 4, i 5⟩ }
  | 5 => { img with comps := (img.comps.put index ⟨i 1, i 2, i 3, i 4, i 5, i 6,
      if i 0 = 4 then .tank (i 7) (i 8) (i 9) (i 10)
      else .stow (if i 0 = 1 then .hold else if i 0 = 2 then .tween else .deck) (i 7)⟩) }
  | 6 => { img with criteria := img.criteria.put index ⟨i 0, i 1, i 2, i 3, i 4⟩ }
  | _ => { img with timers := some ⟨i 0, i 1, i 2, i 3⟩ }

/-- A record that R12 does not refuse is placed at its kind and index. -/
theorem write_taken (img : Image) {kind index : Nat} {v : List Int} (h : ¬ RecordRefused kind index v) :
    img.write kind index v = some (img.place kind index v) := by
  have hk : ¬ (kind = 0 ∨ 7 < kind) := fun hk => h (hk.elim .inl fun x => .inr (.inl x))
  obtain ⟨h1, h7⟩ : 1 ≤ kind ∧ kind ≤ 7 := by omega
  simp only [RecordRefused, not_or] at h
  obtain ⟨-, -, hindex, hcount, hcomp⟩ := h
  have hmax : maxIndex kind = some ([0, 0, 15, 63, 15, 95, 15, 0].getD kind 0) := by interval_cases kind <;> rfl
  unfold Image.write Image.place
  rw [hmax]
  dsimp only
  rw [if_neg hindex]
  by_cases h5 : kind = 5
  · have hfit : (v.length = 8 ∧ 1 ≤ v.getD 0 0 ∧ v.getD 0 0 ≤ 3) ∨ (v.length = 11 ∧ v.getD 0 0 = 4) := by tauto
    subst h5
    simp only [compOfFields_eq, if_pos hfit, Option.map_some]
  · have hlen : v.length = [0, 3, 5, 12, 6, 0, 5, 4].getD kind 0 := by tauto
    obtain rfl | rfl | rfl | rfl | rfl | rfl : kind = 1 ∨ kind = 2 ∨ kind = 3 ∨ kind = 4 ∨ kind = 6 ∨ kind = 7 := by omega
    all_goals
      simp only [particularsOf_eq, blockOf_eq, rowOf_eq, stationOf_eq, criterionOf_eq, timersOf_eq]
      exact congrArg (Option.map _) (if_pos hlen)

/-! ### WRITE DATA (R12) -/

/-- What WRITE DATA does outside a load. -/
theorem takeWriteData_notReady (kind index : Nat) (fields : List FieldWord) (q : Caller) (t : State)
    (h : t.ship.mode ≠ .dataLoading ∨ t.ship.committing.isSome = true) :
    takeWriteData kind index fields q t = answer q (bare .notReady) t := by
  unfold takeWriteData; rw [if_pos h]

/-- What WRITE DATA does in a load: the record is refused, and the buffer stays, or the buffer has it (R12). -/
theorem takeWriteData_loading {kind index : Nat} {fields : List FieldWord} {q : Caller} {t : State}
    (hm : t.ship.mode = .dataLoading) (hc : t.ship.committing = none) :
    (RecordRefused kind index (fields.map BitVec.toInt) →
      takeWriteData kind index fields q t = answer q (bare .badArgument) t) ∧
    (¬ RecordRefused kind index (fields.map BitVec.toInt) →
      takeWriteData kind index fields q t = answer q (bare .done)
        (t.withShip { t.ship with buffer := t.ship.buffer.place kind index (fields.map BitVec.toInt) })) := by
  unfold takeWriteData
  rw [if_neg (by simp [hm, hc])]
  exact ⟨fun h => by rw [write_refused _ h], fun h => by rw [write_taken _ h]⟩

/-- In a load WRITE DATA answers BAD ARGUMENT and keeps the buffer, or places the record and answers DONE (R12). -/
theorem request_writeData {tag : Byte} {kind index : Nat} {fields : List FieldWord} {s : State} (h : Ready s .portP)
    (hm : s.ship.mode = .dataLoading) (hc : s.ship.committing = none) :
    (RecordRefused kind index (fields.map BitVec.toInt) → request .portP tag (.writeData kind index fields) s =
      { s with ports := answeredPorts s .portP .writeData tag ⟨.badArgument, .statusOnly⟩ }) ∧
    (¬ RecordRefused kind index (fields.map BitVec.toInt) → request .portP tag (.writeData kind index fields) s = { s with
      ship := { s.ship with buffer := s.ship.buffer.place kind index (fields.map BitVec.toInt) }
      ports := answeredPorts s .portP .writeData tag ⟨.done, .statusOnly⟩ }) := by
  let q := nextCaller s .portP (kindByte .writeData) tag
  have htaken : request .portP tag (.writeData kind index fields) s =
      arbitrate s.eval (takeWriteData kind index fields q (openRequest q s)) :=
    request_loading (r := .writeData kind index fields) h hm (.inl rfl)
  obtain ⟨hbad, hgood⟩ := takeWriteData_loading (kind := kind) (index := index) (fields := fields) (q := q)
    (t := openRequest q s) hm hc
  rw [htaken]
  refine ⟨fun hr => ?_, fun hr => ?_⟩
  · rw [hbad hr, arbitrate_outside (by simp [hm])]; rfl
  · rw [hgood hr, arbitrate_outside (by simp [hm])]; rfl

/-- Settles O12: the refusals of WRITE DATA, the record it places kind by kind, and the table law of `Table.put`. -/
theorem writeDataPlacesARecord : Obligations.WriteDataPlacesARecord := by
  refine ⟨fun tag kind index fields s h => ?_, fun t k v ht => ?_⟩
  · intro first refused placed buf i run
    have hrun : run = .next (request .portP tag (.writeData kind index fields) s) := rfl
    have hrefused : refused ↔ RecordRefused kind index (fields.map BitVec.toInt) := by
      have hfirst : first = (fields.map BitVec.toInt).getD 0 0 := by
        show (fields.map BitVec.toInt).headD 0 = _
        cases fields <;> rfl
      unfold RecordRefused
      rw [← hfirst, List.length_map]
    refine ⟨fun hn => ?_, fun hm hc hr => ?_, fun hm hc hr => ?_⟩
    · rw [hrun, request_notLoading (r := .writeData kind index fields) h (.inl rfl) (takeWriteData_notReady _ _ _) hn]
      rfl
    · rw [hrun, (request_writeData h hm hc).1 (hrefused.1 hr)]; rfl
    · have hplaced : run = placed (buf.place kind index (fields.map BitVec.toInt)) := by
        rw [hrun, (request_writeData h hm hc).2 (fun x => hr (hrefused.2 x))]
      refine ⟨?_, ?_, ?_, ?_, ?_, ?_, ?_⟩ <;> (rintro rfl; exact hplaced)
  · exact ⟨Table.rising_put k v ht, Table.find_put_same k v t, fun j hj => Table.find_put_other v t hj⟩

end Sys2Proof.Machine
end

section
namespace Sys2Proof.Machine
open Sys2Proof

/-! ### The slots an image gives (R7, R103) -/

/-- An image gives sixteen slots. -/
theorem slots_length (img : Image) : img.slots.length = Config.slotCount := by simp [Image.slots]

/-- The slot at an index: that of the record there, or an unused one (R103). -/
theorem slots_at (img : Image) {i : Nat} (h : i < Config.slotCount) :
    img.slots[i]? = some ((img.criteria.find i).elim Slot.unused slotOfRecord) := by
  simp only [Image.slots, List.getElem?_map, List.getElem?_range h, Option.map_some]
  cases img.criteria.find i <;> rfl

/-- The codes 1 to 14 name the fourteen criteria in their order, none of them NONE (R7). -/
theorem codeOfNumber_eq {n : Int} (h1 : 1 ≤ n) (h14 : n ≤ 14) :
    codeOfNumber n = [Code.none, .gmMin, .area30Min, .area40Min, .gz30Min, .gzAngleMin, .heelMax, .liftHeelMax, .trimMax,
      .draftMax, .shearMax, .bendMax, .loadMax, .draftAgreeMax, .area3040Min].getD n.toNat .none ∧ codeOfNumber n ≠ .none := by
  interval_cases n <;> decide

/-- A record with a criterion's code gives its slot the record's own fields (R7). -/
theorem settingsOfRecord_coded {r : CriterionRecord} (h : codeOfNumber r.code ≠ .none) :
    settingsOfRecord r = ⟨codeOfNumber r.code, r.limit, r.hyst, r.n.toNat, actionOfNumber r.action⟩ := by
  unfold settingsOfRecord
  split
  · next hnone => exact absurd hnone h
  · rfl

/-- A record with code NONE gives its slot settings within their ranges (log 35). -/
theorem settingsOfRecord_none {r : CriterionRecord} (h : codeOfNumber r.code = .none) :
    settingsOfRecord r = ⟨.none, unchecked 1 (-1000000) 1000000 r.limit, unchecked 2 0 100000 r.hyst,
      (unchecked 3 1 8 r.n).toNat, actionOfNumber (unchecked 4 0 3 r.action)⟩ := by
  unfold settingsOfRecord
  split
  · rfl
  · next hne => exact absurd h hne

/-- The actions by their numbers (R7). -/
theorem actionOfNumber_eq {n : Int} (h0 : 0 ≤ n) (h3 : n ≤ 3) :
    some (actionOfNumber n) = [Action.note, .hold, .stopCranes, .alarm][n.toNat]? := by
  interval_cases n <;> decide

/-- The slot of a record with a criterion's code (the third clause of the slots). -/
theorem slots_coded {img : Image} {i : Nat} {r : CriterionRecord} (hi : i < 16) (hr : img.criteria.find i = some r)
    (h1 : 1 ≤ r.code) (h14 : r.code ≤ 14) :
    img.slots[i]? = some ⟨⟨codeOfNumber r.code, r.limit, r.hyst, r.n.toNat, actionOfNumber r.action⟩, false, 0, none⟩ := by
  rw [slots_at img hi, hr, ← settingsOfRecord_coded (codeOfNumber_eq h1 h14).2]
  rfl

/-- The slot of a record with code NONE: CLEAR, with each setting in its range and its own where that lies in it. -/
theorem slots_uncoded {img : Image} {i : Nat} {r : CriterionRecord} (hi : i < 16) (hr : img.criteria.find i = some r)
    (h0 : r.code = 0) :
    ∃ st : Settings, img.slots[i]? = some ⟨st, false, 0, none⟩ ∧ st.code = .none ∧
      (-1000000 ≤ st.limit ∧ st.limit ≤ 1000000 ∧ 0 ≤ st.hyst ∧ st.hyst ≤ 100000 ∧ 1 ≤ st.n ∧ st.n ≤ 8) ∧
      (-1000000 ≤ r.limit → r.limit ≤ 1000000 → st.limit = r.limit) ∧ (0 ≤ r.hyst → r.hyst ≤ 100000 → st.hyst = r.hyst) ∧
      (1 ≤ r.n → r.n ≤ 8 → (st.n : Int) = r.n) ∧
      (0 ≤ r.action → r.action ≤ 3 → some st.action = [Action.note, .hold, .stopCranes, .alarm][r.action.toNat]?) := by
  have hcode : codeOfNumber r.code = .none := by rw [h0]; rfl
  obtain ⟨llo, lhi, lin⟩ := unchecked_spec 1 (lo := -1000000) (hi := 1000000) r.limit (by decide)
  obtain ⟨hlo, hhi, hin⟩ := unchecked_spec 2 (lo := 0) (hi := 100000) r.hyst (by decide)
  obtain ⟨nlo, nhi, nin⟩ := unchecked_spec 3 (lo := 1) (hi := 8) r.n (by decide)
  obtain ⟨-, -, ain⟩ := unchecked_spec 4 (lo := 0) (hi := 3) r.action (by decide)
  refine ⟨settingsOfRecord r, by rw [slots_at img hi, hr]; rfl, ?_⟩
  rw [settingsOfRecord_none hcode]
  refine ⟨rfl, ⟨llo, lhi, hlo, hhi, by dsimp only; omega, by dsimp only; omega⟩, lin, hin, fun a b => ?_, fun a b => ?_⟩
  · dsimp only; rw [nin a b]; omega
  · dsimp only; rw [ain a b]; exact actionOfNumber_eq a b

/-- The range loaded is that of PARTICULARS (R2). -/
theorem range_of_particulars {img : Image} {r : Particulars} (h : img.particulars = some r) :
    img.range = (r.rangeStart.toNat, r.rangeStop.toNat) := by
  unfold Image.range; rw [h]

/-! ### The entry to IN SERVICE (R14, R16, R17) -/

/-- The evaluation unit at an entry to IN SERVICE: a routine request is pending and, in the CONTINUOUS mode, the interval
timer starts (R17, R92). -/
def servedEval (e : EvalUnit) : EvalUnit := { e with
  slotRoutine := true
  intervalTimer := if e.routineMode = .continuous then some e.interval else e.intervalTimer }

/-- The slots loaded from the image and IN SERVICE entered, as a commit and a verification end (R14, R16, R17). -/
theorem enterService_loadSlots (s : State) : enterService (loadSlots s) = { s with
    ship := { s.ship with mode := .inService, faultReason := none, slotsUnloaded := false }
    cond := { s.cond with
      comps := (s.cond.comps.mapVals (fun _ cs => { cs with flag := .opened })).filter (fun e => e.2 != .empty) }
    eval := servedEval s.eval
    mon := { s.mon with slots := s.ship.image.slots, rangeStart := s.ship.image.range.1,
                        rangeStop := s.ship.image.range.2, primed := false, effective := none }
    lines := ⟨false, false, false⟩
    attn := (let cleared := if s.mon.effective = none then s.attn else s.attn.map (AttnPort.raise .actionCleared)
      if s.ship.mode = .inService then cleared else cleared.map (AttnPort.raise .serviceChange)) } := by
  rw [enterService_eq, loadSlots_eq]
  rfl

/-- Which causes a fall to NONE and a change of the service mode leave pending (R17, R113). -/
theorem pending_entered (effective : Option Action) (mode now : ServiceMode) (attn : PerPort AttnPort) (r : Port) (x : Cause) :
    x ∈ ((let cleared := if effective = none then attn else attn.map (AttnPort.raise .actionCleared)
      if mode = now then cleared else cleared.map (AttnPort.raise .serviceChange)).get r).pending ↔
    (x = .serviceChange ∧ mode ≠ now) ∨ (x = .actionCleared ∧ effective ≠ none) ∨ x ∈ (attn.get r).pending := by
  by_cases he : effective = none <;> by_cases hm : mode = now <;> simp [he, hm]

/-- They change neither the masks nor the line modes (R190). -/
theorem entered_mask_mode (effective : Option Action) (mode now : ServiceMode) (attn : PerPort AttnPort) (r : Port) :
    let a := (let cleared := if effective = none then attn else attn.map (AttnPort.raise .actionCleared)
      if mode = now then cleared else cleared.map (AttnPort.raise .serviceChange)).get r
    a.unmasked = (attn.get r).unmasked ∧ a.mode = (attn.get r).mode := by
  by_cases he : effective = none <;> by_cases hm : mode = now <;> simp [he, hm]

/-- The end of a commit in progress, field by field (R14, R17). -/
theorem commitEnds_eq {s : State} {q : Caller} (h : s.ship.committing = some q) : commitEnds s = { s with
    ship := { s.ship with image := s.ship.buffer, present := true, checkWord := s.ship.buffer.check, buffer := .blank,
                          mode := .inService, faultReason := none, slotsUnloaded := false, committing := none }
    cond := { s.cond with
      comps := (s.cond.comps.mapVals (fun _ cs => { cs with flag := .opened })).filter (fun e => e.2 != .empty) }
    eval := servedEval s.eval
    mon := { s.mon with slots := s.ship.buffer.slots, rangeStart := s.ship.buffer.range.1,
                        rangeStop := s.ship.buffer.range.2, primed := false, effective := none }
    lines := ⟨false, false, false⟩
    attn := (let cleared := if s.mon.effective = none then s.attn else s.attn.map (AttnPort.raise .actionCleared)
      if s.ship.mode = .inService then cleared else cleared.map (AttnPort.raise .serviceChange))
    ports := if (s.ports.get q.port).deferred = some q then s.ports.modify q.port (fun x => { x with
        deferred := none
        tx := x.tx ++ [⟨⟨replyKind q.kind, q.tag, ⟨.done, .committed s.ship.buffer.check⟩⟩, some q.mark⟩] })
      else s.ports } := by
  unfold commitEnds
  rw [h]
  dsimp only
  rw [enterService_loadSlots, deliver_eq]
  by_cases hd : (s.ports.get q.port).deferred = some q
  · rw [if_pos hd]; exact if_pos hd
  · rw [if_neg hd]; exact if_neg hd

/-- Settles O15: a commit stores the buffer, loads the slots, enters service and delivers its reply. -/
theorem commitEndStoresTheImage : Obligations.CommitEndStoresTheImage := by
  refine ⟨fun s => ⟨fun hc => ?_, fun q hc hrising => ?_⟩, fun img i hi => ⟨slots_length img, fun hf => ?_, ?_, ?_⟩⟩
  · have hsame : commitEnds s = s := by unfold commitEnds; rw [hc]
    show Host.Outcome.next (arbitrate s.eval (commitEnds s)) = _
    rw [hsame, arbitrate_quiet]
  · refine ⟨_, congrArg (fun t => Host.Outcome.next (arbitrate s.eval t)) (commitEnds_eq hc), rfl, rfl,
      comp_opened s.cond.comps hrising, rfl, rfl, fun r hr => ?_, rfl, rfl, rfl, rfl, rfl, rfl, rfl,
      pending_entered s.mon.effective s.ship.mode .inService s.attn, rfl⟩
    rw [range_of_particulars hr]
    exact ⟨rfl, rfl⟩
  · rw [slots_at img hi, hf]; rfl
  · intro r hr h1 h14
    rw [slots_coded hi hr h1 h14, (codeOfNumber_eq h1 h14).1]
    rfl
  · intro r hr h0
    exact slots_uncoded hi hr h0

/-! ### The end of verification (R16, R17) -/

/-- A verification that finds no image, or a check word that does not match, ends in DATA FAULT (R16). -/
theorem verifyEnds_fails {s : State} {reason : FaultReason} (hm : s.ship.mode = .verify)
    (h : (s.ship.present = false ∧ reason = .noData) ∨
      (s.ship.present = true ∧ s.ship.image.check ≠ s.ship.checkWord ∧ reason = .checkMismatch)) :
    verifyEnds s = { s with
      ship := { s.ship with mode := .dataFault, faultReason := some reason }
      lines := ⟨false, false, s.mon.effective == some .alarm⟩
      attn := s.attn.map (AttnPort.raise .serviceChange) } := by
  have hfault : verifyEnds s = changeMode .dataFault (some reason) s := by
    unfold verifyEnds
    rw [if_neg (by simp [hm])]
    rcases h with ⟨hp, rfl⟩ | ⟨hp, hw, rfl⟩
    · rw [if_pos hp]
    · rw [if_neg (by simp [hp]), if_pos hw]
  rw [hfault, changeMode_eq, if_neg (by simp [hm])]
  rfl

/-- A verification that finds its image whole enters service, with the slots loaded where the mark asks for it (R16). -/
theorem verifyEnds_serves {s : State} (hm : s.ship.mode = .verify) (hp : s.ship.present = true)
    (hw : s.ship.image.check = s.ship.checkWord) :
    verifyEnds s = enterService (if s.ship.slotsUnloaded then loadSlots s else s) := by
  unfold verifyEnds
  rw [if_neg (by simp [hm]), if_neg (by simp [hp]), if_neg (by simp [hw])]

/-- Settles O16: each end of a verification, and nothing in another mode. -/
theorem verifyEndChoosesTheMode : Obligations.VerifyEndChoosesTheMode := by
  intro s served
  have hrun : exec .verifyEnd s = .next (arbitrate s.eval (verifyEnds s)) := rfl
  refine ⟨fun hm => ?_, fun reason hm h => ?_, fun hm hp hw hu => ?_, fun hm hp hw hu hrising => ?_⟩
  · have hsame : verifyEnds s = s := by unfold verifyEnds; rw [if_pos hm]
    rw [hrun, hsame, arbitrate_quiet]
  · rw [hrun, verifyEnds_fails hm h, arbitrate_outside (by simp)]
  · rw [hrun, verifyEnds_serves hm hp hw, if_neg (by simp [hu]), enterService_eq,
      if_neg (show ¬ s.ship.mode = .inService by simp [hm])]
    rfl
  · have hloaded : verifyEnds s = enterService (loadSlots s) := by rw [verifyEnds_serves hm hp hw, if_pos hu]
    refine ⟨_, congrArg (fun t => Host.Outcome.next (arbitrate s.eval t)) (hloaded.trans (enterService_loadSlots s)), rfl,
      rfl, rfl, fun r hr => ?_, rfl, rfl, comp_opened s.cond.comps hrising, rfl, rfl, rfl, rfl, rfl, rfl, ?_⟩
    · rw [range_of_particulars hr]
      exact ⟨rfl, rfl⟩
    · simp only [hm]
      exact if_neg (by decide)

/-! ### Reset -/

/-- A port as it is after reset is in order. -/
theorem fresh_ordered (n : Nat) : (PortState.fresh n).Ordered := by
  refine ⟨fun e => ?_, Nat.zero_le 1, ?_, ?_, ?_⟩
  · cases e <;> exact Nat.zero_le 255
  · rintro c ⟨⟩
  · rintro c ⟨⟩
  · rintro e ⟨⟩

/-- An IDLE record is shaped. -/
theorem idle_shaped : LiftRecord.idle.Shaped := by
  refine ⟨by decide, by decide, ?_, ?_⟩
  · rintro t ⟨⟩
  · rintro l ⟨⟩

/-- Slots that are all unused make a monitor in shape, whatever the rest of the monitor. -/
theorem reset_monitorShaped : MonitorShaped State.reset := by
  refine ⟨rfl, fun o ho => ?_, by decide, by decide, fun i _ => ?_⟩
  · rw [List.eq_of_mem_replicate ho]
    exact ⟨by decide, by decide, by decide, by decide, fun _ => ⟨rfl, rfl⟩⟩
  · have hslot : State.reset.slot i = Slot.unused := by
      show (List.replicate 16 Slot.unused).getD i Slot.unused = _
      rw [List.getD_eq_getElem?_getD, List.getElem?_replicate]
      split <;> rfl
    rw [hslot]
    exact ⟨rfl, rfl⟩

/-- The lift records, the items and the compartments agree after reset. -/
theorem reset_liftsAgree : LiftsAgree State.reset where
  shaped := ⟨fun c => by cases c <;> exact idle_shaped, fun c => by cases c <;> decide, fun c => by cases c <;> decide⟩
  causes := ⟨fun c => by cases c <;> decide, by decide, by decide, fun p => by cases p <;> decide⟩
  paired := fun c => by cases c <;> decide
  once := fun tag h => (nomatch h)
  checks := fun c => by cases c <;> decide
  waiters := fun c q h => by cases c <;> cases h
  items := ⟨.nil, by decide, fun e he => (nomatch he)⟩
  slung := ⟨fun c l h => (by cases c <;> cases h), fun tag it h => (nomatch h)⟩
  loads := fun n => ⟨rfl, .nil, fun tag => ⟨fun h => (nomatch h), fun ⟨it, h, _⟩ => (nomatch h)⟩⟩
  comps := .nil

/-- Settles O60: the state after reset, invariant by invariant. -/
theorem resetMeetsTheInvariants : Obligations.ResetMeetsTheInvariants := by
  refine ⟨⟨rfl, rfl, rfl, rfl, rfl, rfl⟩, ⟨rfl, rfl⟩, ?_, ⟨fresh_ordered 0, fresh_ordered 0, fresh_ordered 0, fresh_ordered 0⟩,
    ⟨fun h => (nomatch h), fun h => (nomatch h), fun h => (nomatch h)⟩, reset_monitorShaped, ?_, ?_,
    ⟨.nil, fun h => absurd rfl h⟩, reset_liftsAgree, fun j h => (nomatch h),
    ⟨fun _ => ⟨rfl, rfl, rfl, rfl⟩, fun h => (nomatch h), fun h => (nomatch h)⟩⟩
  · exact ⟨⟨rfl, fun _ => rfl⟩, ⟨rfl, fun _ => rfl⟩, ⟨rfl, fun _ => rfl⟩, ⟨rfl, fun _ => rfl⟩⟩
  · unfold ValuesInRange
    decide
  · refine ⟨.nil, ⟨.nil, fun e he => (nomatch he)⟩, ⟨.nil, fun e he => (nomatch he)⟩, fun img h => ?_⟩
    have himg : img = .blank := by rcases h with rfl | rfl <;> rfl
    subst himg
    exact ⟨.nil, .nil, .nil, .nil, .nil⟩

end Sys2Proof.Machine
end

section
namespace Sys2Proof.Machine
open Sys2Proof

/-! ### The held changes told NOT IN SERVICE (R11) -/

/-- A port after the hold list has been discarded: a deferred reply to a change of the list on that port is NOT IN SERVICE. -/
def toldNotServed (hold : List Held) (r : Port) (q : PortState) : PortState :=
  match q.deferred with
  | none => q
  | some c => if c.port = r ∧ (∃ h ∈ hold, h.caller = c) then
      { q with deferred := none, tx := q.tx ++ [⟨⟨replyKind c.kind, c.tag, ⟨.notInService, .statusOnly⟩⟩, some c.mark⟩] }
    else q

/-- The four ports after the hold list has been discarded. -/
def toldPorts (hold : List Held) (ports : PerPort PortState) : PerPort PortState :=
  ⟨toldNotServed hold .portP ports.p, toldNotServed hold .portB ports.b, toldNotServed hold .portC1 ports.c1,
   toldNotServed hold .portC2 ports.c2⟩

@[simp] theorem toldPorts_get (hold : List Held) (ports : PerPort PortState) (r : Port) :
    (toldPorts hold ports).get r = toldNotServed hold r (ports.get r) := by cases r <;> rfl

/-- Values at every port are equal when they are equal port by port. -/
theorem PerPort.ext_get {α : Type} {a b : PerPort α} (h : ∀ p, a.get p = b.get p) : a = b := by
  have hp : a.p = b.p := h .portP
  have hb : a.b = b.b := h .portB
  have h1 : a.c1 = b.c1 := h .portC1
  have h2 : a.c2 = b.c2 := h .portC2
  cases a; cases b
  simp_all

/-- A port without a deferred reply is told nothing. -/
theorem toldNotServed_none (hold : List Held) (r : Port) {q : PortState} (h : q.deferred = none) :
    toldNotServed hold r q = q := by unfold toldNotServed; rw [h]

/-- A port whose deferred reply answers a change of the list that came on it is told. -/
theorem toldNotServed_told {hold : List Held} {r : Port} {q : PortState} {c : Caller} (hd : q.deferred = some c)
    (hc : c.port = r ∧ ∃ h ∈ hold, h.caller = c) : toldNotServed hold r q =
      { q with deferred := none, tx := q.tx ++ [⟨⟨replyKind c.kind, c.tag, ⟨.notInService, .statusOnly⟩⟩, some c.mark⟩] } := by
  unfold toldNotServed; rw [hd]; exact if_pos hc

/-- A held change of another request than the deferred one makes no difference to a port. -/
theorem toldNotServed_cons_other {h : Held} {hold : List Held} {r : Port} {q : PortState}
    (hne : h.caller.port = r → q.deferred ≠ some h.caller) : toldNotServed (h :: hold) r q = toldNotServed hold r q := by
  unfold toldNotServed
  cases hd : q.deferred with
  | none => rfl
  | some c =>
    have hiff : (c.port = r ∧ ∃ x ∈ h :: hold, x.caller = c) ↔ (c.port = r ∧ ∃ x ∈ hold, x.caller = c) := by
      refine and_congr_right fun hr => ⟨?_, fun ⟨x, hx, e⟩ => ⟨x, List.mem_cons_of_mem _ hx, e⟩⟩
      rintro ⟨x, hx, rfl⟩
      rcases List.mem_cons.1 hx with rfl | hx
      · exact absurd hd (hne hr)
      · exact ⟨x, hx, rfl⟩
    simp only [hiff]

/-- The changes of a list answered NOT IN SERVICE one after another change the ports alone, each port as
`toldNotServed` says. -/
theorem foldl_deliver_notInService (hold : List Held) (s : State) :
    hold.foldl (fun t h => deliver h.caller (bare .notInService) t) s = { s with ports := toldPorts hold s.ports } := by
  induction hold generalizing s with
  | nil =>
    have hports : toldPorts [] s.ports = s.ports := PerPort.ext_get fun r => by
      rw [toldPorts_get]
      unfold toldNotServed
      split
      · rfl
      · exact if_neg (by simp)
    rw [hports]
    rfl
  | cons h hold ih =>
    rw [List.foldl_cons, ih, deliver_eq]
    have hports : toldPorts (h :: hold) s.ports = toldPorts hold
        (if (s.ports.get h.caller.port).deferred = some h.caller then s.ports.modify h.caller.port (fun x =>
          { x with deferred := none
                   tx := x.tx ++ [⟨⟨replyKind h.caller.kind, h.caller.tag, bare .notInService⟩, some h.caller.mark⟩] })
         else s.ports) := PerPort.ext_get fun r => by
      rw [toldPorts_get, toldPorts_get]
      by_cases hd : (s.ports.get h.caller.port).deferred = some h.caller
      · rw [if_pos hd]
        by_cases hr : r = h.caller.port
        · subst hr
          rw [PerPort.get_modify_same, toldNotServed_none hold _ rfl,
            toldNotServed_told hd ⟨rfl, h, List.mem_cons_self, rfl⟩]
          rfl
        · rw [PerPort.get_modify_other _ _ _ _ hr]
          exact toldNotServed_cons_other fun e => absurd e.symm hr
      · rw [if_neg hd]
        exact toldNotServed_cons_other fun e => e ▸ hd
    rw [hports]
    by_cases hd : (s.ports.get h.caller.port).deferred = some h.caller
    · simp only [if_pos hd]
    · simp only [if_neg hd]

/-- The hold list is discarded, and each port told (R11). -/
theorem rejectHeld_eq (s : State) : rejectHeld s =
    { s with cond := { s.cond with hold := [] }, ports := toldPorts s.cond.hold s.ports } :=
  foldl_deliver_notInService s.cond.hold (s.withCond { s.cond with hold := [] })

/-! ### The SLUNG lifts of an OPEN DATA (R10) -/

/-- A lift record after OPEN DATA: DONE with outcome ABORTED when it was SLUNG (R10). -/
def abortedRecord (r : LiftRecord) : LiftRecord :=
  if r.state = .slung then { r with state := .done, timer := none, silent := false, outcome := some .aborted } else r

/-- The attention unit after a crane's SLUNG record has been ended: OUTCOME READY is raised on its port, and SILENT LIFT goes
when its mark was the last (R124, R188). -/
def abortedAttn (c : Crane) (slung last : Bool) (a : PerPort AttnPort) : PerPort AttnPort :=
  if slung = true then
    let raised := a.modify (cranePort c) (AttnPort.raise .outcomeReady)
    if last = true then raised.map (AttnPort.remove .silentLift) else raised
  else a

/-- The end of a SLUNG record changes the lift unit and the attention unit alone. -/
theorem abortSlung_frame (c : Crane) (s : State) :
    abortSlung c s = { s with lifts := (abortSlung c s).lifts, attn := (abortSlung c s).attn } := by
  unfold abortSlung
  by_cases h : (s.record c).state = .slung
  · rw [if_pos h]
    unfold finishLift
    rw [endSilence_eq, List.foldl_cons, List.foldl_nil]
    unfold finishOne
    split <;> rfl
  · rw [if_neg h]

/-- Some record is SILENT when one crane's or the other's is. -/
theorem anySilent_eq (s : State) (c : Crane) : s.anySilent = ((s.record c).silent || (s.record (otherCrane c)).silent) := by
  cases c
  · rfl
  · exact Bool.or_comm _ _

/-- A record that is not SLUNG is left alone. -/
theorem abortSlung_other {c : Crane} {s : State} (h : (s.record c).state ≠ .slung) : abortSlung c s = s := by
  unfold abortSlung; rw [if_neg h]

/-- A SLUNG record is DONE with outcome ABORTED, and its outcome record keeps its mass and its origin (R10, R124). -/
theorem abortSlung_slung {c : Crane} {s : State} {l : Lift} (hs : (s.record c).state = .slung)
    (hl : (s.record c).lift = some l) : abortSlung c s = { s with
      lifts := { s.lifts with
        records := s.lifts.records.set c (abortedRecord (s.record c))
        ended := s.lifts.ended.set c (some ⟨s.massOf l.tag, l.origin⟩) }
      attn := abortedAttn c true ((s.record c).silent && !(s.record (otherCrane c)).silent) s.attn } := by
  have hmass : s.liftMass c = s.massOf l.tag := by unfold State.liftMass; rw [hl]; rfl
  unfold abortSlung
  rw [if_pos hs]
  unfold finishLift
  rw [List.foldl_cons, List.foldl_nil, finishOne_eq .aborted none _ hl, hmass, endSilence_eq, anySilent_eq s c]
  unfold abortedAttn abortedRecord
  rw [if_pos hs, if_pos rfl]
  have hnow : State.anySilent { s with
      lifts := { s.lifts with
        records := s.lifts.records.set c
          { s.record c with state := .done, timer := none, silent := false, outcome := some .aborted }
        ended := s.lifts.ended.set c (some ⟨s.massOf l.tag, l.origin⟩) }
      attn := s.attn.modify (cranePort c) (AttnPort.raise .outcomeReady) } = (s.record (otherCrane c)).silent := by
    rw [anySilent_eq _ c]
    cases c <;> rfl
  have hlast : (((s.record c).silent || (s.record (otherCrane c)).silent) && !(s.record (otherCrane c)).silent) =
      ((s.record c).silent && !(s.record (otherCrane c)).silent) := by
    cases (s.record c).silent <;> cases (s.record (otherCrane c)).silent <;> rfl
  simp only [Option.getD_none] at hnow ⊢
  rw [hnow, hlast]

/-- The attention unit after the end of a record, SLUNG or not. -/
theorem abortSlung_attn {c : Crane} {s : State} (h : (s.record c).state = .slung → (s.record c).lift.isSome = true) :
    (abortSlung c s).attn = abortedAttn c ((s.record c).state == .slung)
      ((s.record c).silent && !(s.record (otherCrane c)).silent) s.attn := by
  by_cases hs : (s.record c).state = .slung
  · obtain ⟨l, hl⟩ := Option.isSome_iff_exists.1 (h hs)
    rw [abortSlung_slung hs hl, hs]
    rfl
  · rw [abortSlung_other hs]
    unfold abortedAttn
    rw [if_neg (by simpa using hs)]

/-- Each record after the end of one crane's. -/
theorem abortSlung_record {c : Crane} {s : State} (h : (s.record c).state = .slung → (s.record c).lift.isSome = true)
    (d : Crane) : (abortSlung c s).record d = if d = c then abortedRecord (s.record c) else s.record d := by
  by_cases hs : (s.record c).state = .slung
  · obtain ⟨l, hl⟩ := Option.isSome_iff_exists.1 (h hs)
    rw [abortSlung_slung hs hl]
    cases c <;> cases d <;> rfl
  · have hself : abortedRecord (s.record c) = s.record c := if_neg hs
    rw [abortSlung_other hs, hself]
    split
    · next hd => rw [hd]
    · rfl

/-- The outcome record of each crane after the end of one crane's record. -/
theorem abortSlung_ended {c : Crane} {s : State} {l : Lift} (hs : (s.record c).state = .slung)
    (hl : (s.record c).lift = some l) : (abortSlung c s).lifts.ended.get c = some ⟨s.massOf l.tag, l.origin⟩ := by
  rw [abortSlung_slung hs hl]
  exact PerCrane.get_set_same _ _ _

/-- The other crane's outcome record stays. -/
theorem abortSlung_ended_other {c d : Crane} {s : State} (h : (s.record c).state = .slung → (s.record c).lift.isSome = true)
    (hd : d = c → (s.record c).state ≠ .slung) : (abortSlung c s).lifts.ended.get d = s.lifts.ended.get d := by
  by_cases hs : (s.record c).state = .slung
  · obtain ⟨l, hl⟩ := Option.isSome_iff_exists.1 (h hs)
    rw [abortSlung_slung hs hl]
    exact PerCrane.get_set_other _ _ _ _ fun e => hd e hs
  · rw [abortSlung_other hs]

/-- No reply to a lift is awaited otherwise after the end of a record. -/
theorem abortSlung_waiting (c : Crane) (s : State) : (abortSlung c s).lifts.waiting = s.lifts.waiting := by
  unfold abortSlung
  by_cases h : (s.record c).state = .slung
  · rw [if_pos h]
    unfold finishLift
    rw [endSilence_eq, List.foldl_cons, List.foldl_nil]
    unfold finishOne
    split <;> rfl
  · rw [if_neg h]

/-- The state with both cranes' SLUNG records ended (R10). -/
def abortBoth (s : State) : State := abortSlung .crane2 (abortSlung .crane1 s)

/-- Every SLUNG record holds a lift. -/
def SlungHoldsLift (s : State) : Prop := ∀ c, (s.record c).state = .slung → (s.record c).lift.isSome = true

/-- The ends of both records change the lift unit and the attention unit alone. -/
theorem abortBoth_frame (s : State) :
    abortBoth s = { s with lifts := (abortBoth s).lifts, attn := (abortBoth s).attn } := by
  unfold abortBoth
  rw [abortSlung_frame .crane2]
  rw [abortSlung_frame .crane1 s]

/-- The second crane's record is as it was when the first crane's has been ended. -/
theorem abortFirst_second {s : State} (h : SlungHoldsLift s) : (abortSlung .crane1 s).record .crane2 = s.record .crane2 := by
  rw [abortSlung_record (h .crane1)]; rfl

/-- Both records after OPEN DATA. -/
theorem abortBoth_record {s : State} (h : SlungHoldsLift s) (c : Crane) :
    (abortBoth s).record c = abortedRecord (s.record c) := by
  have h2 : ((abortSlung .crane1 s).record .crane2).state = .slung →
      ((abortSlung .crane1 s).record .crane2).lift.isSome = true := by rw [abortFirst_second h]; exact h .crane2
  unfold abortBoth
  rw [abortSlung_record h2, abortFirst_second h, abortSlung_record (h .crane1)]
  cases c <;> rfl

/-- The mass that an item has in the table does not depend on the records. -/
theorem massOf_abortSlung (c : Crane) (s : State) (tag : Nat) : (abortSlung c s).massOf tag = s.massOf tag := by
  rw [abortSlung_frame]; rfl

/-- The outcome record of a SLUNG record after OPEN DATA: its mass and its origin (R10, R146). -/
theorem abortBoth_ended {s : State} (h : SlungHoldsLift s) {c : Crane} {l : Lift} (hs : (s.record c).state = .slung)
    (hl : (s.record c).lift = some l) : (abortBoth s).lifts.ended.get c = some ⟨s.massOf l.tag, l.origin⟩ := by
  have e2 := abortFirst_second h
  unfold abortBoth
  cases c with
  | crane1 =>
    rw [abortSlung_ended_other (by rw [e2]; exact h .crane2) (by rintro ⟨⟩), abortSlung_ended hs hl]
  | crane2 => rw [abortSlung_ended (e2 ▸ hs) (e2 ▸ hl), massOf_abortSlung]

/-- The outcome record of a record that is not SLUNG stays. -/
theorem abortBoth_ended_other {s : State} (h : SlungHoldsLift s) {c : Crane} (hs : (s.record c).state ≠ .slung) :
    (abortBoth s).lifts.ended.get c = s.lifts.ended.get c := by
  have e2 := abortFirst_second h
  unfold abortBoth
  rw [abortSlung_ended_other (by rw [e2]; exact h .crane2) (by rintro rfl; rwa [e2]),
    abortSlung_ended_other (h .crane1) (by rintro rfl; exact hs)]

/-- Whether the end of a crane's SLUNG record takes the last SILENT mark, the first crane's record being ended first. -/
def lastSilence (s : State) : Crane → Bool
  | .crane1 => (s.record .crane1).silent && !(s.record .crane2).silent
  | .crane2 => (s.record .crane2).silent && !((s.record .crane1).silent && !((s.record .crane1).state == .slung))

/-- The attention unit after both records have been ended, one after the other (R124, R188). -/
theorem abortBoth_attn {s : State} (h : SlungHoldsLift s) : (abortBoth s).attn =
    abortedAttn .crane2 ((s.record .crane2).state == .slung) (lastSilence s .crane2)
      (abortedAttn .crane1 ((s.record .crane1).state == .slung) (lastSilence s .crane1) s.attn) := by
  have e1 : ((abortSlung .crane1 s).record .crane1).silent =
      ((s.record .crane1).silent && !((s.record .crane1).state == .slung)) := by
    rw [abortSlung_record (h .crane1), if_pos rfl]
    unfold abortedRecord
    by_cases hs : (s.record .crane1).state = .slung <;> simp [hs]
  have e2 := abortFirst_second h
  unfold abortBoth
  rw [abortSlung_attn (by rw [e2]; exact h .crane2), abortSlung_attn (h .crane1), e2]
  show abortedAttn .crane2 _ ((s.record .crane2).silent && !((abortSlung .crane1 s).record .crane1).silent) _ = _
  rw [e1]
  rfl

/-- The end of a SLUNG record changes neither masks nor line modes. -/
theorem abortedAttn_mask_mode (c : Crane) (slung last : Bool) (a : PerPort AttnPort) (r : Port) :
    ((abortedAttn c slung last a).get r).unmasked = (a.get r).unmasked ∧
    ((abortedAttn c slung last a).get r).mode = (a.get r).mode := by
  have hraise : ((a.modify (cranePort c) (AttnPort.raise .outcomeReady)).get r).unmasked = (a.get r).unmasked ∧
      ((a.modify (cranePort c) (AttnPort.raise .outcomeReady)).get r).mode = (a.get r).mode := by
    by_cases hr : r = cranePort c
    · subst hr; simp
    · simp [PerPort.get_modify_other _ _ _ _ hr]
  unfold abortedAttn
  cases slung <;> cases last <;> simp [hraise]

/-- The ends of the SLUNG records change neither masks nor line modes. -/
theorem abortBoth_mask_mode {s : State} (h : SlungHoldsLift s) (r : Port) :
    ((abortBoth s).attn.get r).unmasked = (s.attn.get r).unmasked ∧
    ((abortBoth s).attn.get r).mode = (s.attn.get r).mode := by
  rw [abortBoth_attn h]
  obtain ⟨hmask2, hmode2⟩ := abortedAttn_mask_mode .crane2 ((s.record .crane2).state == .slung) (lastSilence s .crane2)
    (abortedAttn .crane1 ((s.record .crane1).state == .slung) (lastSilence s .crane1) s.attn) r
  obtain ⟨hmask1, hmode1⟩ := abortedAttn_mask_mode .crane1 ((s.record .crane1).state == .slung) (lastSilence s .crane1) s.attn r
  exact ⟨hmask2.trans hmask1, hmode2.trans hmode1⟩

/-! ### The whole effect of OPEN DATA (R10, R11) -/

/-- An accepted OPEN DATA, field by field. -/
theorem openLoad_eq (s : State) : openLoad s =
    { ship := { s.ship with image := .blank, present := false, buffer := .blank, mode := .dataLoading, faultReason := none,
                            slotsUnloaded := true }
      cond := { items := [], density := 1025, version := 0, hold := [],
                comps := (s.cond.comps.mapVals (fun _ cs => { cs with load := 0, stow := [] })).filter (fun e => e.2 != .empty) }
      eval := ⟨none, none, s.eval.raiseClock, none, false, none, none, none, none, 0, none, 0, s.eval.routineMode,
               s.eval.interval, none⟩
      mon := ⟨Slot.allNone, 0, 0, .all [], false, none, 0⟩
      lines := ⟨false, false, false⟩
      lifts := (abortBoth s).lifts
      tanks := ⟨[], none, 0, 0⟩
      trials := ⟨[], false⟩
      ports := toldPorts s.cond.hold s.ports
      rate := s.rate
      attn :=
        let cleared := if s.mon.effective = none then (abortBoth s).attn
          else (abortBoth s).attn.map (AttnPort.raise .actionCleared)
        if s.ship.mode = .dataLoading then cleared else cleared.map (AttnPort.raise .serviceChange)
      pending := s.pending } := by
  have hemptied : emptyResults (abandonJobs (emptyCondition (eraseImage (abortBoth s)))) = { abortBoth s with
      ship := { s.ship with image := .blank, present := false, buffer := .blank, slotsUnloaded := true }
      cond := { items := [], density := 1025, version := 0, hold := s.cond.hold,
                comps := (s.cond.comps.mapVals (fun _ cs => { cs with load := 0, stow := [] })).filter (fun e => e.2 != .empty) }
      eval := ⟨none, none, s.eval.raiseClock, none, false, none, none, none, none, 0, none, 0, s.eval.routineMode,
               s.eval.interval, none⟩
      mon := { s.mon with lastJudged := 0 }
      tanks := ⟨[], none, 0, 0⟩
      trials := ⟨[], false⟩ } := by
    rw [abortBoth_frame]; rfl
  show changeMode .dataLoading none (settle (unloadSlots (rejectHeld
    (emptyResults (abandonJobs (emptyCondition (eraseImage (abortBoth s)))))))) = _
  rw [hemptied, rejectHeld_eq, settle_to (e := none) effectiveOf_allNone, attnAfter_none, changeMode_eq, abortBoth_frame]
  rfl

/-- Which causes the end of a SLUNG record leaves pending. -/
theorem mem_abortedAttn (c : Crane) (slung last : Bool) (a : PerPort AttnPort) (r : Port) (x : Cause) :
    x ∈ ((abortedAttn c slung last a).get r).pending ↔
      (x = .outcomeReady ∧ r = cranePort c ∧ slung = true) ∨
      (x ∈ (a.get r).pending ∧ ¬ (slung = true ∧ last = true ∧ x = .silentLift)) := by
  unfold abortedAttn
  cases slung with
  | false => simp
  | true =>
    by_cases hr : r = cranePort c
    · subst hr
      cases last
      · simp
      · simp only [if_true, PerPort.get_map, PerPort.get_modify_same, mem_pending_remove, mem_pending_raise]
        by_cases hx : x = .silentLift <;> simp [hx]
    · cases last
      · simp [PerPort.get_modify_other _ _ _ _ hr, hr]
      · simp [PerPort.get_modify_other _ _ _ _ hr, hr, and_comm]

/-- SILENT LIFT goes with the ends of the SLUNG records exactly when the last mark goes (R188). -/
theorem lastSilence_iff {s : State} (h : SlungHoldsLift s) :
    (((s.record .crane1).state == .slung) = true ∧ lastSilence s .crane1 = true ∨
      ((s.record .crane2).state == .slung) = true ∧ lastSilence s .crane2 = true) ↔
    s.anySilent = true ∧ (abortBoth s).anySilent = false := by
  have hsilent : ∀ r : LiftRecord, (abortedRecord r).silent = (r.silent && !(r.state == .slung)) := fun r => by
    unfold abortedRecord
    by_cases hs : r.state = .slung <;> simp [hs]
  rw [anySilent_eq s .crane1, anySilent_eq (abortBoth s) .crane1, abortBoth_record h, abortBoth_record h, hsilent, hsilent]
  unfold lastSilence otherCrane
  cases (s.record .crane1).silent <;> cases (s.record .crane2).silent <;> cases (s.record .crane1).state == .slung <;>
    cases (s.record .crane2).state == .slung <;> decide

/-- The causes that the ends of the SLUNG records leave pending (R124, R188). -/
theorem mem_abortBoth_attn {s : State} (h : SlungHoldsLift s) (r : Port) (x : Cause) :
    x ∈ ((abortBoth s).attn.get r).pending ↔
      (x = .outcomeReady ∧ ∃ c, r = cranePort c ∧ (s.record c).state = .slung) ∨
      (x ∈ (s.attn.get r).pending ∧ (x = .silentLift → s.anySilent = true → (abortBoth s).anySilent = true)) := by
  have hlast := lastSilence_iff h
  have hcranes : (∃ c, r = cranePort c ∧ (s.record c).state = .slung) ↔
      (r = cranePort .crane1 ∧ ((s.record .crane1).state == .slung) = true) ∨
      (r = cranePort .crane2 ∧ ((s.record .crane2).state == .slung) = true) := by
    simp only [beq_iff_eq]
    exact ⟨fun ⟨c, hc⟩ => by cases c <;> simp [hc], fun hc => hc.elim (fun x => ⟨_, x⟩) (fun x => ⟨_, x⟩)⟩
  rw [abortBoth_attn h, mem_abortedAttn, mem_abortedAttn, hcranes]
  by_cases hx : x = .silentLift
  · subst hx
    rw [← Bool.not_eq_true] at hlast
    simp only [reduceCtorEq, false_and, false_or, and_true, true_implies]
    rw [and_assoc, ← not_or, hlast, not_and_not_right]
  · simp only [hx, and_false, not_false_eq_true, and_true, false_implies]
    rw [← or_assoc, ← and_or_left, or_comm (a := r = cranePort .crane2 ∧ _)]

/-- A compartment emptied keeps its open flag alone (R10, log 22). -/
theorem comp_emptied (t : Table CompState) (h : t.Rising) (n : Nat) :
    Table.value CompState.empty n
      ((t.mapVals (fun _ cs => { cs with load := 0, stow := [] })).filter (fun e => e.2 != CompState.empty)) =
      ⟨(t.value .empty n).flag, 0, []⟩ := by
  rw [Table.value_filter _ _ (Table.rising_mapVals _ h)]
  simp only [Table.value, Table.find_mapVals]
  cases t.find n <;> rfl

/-! ### OPEN DATA (R10, R11) -/

/-- Outside VERIFY every service mode accepts OPEN DATA (R15). -/
theorem modeAnswer_openData {m : ServiceMode} (h : m ≠ .verify) : modeAnswer m .openData = none := by
  cases m
  case verify => exact absurd rfl h
  all_goals rfl

/-- A record refuses OPEN DATA while it is active, but for SLUNG in DATA FAULT (R10). -/
theorem blocksOpen_iff (m : ServiceMode) (r : LiftRecord) :
    blocksOpen m r = true ↔ liftActive r = true ∧ ¬ (m = .dataFault ∧ r.state = .slung) := by
  unfold blocksOpen
  simp [imp_iff_not_or]

/-- OPEN DATA is refused LIFTS ACTIVE exactly while some record blocks it. -/
theorem blocked_iff (s : State) :
    (blocksOpen s.ship.mode s.lifts.records.c1 || blocksOpen s.ship.mode s.lifts.records.c2) = true ↔
      ∃ c, liftActive (s.record c) = true ∧ ¬ (s.ship.mode = .dataFault ∧ (s.record c).state = .slung) := by
  rw [Bool.or_eq_true, blocksOpen_iff, blocksOpen_iff]
  constructor
  · rintro (h | h)
    · exact ⟨.crane1, h⟩
    · exact ⟨.crane2, h⟩
  · rintro ⟨c, h⟩
    cases c
    · exact .inl h
    · exact .inr h

/-- An OPEN DATA that is refused is answered and changes nothing (R10). -/
theorem request_openData_refused {tag : Byte} {s : State} {st : Status} (h : Ready s .portP) (hm : s.ship.mode ≠ .verify)
    (hf : openFault s = some st) :
    request .portP tag .openData s = { s with ports := answeredPorts s .portP .openData tag ⟨st, .statusOnly⟩ } := by
  have hrefuse : ∀ q t, openFault t = some st → takeOpenData q t = answer q (bare st) t := fun q t ht => by
    unfold takeOpenData; rw [ht]
  exact request_answered h (fun hv => absurd hv hm) rfl (modeAnswer_openData hm) (hrefuse _ _ hf)

/-- An OPEN DATA that is accepted answers after its load has begun, and the arbiter does not act (R10, R80). -/
theorem request_openData_accepted {tag : Byte} {s : State} (h : Ready s .portP) (hm : s.ship.mode ≠ .verify)
    (hf : openFault s = none) :
    let q := nextCaller s .portP (kindByte .openData) tag
    request .portP tag .openData s = answer q (bare .done) (openLoad (openRequest q s)) := by
  intro q
  have htaken : request .portP tag .openData s = arbitrate s.eval (takeOpenData q (openRequest q s)) :=
    request_taken h (fun hv => absurd hv hm) rfl (modeAnswer_openData hm)
  have hserve : takeOpenData q (openRequest q s) = answer q (bare .done) (openLoad (openRequest q s)) := by
    unfold takeOpenData
    rw [show openFault (openRequest q s) = none from hf]
  rw [htaken, hserve, arbitrate_outside]
  rw [answer_ship, openLoad_eq]
  simp

/-- The outstanding request and the next mark of a port play no part in what it is told. -/
theorem toldNotServed_opened (hold : List Held) (r : Port) (q : PortState) (o : Option Caller) (n : Nat) :
    toldNotServed hold r { q with outstanding := o, nextMark := n } =
      { toldNotServed hold r q with outstanding := o, nextMark := n } := by
  obtain ⟨rx, outstanding, deferred, tx, counters, nextMark⟩ := q
  unfold toldNotServed
  cases deferred with
  | none => rfl
  | some c => dsimp only; split <;> rfl

/-- Being told leaves the mark of a port's next request. -/
theorem toldNotServed_nextMark (hold : List Held) (r : Port) (q : PortState) :
    (toldNotServed hold r q).nextMark = q.nextMark := by
  unfold toldNotServed
  cases q.deferred with
  | none => rfl
  | some c => dsimp only; split <;> rfl

/-- The ports after an accepted OPEN DATA: the held changes told first, and then the request answered (R11, R183). -/
theorem openData_ports (hold : List Held) (tag : Byte) (s : State) :
    let q := nextCaller s .portP (kindByte .openData) tag
    (toldPorts hold (openRequest q s).ports).modify .portP (fun x =>
        { x with tx := x.tx ++ [⟨⟨replyKind q.kind, q.tag, bare .done⟩, some q.mark⟩] }) =
      answeredPorts { s with ports := toldPorts hold s.ports } .portP .openData tag ⟨.done, .statusOnly⟩ := by
  intro q
  have hp : (toldPorts hold (openRequest q s).ports).p =
      { toldNotServed hold .portP s.ports.p with outstanding := some q, nextMark := s.ports.p.nextMark + 1 } :=
    toldNotServed_opened hold .portP s.ports.p _ _
  have hmark := toldNotServed_nextMark hold .portP s.ports.p
  unfold answeredPorts PerPort.modify nextCaller
  simp only [PerPort.get, PerPort.set, hp]
  simp only [toldPorts, hmark]
  rfl

/-- Settles O11: the two refusals, and the fields of the load that `openLoad_eq` and the laws of the ended records give. -/
theorem openDataBeginsALoad : Obligations.OpenDataBeginsALoad := by
  intro tag s h hm blocked
  have hrun : exec (.openData .portP tag) s = .next (request .portP tag .openData s) := rfl
  refine ⟨fun hc => ?_, fun hc hb => ?_, fun hc hb hslung => ?_⟩
  · have hf : openFault s = some .notReady := if_pos hc
    rw [hrun, request_openData_refused h hm hf]; rfl
  · have hf : openFault s = some .liftsActive := by
      unfold openFault
      rw [if_neg (by simp [hc]), if_pos ((blocked_iff s).2 hb)]
    rw [hrun, request_openData_refused h hm hf]; rfl
  · have hf : openFault s = none := by
      unfold openFault
      rw [if_neg (by simp [hc]), if_neg (fun x => hb ((blocked_iff s).1 x))]
    let q := nextCaller s .portP (kindByte .openData) tag
    have hload := openLoad_eq (openRequest q s)
    have hs : SlungHoldsLift (openRequest q s) := hslung
    rw [hrun, request_openData_accepted h hm hf, hload]
    refine ⟨_, rfl, rfl, ⟨rfl, rfl, rfl, rfl⟩, fun hrising n => ?_, rfl, rfl, rfl, rfl, rfl, rfl, rfl,
      ?_, ?_, ?_, ?_, ?_, ?_, openData_ports s.cond.hold tag s⟩
    · exact comp_emptied s.cond.comps hrising n
    · exact (abortSlung_waiting .crane2 _).trans (abortSlung_waiting .crane1 _)
    · exact fun c l hc hl => ⟨(abortBoth_record hs c).trans (if_pos hc), abortBoth_ended hs hc hl⟩
    · exact fun c hc => ⟨(abortBoth_record hs c).trans (if_neg hc), abortBoth_ended_other hs hc⟩
    · intro r x
      refine (pending_entered s.mon.effective s.ship.mode .dataLoading _ r x).trans ?_
      rw [mem_abortBoth_attn hs]
      rfl
    · intro r
      obtain ⟨hmask, hmode⟩ := entered_mask_mode s.mon.effective s.ship.mode .dataLoading (abortBoth (openRequest q s)).attn r
      obtain ⟨hmask', hmode'⟩ := abortBoth_mask_mode hs r
      exact ⟨hmask.trans hmask', hmode.trans hmode'⟩
    · show (let cleared := if s.mon.effective = none then (abortBoth (openRequest q s)).attn
          else (abortBoth (openRequest q s)).attn.map (AttnPort.raise .actionCleared)
        if s.ship.mode = .dataLoading then cleared else cleared.map (AttnPort.raise .serviceChange)) = _
      rw [abortBoth_attn hs]
      rfl

end Sys2Proof.Machine
end

section
namespace Sys2Proof.Machine
open Sys2Proof

/-! ### The ranges of R2 to R8 -/

/-- `within` is the two inequalities. -/
@[simp] theorem within_iff (lo hi v : Int) : within lo hi v = true ↔ lo ≤ v ∧ v ≤ hi := by simp [within]

/-- The ranges of PARTICULARS (R2). -/
def GoodParticulars (p : Particulars) : Prop :=
  2000 ≤ p.lbp ∧ p.lbp ≤ 19000 ∧ 0 ≤ p.rangeStart ∧ p.rangeStart ≤ 15 ∧ 0 ≤ p.rangeStop ∧ p.rangeStop ≤ 15

/-- The ranges of a LIGHTSHIP BLOCK (R3). -/
def GoodBlock (r : LightshipBlock) : Prop := 0 ≤ r.mass ∧ r.mass ≤ 1000000 ∧ -500 ≤ r.xAft ∧ r.xAft ≤ r.xFore ∧
  r.xFore ≤ 19500 ∧ -2500 ≤ r.y ∧ r.y ≤ 2500 ∧ 0 ≤ r.z ∧ r.z ≤ 5000

/-- The ranges of a HYDRO ROW (R4). -/
def GoodRow (lbp : Int) (r : HydroRow) : Prop := 0 ≤ r.t ∧ r.t ≤ 5000 ∧ 1 ≤ r.d ∧ r.d ≤ 4000000 ∧ -500 ≤ r.lcb ∧
  r.lcb ≤ 19500 ∧ 0 ≤ r.lcf ∧ r.lcf ≤ lbp ∧ 0 ≤ r.km ∧ r.km ≤ 10000 ∧ 1 ≤ r.mtc ∧ r.mtc ≤ 100000000 ∧
  ∀ v ∈ [r.kn10, r.kn20, r.kn30, r.kn40, r.kn50, r.kn60], -2500 ≤ v ∧ v ≤ 10000

/-- The ranges of a STATION (R5). -/
def GoodStation (lbp : Int) (r : Station) : Prop := 0 ≤ r.x ∧ r.x ≤ lbp ∧ 0 ≤ r.f ∧ r.f ≤ 10000 ∧ -10000 ≤ r.k ∧
  r.k ≤ 10000 ∧ 0 ≤ r.l ∧ r.l ≤ 19500 ∧ 1 ≤ r.sp ∧ r.sp ≤ 4000000 ∧ 1 ≤ r.bp ∧ r.bp ≤ 400000000

/-- The ranges of a COMPARTMENT (R6). -/
def GoodComp (r : CompRecord) : Prop := -500 ≤ r.xAft ∧ r.xAft < r.xFore ∧ r.xFore ≤ 19500 ∧ -2500 ≤ r.yMin ∧
  r.yMin < r.yMax ∧ r.yMax ≤ 2500 ∧ 0 ≤ r.zFloor ∧ r.zFloor < r.zTop ∧ r.zTop ≤ 5000 ∧
  (∀ k m, r.use = .stow k m → 1 ≤ m ∧ m ≤ 1000000) ∧
  (∀ m cx cy fsm, r.use = .tank m cx cy fsm → 1 ≤ m ∧ m ≤ 1000000 ∧ r.xAft ≤ cx ∧ cx ≤ r.xFore ∧ r.yMin ≤ cy ∧
    cy ≤ r.yMax ∧ 0 ≤ fsm ∧ fsm ≤ 100000000)

/-- The ranges of a CRITERION DEFAULT (R7). -/
def GoodCriterion (r : CriterionRecord) : Prop := 0 ≤ r.code ∧ r.code ≤ 14 ∧ (r.code ≠ 0 → -1000000 ≤ r.limit ∧
  r.limit ≤ 1000000 ∧ 0 ≤ r.hyst ∧ r.hyst ≤ 100000 ∧ 1 ≤ r.n ∧ r.n ≤ 8 ∧ 0 ≤ r.action ∧ r.action ≤ 3)

/-- The ranges of TIMERS (R8). -/
def GoodTimers (t : Timers) : Prop := 2 ≤ t.joinWindow ∧ t.joinWindow ≤ 30 ∧ 10 ≤ t.grantLapse ∧ t.grantLapse ≤ 600 ∧
  2 ≤ t.report ∧ t.report ≤ 60 ∧ 5 ≤ t.freshness ∧ t.freshness ≤ 120

theorem particulars_ok_iff (p : Particulars) : p.ok = true ↔ GoodParticulars p := by
  simp [Particulars.ok, GoodParticulars, and_assoc]

theorem block_ok_iff (r : LightshipBlock) : r.ok = true ↔ GoodBlock r := by
  simp only [LightshipBlock.ok, GoodBlock, Bool.and_eq_true, within_iff]
  omega

theorem row_ok_iff (lbp : Int) (r : HydroRow) : r.ok lbp = true ↔ GoodRow lbp r := by
  simp only [HydroRow.ok, GoodRow, Bool.and_eq_true, within_iff, List.all_eq_true, and_assoc]

theorem station_ok_iff (lbp : Int) (r : Station) : r.ok lbp = true ↔ GoodStation lbp r := by
  simp only [Station.ok, GoodStation, Bool.and_eq_true, within_iff, and_assoc]

theorem comp_ok_iff (r : CompRecord) : r.ok = true ↔ GoodComp r := by
  obtain ⟨xAft, xFore, yMin, yMax, zFloor, zTop, use⟩ := r
  cases use with
  | stow k m =>
    have hstow : (∀ k' m', CompUse.stow k m = .stow k' m' → 1 ≤ m' ∧ m' ≤ 1000000) ↔ 1 ≤ m ∧ m ≤ 1000000 :=
      ⟨fun h => h k m rfl, fun h _ _ e => (CompUse.stow.inj e).2 ▸ h⟩
    simp only [CompRecord.ok, GoodComp, Bool.and_eq_true, within_iff, hstow, reduceCtorEq, false_implies, implies_true,
      and_true]
    omega
  | tank m cx cy fsm =>
    have htank : (∀ m' cx' cy' fsm', CompUse.tank m cx cy fsm = .tank m' cx' cy' fsm' → 1 ≤ m' ∧ m' ≤ 1000000 ∧
        xAft ≤ cx' ∧ cx' ≤ xFore ∧ yMin ≤ cy' ∧ cy' ≤ yMax ∧ 0 ≤ fsm' ∧ fsm' ≤ 100000000) ↔
        1 ≤ m ∧ m ≤ 1000000 ∧ xAft ≤ cx ∧ cx ≤ xFore ∧ yMin ≤ cy ∧ cy ≤ yMax ∧ 0 ≤ fsm ∧ fsm ≤ 100000000 :=
      ⟨fun h => h m cx cy fsm rfl, fun h _ _ _ _ e => by cases e; exact h⟩
    simp only [CompRecord.ok, GoodComp, Bool.and_eq_true, within_iff, htank, reduceCtorEq, false_implies, implies_true,
      true_and]
    omega

theorem criterion_ok_iff (r : CriterionRecord) : r.ok = true ↔ GoodCriterion r := by
  simp only [CriterionRecord.ok, GoodCriterion, Bool.and_eq_true, Bool.or_eq_true, within_iff, decide_eq_true_eq]
  omega

theorem timers_ok_iff (t : Timers) : t.ok = true ↔ GoodTimers t := by
  simp only [Timers.ok, GoodTimers, Bool.and_eq_true, within_iff, and_assoc]

/-! ### The count and gap test (R13) -/

/-- The lowest missing index is not among rising keys. -/
theorem lowestMissing_notMem {i : Nat} {ks : List Nat} (h : ks.Pairwise (· < ·)) (hi : ∀ k ∈ ks, i ≤ k) :
    lowestMissing i ks ∉ ks ∧ i ≤ lowestMissing i ks := by
  induction ks generalizing i with
  | nil => simp [lowestMissing]
  | cons k ks ih =>
    obtain ⟨hk, hks⟩ := List.pairwise_cons.1 h
    unfold lowestMissing
    split
    · next heq =>
      subst heq
      obtain ⟨hnot, hle⟩ := ih (i := k + 1) hks fun x hx => hk x hx
      exact ⟨fun hmem => (List.mem_cons.1 hmem).elim (by omega) hnot, by omega⟩
    · next hne =>
      have hlt : i < k := lt_of_le_of_ne (hi k List.mem_cons_self) (Ne.symm hne)
      refine ⟨fun hmem => ?_, le_rfl⟩
      rcases List.mem_cons.1 hmem with rfl | hmem
      · exact hne rfl
      · exact absurd (hk i hmem) (by omega)

/-- Every index below the lowest missing one is a key. -/
theorem mem_of_lt_lowestMissing {i j : Nat} {ks : List Nat} (hij : i ≤ j) (hj : j < lowestMissing i ks) : j ∈ ks := by
  induction ks generalizing i with
  | nil => exact absurd hj (by simp only [lowestMissing]; omega)
  | cons k ks ih =>
    unfold lowestMissing at hj
    split at hj
    · next heq =>
      subst heq
      rcases Nat.eq_or_lt_of_le hij with rfl | hlt
      · exact List.mem_cons_self
      · exact List.mem_cons_of_mem _ (ih hlt hj)
    · omega

/-- No index is missing below the number of keys exactly when the keys are the first indices. -/
theorem lowestMissing_eq_length (i : Nat) (ks : List Nat) :
    lowestMissing i ks = i + ks.length ↔ ks = List.range' i ks.length := by
  induction ks generalizing i with
  | nil => simp [lowestMissing]
  | cons k ks ih =>
    unfold lowestMissing
    rw [List.length_cons, List.range'_succ]
    split
    · next heq =>
      subst heq
      rw [List.cons_inj_right, ← ih (k + 1)]
      omega
    · next hne =>
      refine ⟨fun h => by omega, fun h => absurd (List.cons.inj h).1 hne⟩

/-- A key above the lowest missing index is there exactly when the keys are not the first indices. -/
theorem exists_above_lowestMissing {i : Nat} {ks : List Nat} (h : ks.Pairwise (· < ·)) (hi : ∀ k ∈ ks, i ≤ k) :
    (∃ k ∈ ks, lowestMissing i ks < k) ↔ lowestMissing i ks ≠ i + ks.length := by
  induction ks generalizing i with
  | nil => simp [lowestMissing]
  | cons k ks ih =>
    obtain ⟨hk, hks⟩ := List.pairwise_cons.1 h
    unfold lowestMissing
    split
    · next heq =>
      subst heq
      have hle := (lowestMissing_notMem (i := k + 1) hks fun x hx => hk x hx).2
      rw [List.length_cons, show k + (ks.length + 1) = k + 1 + ks.length by omega, ← ih (i := k + 1) hks fun x hx => hk x hx]
      exact ⟨fun ⟨x, hx, hlt⟩ => (List.mem_cons.1 hx).elim (by omega) fun hx => ⟨x, hx, hlt⟩,
        fun ⟨x, hx, hlt⟩ => ⟨x, List.mem_cons_of_mem _ hx, hlt⟩⟩
    · next hne =>
      have hlt : i < k := lt_of_le_of_ne (hi k List.mem_cons_self) (Ne.symm hne)
      exact ⟨fun _ => by simp, fun _ => ⟨k, List.mem_cons_self, hlt⟩⟩

/-- An index at which a required record is missing, the lowest: not a key, every lower index a key, and required because
the kind has too few records or a later one (R13). -/
def Missing (keys : List Nat) (least i : Nat) : Prop := i ∉ keys ∧ (∀ j, j < i → j ∈ keys) ∧ (i < least ∨ ∃ k ∈ keys, i < k)

/-- The count and gap test, with its index written out. -/
theorem countFault_def {α : Type} (least : Nat) (t : Table α) : countFault least t =
    if lowestMissing 0 t.keys = t.length ∧ least ≤ t.length then none else some (lowestMissing 0 t.keys) := rfl

/-- The count and gap test reports the lowest index at which a required record is missing (R13). -/
theorem countFault_eq_some {α : Type} {least i : Nat} {t : Table α} (h : t.Rising) :
    countFault least t = some i ↔ Missing t.keys least i := by
  obtain ⟨hnot, -⟩ := lowestMissing_notMem (i := 0) h fun _ _ => Nat.zero_le _
  have habove := exists_above_lowestMissing (i := 0) h fun _ _ => Nat.zero_le _
  have hlen : t.keys.length = t.length := List.length_map ..
  rw [Nat.zero_add, hlen] at habove
  have hmex : ∀ j, j ∉ t.keys → (∀ x, x < j → x ∈ t.keys) → j = lowestMissing 0 t.keys := fun j hj hbelow => by
    rcases Nat.lt_trichotomy j (lowestMissing 0 t.keys) with hlt | heq | hgt
    · exact absurd (mem_of_lt_lowestMissing (Nat.zero_le _) hlt) hj
    · exact heq
    · exact absurd (hbelow _ hgt) hnot
  have hrequired : (lowestMissing 0 t.keys < least ∨ ∃ k ∈ t.keys, lowestMissing 0 t.keys < k) ↔
      ¬ (lowestMissing 0 t.keys = t.length ∧ least ≤ t.length) := by
    rw [habove]; omega
  rw [countFault_def]
  constructor
  · intro hf
    split at hf
    · cases hf
    · next hbad =>
      cases hf
      exact ⟨hnot, fun j hj => mem_of_lt_lowestMissing (Nat.zero_le _) hj, hrequired.2 hbad⟩
  · rintro ⟨hi, hbelow, hreq⟩
    have heq := hmex i hi hbelow
    subst heq
    exact if_neg (hrequired.1 hreq)

/-- The count and gap test passes exactly when the keys are the first indices and the kind has enough records (R13). -/
theorem countFault_eq_none {α : Type} {least : Nat} {t : Table α} :
    countFault least t = none ↔ t.keys = List.range t.length ∧ least ≤ t.length := by
  have hlen : t.keys.length = t.length := List.length_map ..
  have hrange := lowestMissing_eq_length 0 t.keys
  rw [Nat.zero_add, hlen, ← List.range_eq_range'] at hrange
  rw [countFault_def, ← hrange]
  split
  · next h => exact ⟨fun _ => h, fun _ => rfl⟩
  · next h => exact ⟨fun x => (by cases x), fun x => absurd x h⟩

/-! ### The range and order tests (R13, log 18) -/

/-- The value that stands before key `k` in a table: that of the entry before it, or `before` for the first entry. -/
def Table.previous {α : Type} (k : Nat) : Option α → Table α → Option α
  | before, [] => before
  | before, (j, v) :: rest => if j = k then before else Table.previous k (some v) rest

/-- A record that fails its own test or does not exceed the one before it. -/
def BadAt {α : Type} (ok : α → Bool) (exceeds : α → α → Bool) (before : Option α) (t : Table α) (i : Nat) : Prop :=
  ∃ r, t.find i = some r ∧ (ok r = false ∨ ∃ q, t.previous i before = some q ∧ exceeds r q = false)

/-- The lowest index that a property holds of. -/
def FirstBad (bad : Nat → Prop) (i : Nat) : Prop := bad i ∧ ∀ j, j < i → ¬ bad j

/-- Whether a record passes its own test and exceeds the one before it. -/
theorem orderFault_cons {α : Type} (ok : α → Bool) (exceeds : α → α → Bool) (before : Option α) (j : Nat) (r : α)
    (rest : Table α) : orderFault ok exceeds before ((j, r) :: rest) =
      if ok r = true ∧ ∀ q, before = some q → exceeds r q = true then orderFault ok exceeds (some r) rest else some j := by
  cases before <;> simp [orderFault]

/-- The order test reports the first record that fails its own test or does not exceed the one before it (log 18). -/
theorem orderFault_eq_some {α : Type} {ok : α → Bool} {exceeds : α → α → Bool} {before : Option α} {t : Table α} {i : Nat}
    (h : t.Rising) : orderFault ok exceeds before t = some i ↔ FirstBad (BadAt ok exceeds before t) i := by
  induction t generalizing before with
  | nil => exact ⟨fun x => (by cases x), fun ⟨⟨r, hr, _⟩, _⟩ => (by cases hr)⟩
  | cons e rest ih =>
    obtain ⟨j, r⟩ := e
    obtain ⟨hj, hrest⟩ := List.pairwise_cons.1 h
    have hhead : BadAt ok exceeds before ((j, r) :: rest) j ↔
        ¬ (ok r = true ∧ ∀ q, before = some q → exceeds r q = true) := by
      unfold BadAt Table.previous Table.find
      simp only [if_true, Option.some.injEq, exists_eq_left']
      by_cases hok : ok r = true <;> simp [hok]
    have htail : ∀ k, k ≠ j → (BadAt ok exceeds before ((j, r) :: rest) k ↔ BadAt ok exceeds (some r) rest k) := fun k hk => by
      unfold BadAt
      rw [Table.find, if_neg (Ne.symm hk), Table.previous, if_neg (Ne.symm hk)]
    have habsent : ∀ k, k ≤ j → ¬ BadAt ok exceeds (some r) rest k := fun k hk ⟨v, hv, _⟩ => by
      have := hj k (List.mem_map_of_mem (f := Prod.fst) (Table.mem_of_find hv))
      omega
    rw [orderFault_cons]
    by_cases hgood : ok r = true ∧ ∀ q, before = some q → exceeds r q = true
    · rw [if_pos hgood, ih hrest]
      have hsame : ∀ k, BadAt ok exceeds before ((j, r) :: rest) k ↔ BadAt ok exceeds (some r) rest k := fun k => by
        by_cases hk : k = j
        · subst hk
          exact iff_of_false (fun x => hhead.1 x hgood) (habsent k le_rfl)
        · exact htail k hk
      unfold FirstBad
      simp only [hsame]
    · rw [if_neg hgood, Option.some.injEq]
      have hbelow : ∀ k, k < j → ¬ BadAt ok exceeds before ((j, r) :: rest) k := fun k hk x =>
        habsent k hk.le ((htail k (by omega)).1 x)
      constructor
      · rintro rfl
        exact ⟨hhead.2 hgood, hbelow⟩
      · rintro ⟨hbad, hfirst⟩
        by_contra hne
        rcases Nat.lt_or_gt_of_ne hne with hlt | hgt
        · exact hfirst j hlt (hhead.2 hgood)
        · exact hbelow i hgt hbad

/-- The order test passes exactly when every record passes its own test and exceeds the one before it. -/
theorem orderFault_eq_none {α : Type} {ok : α → Bool} {exceeds : α → α → Bool} {before : Option α} {t : Table α} :
    orderFault ok exceeds before t = none ↔ (∀ e ∈ t, ok e.2 = true) ∧
      (before.toList ++ t.map Prod.snd).IsChain (fun q r => exceeds r q = true) := by
  induction t generalizing before with
  | nil => cases before <;> simp [orderFault]
  | cons e rest ih =>
    obtain ⟨j, r⟩ := e
    rw [orderFault_cons]
    have hchain : (before.toList ++ r :: rest.map Prod.snd).IsChain (fun q r => exceeds r q = true) ↔
        (∀ q, before = some q → exceeds r q = true) ∧ (r :: rest.map Prod.snd).IsChain (fun q r => exceeds r q = true) := by
      cases before <;> simp [List.isChain_cons_cons]
    by_cases hgood : ok r = true ∧ ∀ q, before = some q → exceeds r q = true
    · rw [if_pos hgood, ih]
      simp only [List.forall_mem_cons, List.map_cons, hchain, Option.toList_some, List.singleton_append]
      tauto
    · rw [if_neg hgood]
      simp only [List.forall_mem_cons, List.map_cons, hchain, reduceCtorEq, false_iff]
      tauto

/-- Between the entries of keys numbered from `n` on, the value before a key is that of the key before it. -/
theorem Table.previous_numbered {α : Type} {t : Table α} {n k : Nat} {before : Option α}
    (h : t.keys = List.range' n t.length) (hk : k ∈ t.keys) :
    t.previous k before = if k = n then before else t.find (k - 1) := by
  induction t generalizing n before with
  | nil => cases hk
  | cons e rest ih =>
    obtain ⟨j, v⟩ := e
    have hkeys : j = n ∧ Table.keys rest = List.range' (n + 1) rest.length := by
      simpa only [Table.keys, List.map_cons, List.length_cons, List.range'_succ, List.cons.injEq] using h
    obtain ⟨rfl, hrest⟩ := hkeys
    by_cases hkj : k = j
    · subst hkj; simp [Table.previous]
    · have hmem : k ∈ Table.keys rest := (List.mem_cons.1 hk).resolve_left hkj
      have hge : j + 1 ≤ k := by
        rw [hrest] at hmem
        exact (List.mem_range'_1.1 hmem).1
      rw [Table.previous, if_neg (Ne.symm hkj), if_neg hkj, ih hrest hmem]
      by_cases hnext : k = j + 1
      · subst hnext; simp [Table.find]
      · rw [if_neg hnext, Table.find, if_neg (by omega)]

/-! ### What each test reports (R13) -/

/-- The failure of a kind numbered without gaps: first a missing record, and with none missing the first bad one. -/
def Numbered (keys : List Nat) (least : Nat) (bad : Nat → Prop) (i : Nat) : Prop :=
  Missing keys least i ∨ ((∀ j, ¬ Missing keys least j) ∧ FirstBad bad i)

/-- A test reports one failure at most: always its own reason and kind, and the index of which `e.2.2` holds. -/
def Reports (o : Option ImageFault) (e : FaultReason × Nat × (Nat → Prop)) : Prop :=
  ∀ reason kind index, o = some (reason, kind, index) ↔ reason = e.1 ∧ kind = e.2.1 ∧ e.2.2 index

/-- A test that reports passes exactly when no index fails. -/
theorem Reports.eq_none_iff {o : Option ImageFault} {e : FaultReason × Nat × (Nat → Prop)} (h : Reports o e) :
    o = none ↔ ∀ j, ¬ e.2.2 j := by
  constructor
  · rintro rfl j hj
    exact absurd ((h e.1 e.2.1 j).2 ⟨rfl, rfl, hj⟩) (by simp)
  · intro hall
    cases ho : o with
    | none => rfl
    | some x => exact absurd ((h x.1 x.2.1 x.2.2).1 ho).2.2 (hall _)

/-- Of tests made in order the first that fails reports (R13). -/
theorem foldr_or_eq_some {os : List (Option ImageFault)} {es : List (FaultReason × Nat × (Nat → Prop))}
    (h : List.Forall₂ Reports os es) (reason : FaultReason) (kind index : Nat) :
    os.foldr Option.or none = some (reason, kind, index) ↔
      ∃ (n : Nat) (fails : Nat → Prop), es[n]? = some (reason, kind, fails) ∧ fails index ∧
        ∀ (m : Nat) (e : FaultReason × Nat × (Nat → Prop)), m < n → es[m]? = some e → ∀ j, ¬ e.2.2 j := by
  induction h with
  | nil => simp
  | @cons o e os es ho _ ih =>
    rw [List.foldr_cons]
    cases hcase : o with
    | none =>
      have hpass := ho.eq_none_iff.1 hcase
      rw [Option.none_or, ih]
      constructor
      · rintro ⟨n, fails, hn, hi, hbefore⟩
        refine ⟨n + 1, fails, hn, hi, fun m x hm hx => ?_⟩
        cases m with
        | zero => cases hx; exact hpass
        | succ m => exact hbefore m x (by omega) hx
      · rintro ⟨n, fails, hn, hi, hbefore⟩
        cases n with
        | zero => cases hn; exact absurd hi (hpass index)
        | succ n => exact ⟨n, fails, hn, hi, fun m x hm hx => hbefore (m + 1) x (by omega) hx⟩
    | some x =>
      rw [Option.some_or, ← hcase, ho]
      constructor
      · rintro ⟨rfl, rfl, hi⟩
        exact ⟨0, e.2.2, rfl, hi, fun m x hm => by omega⟩
      · rintro ⟨n, fails, hn, hi, hbefore⟩
        cases n with
        | zero => cases hn; exact ⟨rfl, rfl, hi⟩
        | succ n =>
          have hfails := ((ho x.1 x.2.1 x.2.2).1 hcase).2.2
          exact absurd hfails (hbefore 0 e (by omega) rfl _)

/-- A test of one record, reported at index 0. -/
theorem Reports.ofSingle {o : Option ImageFault} {c : Prop} {reason : FaultReason} {kind : Nat}
    (hfails : c → o = some (reason, kind, 0)) (hpasses : ¬ c → o = none) : Reports o (reason, kind, fun i => i = 0 ∧ c) := by
  intro r k i
  by_cases h : c
  · simp [hfails h, h, eq_comm]
  · simp [hpasses h, h]

/-- The same report with its indices said otherwise. -/
theorem Reports.congr {o : Option ImageFault} {reason : FaultReason} {kind : Nat} {f g : Nat → Prop}
    (h : Reports o (reason, kind, f)) (hfg : ∀ i, f i ↔ g i) : Reports o (reason, kind, g) := by
  intro r k i
  rw [h r k i]
  simp only [hfg]

/-- Two tests of one kind, the second made where the first passes. -/
theorem Reports.or {o p : Option ImageFault} {reason : FaultReason} {kind : Nat} {f g : Nat → Prop}
    (ho : Reports o (reason, kind, f)) (hp : Reports p (reason, kind, g)) :
    Reports (o.or p) (reason, kind, fun i => f i ∨ ((∀ j, ¬ f j) ∧ g i)) := by
  intro r k i
  cases hcase : o with
  | none =>
    have hpass := ho.eq_none_iff.1 hcase
    rw [Option.none_or, hp r k i]
    simp only [] at hpass ⊢
    simp [hpass]
  | some x =>
    have hfails := ((ho x.1 x.2.1 x.2.2).1 hcase).2.2
    rw [Option.some_or, ← hcase, ho r k i]
    have hnot : ¬ ∀ j, ¬ f j := fun hall => hall _ hfails
    simp only [hnot, false_and, or_false]

/-- The range and order test of a kind, as a report. -/
theorem Reports.ofOrder {α : Type} {ok : α → Bool} {exceeds : α → α → Bool} {t : Table α} (reason : FaultReason) (kind : Nat)
    (h : t.Rising) : Reports ((orderFault ok exceeds none t).map (fun i => (reason, kind, i)))
      (reason, kind, FirstBad (BadAt ok exceeds none t)) := by
  intro r k i
  simp only [← orderFault_eq_some h, Option.map_eq_some_iff, Prod.mk.injEq]
  constructor
  · rintro ⟨j, hj, rfl, rfl, rfl⟩
    exact ⟨rfl, rfl, hj⟩
  · rintro ⟨rfl, rfl, hi⟩
    exact ⟨i, hi, rfl, rfl, rfl⟩

/-- A kind in which no record is missing has the first indices as its keys. -/
theorem keys_of_noneMissing {α : Type} {least : Nat} {t : Table α} (h : t.Rising) (hm : ∀ j, ¬ Missing t.keys least j) :
    t.keys = List.range t.length := by
  have hnone : countFault least t = none := by
    cases hf : countFault least t with
    | none => rfl
    | some j => exact absurd ((countFault_eq_some h).1 hf) (hm j)
  exact (countFault_eq_none.1 hnone).1

/-- A bad record of a kind numbered without gaps, in the terms of the manual. -/
def NumberedBad {α : Type} (good : α → Prop) (notAbove : α → α → Prop) (t : Table α) (i : Nat) : Prop :=
  ∃ r, t.find i = some r ∧ (¬ good r ∨ ∃ q, 0 < i ∧ t.find (i - 1) = some q ∧ notAbove r q)

/-- Where the keys are the first indices, the record before a record is that of the index before. -/
theorem badAt_numbered {α : Type} {ok : α → Bool} {exceeds : α → α → Bool} {good : α → Prop} {notAbove : α → α → Prop}
    {t : Table α} (hok : ∀ r, ok r = true ↔ good r) (hex : ∀ r q, exceeds r q = false ↔ notAbove r q)
    (hkeys : t.keys = List.range t.length) (i : Nat) : BadAt ok exceeds none t i ↔ NumberedBad good notAbove t i := by
  unfold BadAt NumberedBad
  refine exists_congr fun r => and_congr_right fun hr => ?_
  have hmem : i ∈ t.keys := List.mem_map_of_mem (f := Prod.fst) (Table.mem_of_find hr)
  rw [Table.previous_numbered (n := 0) (by rw [hkeys, List.range_eq_range']) hmem, ← hok r, Bool.not_eq_true]
  simp only [hex]
  by_cases h0 : i = 0
  · simp [h0]
  · simp [h0, Nat.pos_of_ne_zero h0]

/-- The test of a kind numbered without gaps, as a report. -/
theorem Reports.ofKind {α : Type} {ok : α → Bool} {exceeds : α → α → Bool} {good : α → Prop} {notAbove : α → α → Prop}
    {t : Table α} (reason : FaultReason) (kind least : Nat) (h : t.Rising) (hok : ∀ r, ok r = true ↔ good r)
    (hex : ∀ r q, exceeds r q = false ↔ notAbove r q) :
    Reports (kindFault reason kind least ok exceeds t)
      (reason, kind, Numbered t.keys least (NumberedBad good notAbove t)) := by
  intro r k i
  unfold kindFault
  cases hcount : countFault least t with
  | some j =>
    have hj := (countFault_eq_some h).1 hcount
    have hnot : ¬ ∀ j, ¬ Missing t.keys least j := fun hall => hall j hj
    have honly : ∀ i, Missing t.keys least i ↔ i = j := fun i => by
      rw [← countFault_eq_some h, hcount, Option.some.injEq, eq_comm]
    have hnumbered : ∀ i, Numbered t.keys least (NumberedBad good notAbove t) i ↔ i = j := fun i => by
      unfold Numbered
      rw [or_iff_left fun x => hnot x.1]
      exact honly i
    refine Iff.trans ?_ (and_congr_right fun _ => and_congr_right fun _ => (hnumbered i).symm)
    rw [Option.some.injEq, Prod.mk.injEq, Prod.mk.injEq]
    exact ⟨fun ⟨a, b, c⟩ => ⟨a.symm, b.symm, c.symm⟩, fun ⟨a, b, c⟩ => ⟨a.symm, b.symm, c.symm⟩⟩
  | none =>
    have hnone : ∀ j, ¬ Missing t.keys least j := fun j hj => by
      rw [(countFault_eq_some h).2 hj] at hcount; cases hcount
    have hbad := badAt_numbered hok hex (keys_of_noneMissing h hnone)
    have hsame : ∀ i, FirstBad (BadAt ok exceeds none t) i ↔ Numbered t.keys least (NumberedBad good notAbove t) i := fun i => by
      unfold Numbered FirstBad
      simp only [hbad, hnone, false_or, not_false_eq_true, implies_true, true_and]
    simp only [← hsame]
    exact Reports.ofOrder reason kind h r k i

/-- A kind whose records are tested one by one, with no order between them, reports the first bad one. -/
theorem Reports.ofRecords {α : Type} {ok : α → Bool} {good : α → Prop} {t : Table α} (reason : FaultReason) (kind : Nat)
    (h : t.Rising) (hok : ∀ r, ok r = true ↔ good r) :
    Reports ((orderFault ok (fun _ _ => true) none t).map (fun i => (reason, kind, i)))
      (reason, kind, FirstBad (fun j => ∃ r, t.find j = some r ∧ ¬ good r)) := by
  refine (Reports.ofOrder reason kind h).congr fun i => ?_
  have hsame : ∀ j, BadAt ok (fun _ _ => true) none t j ↔ ∃ r, t.find j = some r ∧ ¬ good r := fun j => by
    simp [BadAt, ← hok]
  unfold FirstBad
  simp only [hsame]

/-- The seven tests in their order (R13). -/
theorem fault_eq_foldr (img : Image) : img.fault =
    [particularsFault img, lightshipFault img, hydroFault img, stationFault img, compFault img, criteriaFault img,
      timersFault img].foldr Option.or none := by
  simp [Image.fault, List.foldr]

/-- Test 1 as a report. -/
theorem particularsFault_reports (img : Image) : Reports (particularsFault img)
    (.particulars, 1, fun i => i = 0 ∧ ∀ p, img.particulars = some p → ¬ GoodParticulars p) := by
  unfold particularsFault
  cases img.particulars with
  | none => exact Reports.ofSingle (fun _ => rfl) (fun h => absurd (fun _ x => by cases x) h)
  | some p =>
    refine Reports.ofSingle (fun h => ?_) (fun h => ?_)
    · exact if_neg fun hp => h p rfl ((particulars_ok_iff p).1 hp)
    · simp only [Option.some.injEq, forall_eq', not_not] at h
      exact if_pos ((particulars_ok_iff p).2 h)

/-- Test 2 as a report: the records first, and then the total mass. -/
theorem lightshipFault_reports (img : Image) (h : img.blocks.Rising) : Reports (lightshipFault img)
    (.lightship, 2, fun i => Numbered img.blocks.keys 1 (fun j => ∃ r, img.blocks.find j = some r ∧ ¬ GoodBlock r) i ∨
      ((∀ j, ¬ Numbered img.blocks.keys 1 (fun j => ∃ r, img.blocks.find j = some r ∧ ¬ GoodBlock r) j) ∧ i = 0 ∧
        (img.blocks.map (fun e => e.2.mass)).sum = 0)) := by
  have hbad : NumberedBad GoodBlock (fun _ _ => False) img.blocks =
      fun j => ∃ r, img.blocks.find j = some r ∧ ¬ GoodBlock r := by
    funext j; simp [NumberedBad]
  have hkind := Reports.ofKind (exceeds := fun _ _ => true) .lightship 2 1 h block_ok_iff (notAbove := fun _ _ => False)
    (fun _ _ => by simp)
  rw [hbad] at hkind
  exact hkind.or (Reports.ofSingle (fun hc => if_pos hc) (fun hc => if_neg hc))

/-- Test 3 as a report. -/
theorem hydroFault_reports (img : Image) (h : img.rows.Rising) : Reports (hydroFault img) (.hydrostatics, 3,
    Numbered img.rows.keys 2 (NumberedBad (GoodRow img.lbp) (fun r q => r.t ≤ q.t ∨ r.d ≤ q.d) img.rows)) :=
  Reports.ofKind _ _ _ h (row_ok_iff _) fun r q => by
    rw [Bool.and_eq_false_iff, decide_eq_false_iff_not, decide_eq_false_iff_not, Int.not_lt, Int.not_lt]

/-- Test 4 as a report. -/
theorem stationFault_reports (img : Image) (h : img.stations.Rising) : Reports (stationFault img) (.stations, 4,
    Numbered img.stations.keys 2 (NumberedBad (GoodStation img.lbp) (fun r q => r.x ≤ q.x) img.stations)) :=
  Reports.ofKind _ _ _ h (station_ok_iff _) fun r q => by rw [decide_eq_false_iff_not, Int.not_lt]

/-- Test 5 as a report. -/
theorem compFault_reports (img : Image) (h : img.comps.Rising) : Reports (compFault img) (.compartments, 5,
    fun i => (img.comps = [] ∧ i = 0) ∨ FirstBad (fun j => ∃ r, img.comps.find j = some r ∧ ¬ GoodComp r) i) := by
  unfold compFault
  cases hc : img.comps with
  | nil =>
    have hempty : ∀ i, ¬ FirstBad (fun j => ∃ r, Table.find j ([] : Table CompRecord) = some r ∧ ¬ GoodComp r) i :=
      fun i ⟨⟨_, hr, _⟩, _⟩ => (by cases hr)
    refine (Reports.ofSingle (c := True) (fun _ => rfl) (fun x => absurd trivial x)).congr fun i => ?_
    simp [hempty i]
  | cons e rest =>
    refine (Reports.ofRecords _ _ (hc ▸ h) comp_ok_iff).congr fun i => ?_
    simp

/-- Test 6 as a report. -/
theorem criteriaFault_reports (img : Image) (h : img.criteria.Rising) : Reports (criteriaFault img)
    (.criteria, 6, FirstBad (fun j => ∃ r, img.criteria.find j = some r ∧ ¬ GoodCriterion r)) :=
  Reports.ofRecords _ _ h criterion_ok_iff

/-- Test 7 as a report. -/
theorem timersFault_reports (img : Image) : Reports (timersFault img)
    (.timers, 7, fun i => i = 0 ∧ ∃ t, img.timers = some t ∧ ¬ GoodTimers t) := by
  unfold timersFault
  cases img.timers with
  | none => exact Reports.ofSingle (fun ⟨_, x, _⟩ => (by cases x)) (fun _ => rfl)
  | some t =>
    refine Reports.ofSingle (fun ⟨u, hu, hbad⟩ => ?_) (fun h => ?_)
    · cases hu
      exact if_neg fun ht => hbad ((timers_ok_iff t).1 ht)
    · simp only [Option.some.injEq, exists_eq_left', not_not] at h
      exact if_pos ((timers_ok_iff t).2 h)

/-! ### Which images pass (R13, tests 1 to 7) -/

/-- A kind numbered without gaps passes exactly when it is complete, every record is good, and each exceeds the one before. -/
theorem kindFault_eq_none {α : Type} {reason : FaultReason} {kind least : Nat} {ok : α → Bool} {exceeds : α → α → Bool}
    {t : Table α} : kindFault reason kind least ok exceeds t = none ↔
      t.keys = List.range t.length ∧ least ≤ t.length ∧ (∀ e ∈ t, ok e.2 = true) ∧
        (t.map Prod.snd).IsChain (fun q r => exceeds r q = true) := by
  rw [← and_assoc, ← countFault_eq_none]
  unfold kindFault
  cases countFault least t with
  | some i => simp
  | none => simp [orderFault_eq_none]

/-- Records each above the one before it are pairwise so, where being above is transitive. -/
theorem isChain_iff_pairwise_of_trans {α : Type} {above : α → α → Prop} (h : ∀ a b c, above a b → above b c → above a c)
    (l : List α) : l.IsChain above ↔ l.Pairwise above := by
  have htrans : Trans above above above := ⟨fun hab hbc => h _ _ _ hab hbc⟩
  exact List.isChain_iff_pairwise

/-- A list is a chain of the relation that always holds. -/
theorem isChain_trivial {α : Type} (l : List α) : l.IsChain (fun _ _ => True) :=
  (isChain_iff_pairwise_of_trans (fun _ _ _ _ _ => trivial) l).2 (List.pairwise_of_forall fun _ _ => trivial)

/-- Test 1 passes on the ranges of R2. -/
theorem particularsFault_eq_none {img : Image} :
    particularsFault img = none ↔ ∃ p, img.particulars = some p ∧ GoodParticulars p := by
  rw [(particularsFault_reports img).eq_none_iff]
  simp only [not_and, not_forall, not_not, exists_prop, forall_eq]

/-- Test 2 passes on a complete kind with good records and a total mass. -/
theorem lightshipFault_eq_none {img : Image} : lightshipFault img = none ↔
    img.blocks.keys = List.range img.blocks.length ∧ 1 ≤ img.blocks.length ∧ (∀ e ∈ img.blocks, GoodBlock e.2) ∧
      (img.blocks.map (fun e => e.2.mass)).sum ≠ 0 := by
  unfold lightshipFault Image.lightshipMass
  rw [Option.or_eq_none_iff, kindFault_eq_none]
  simp only [block_ok_iff, isChain_trivial, and_true, ite_eq_right_iff, reduceCtorEq, imp_false, and_assoc, ne_eq]

/-- Test 3 passes on a complete kind with good rows whose T and D strictly increase. -/
theorem hydroFault_eq_none {img : Image} : hydroFault img = none ↔
    img.rows.keys = List.range img.rows.length ∧ 2 ≤ img.rows.length ∧ (∀ e ∈ img.rows, GoodRow img.lbp e.2) ∧
      (img.rows.map (fun e => e.2.t)).Pairwise (· < ·) ∧ (img.rows.map (fun e => e.2.d)).Pairwise (· < ·) := by
  unfold hydroFault
  rw [kindFault_eq_none]
  simp only [row_ok_iff, Bool.and_eq_true, decide_eq_true_eq]
  rw [isChain_iff_pairwise_of_trans fun _ _ _ hab hbc => ⟨hab.1.trans hbc.1, hab.2.trans hbc.2⟩, List.pairwise_and_iff,
    List.pairwise_map, List.pairwise_map, List.pairwise_map, List.pairwise_map]

/-- Test 4 passes on a complete kind with good stations whose x strictly increases. -/
theorem stationFault_eq_none {img : Image} : stationFault img = none ↔
    img.stations.keys = List.range img.stations.length ∧ 2 ≤ img.stations.length ∧
      (∀ e ∈ img.stations, GoodStation img.lbp e.2) ∧ (img.stations.map (fun e => e.2.x)).Pairwise (· < ·) := by
  unfold stationFault
  rw [kindFault_eq_none]
  simp only [station_ok_iff, decide_eq_true_eq]
  rw [isChain_iff_pairwise_of_trans fun _ _ _ hab hbc => hab.trans hbc, List.pairwise_map, List.pairwise_map]

/-- A kind whose records are tested one by one passes when every record is good. -/
theorem records_eq_none {α : Type} {ok : α → Bool} {good : α → Prop} {t : Table α} (reason : FaultReason) (kind : Nat)
    (hok : ∀ r, ok r = true ↔ good r) :
    (orderFault ok (fun _ _ => true) none t).map (fun i => ((reason, kind, i) : ImageFault)) = none ↔ ∀ e ∈ t, good e.2 := by
  rw [Option.map_eq_none_iff, orderFault_eq_none]
  simp only [hok, Option.toList_none, List.nil_append, isChain_trivial, and_true]

/-- Test 5 passes where a compartment is there and every one is good. -/
theorem compFault_eq_none {img : Image} : compFault img = none ↔ img.comps ≠ [] ∧ ∀ e ∈ img.comps, GoodComp e.2 := by
  unfold compFault
  cases img.comps with
  | nil => simp
  | cons e rest =>
    rw [if_neg (by simp), records_eq_none _ _ comp_ok_iff]
    simp

/-- Test 6 passes where every record is good. -/
theorem criteriaFault_eq_none {img : Image} : criteriaFault img = none ↔ ∀ e ∈ img.criteria, GoodCriterion e.2 :=
  records_eq_none _ _ criterion_ok_iff

/-- Test 7 passes where a record, if there is one, is good. -/
theorem timersFault_eq_none {img : Image} : timersFault img = none ↔ ∀ t, img.timers = some t → GoodTimers t := by
  rw [(timersFault_reports img).eq_none_iff]
  simp only [not_and, not_exists, not_not, forall_eq]

/-- An image passes tests 1 to 7 exactly when it passes each. -/
theorem fault_eq_none {img : Image} : img.fault = none ↔
    particularsFault img = none ∧ lightshipFault img = none ∧ hydroFault img = none ∧ stationFault img = none ∧
      compFault img = none ∧ criteriaFault img = none ∧ timersFault img = none := by
  simp only [Image.fault, Option.or_eq_none_iff]

/-- Settles O13: the images that pass, test by test, and the report of the first test that fails. -/
theorem imageTestsAcceptExactly : Obligations.ImageTestsAcceptExactly := by
  refine ⟨fun img _ _ _ _ _ => ?_, fun img hblocks hrows hstations hcomps hcriteria => ?_⟩
  · intro lbp
    rw [fault_eq_none, particularsFault_eq_none, lightshipFault_eq_none, hydroFault_eq_none, stationFault_eq_none,
      compFault_eq_none, criteriaFault_eq_none, timersFault_eq_none]
    rfl
  · intro lbp goodParticulars goodBlock goodRow goodStation goodComp goodCriterion goodTimers missing firstBad numbered
      badBlock badRow badStation tests reason kind index
    rw [fault_eq_foldr]
    refine foldr_or_eq_some (es := tests) ?_ reason kind index
    exact .cons (particularsFault_reports img) (.cons (lightshipFault_reports img hblocks)
      (.cons (hydroFault_reports img hrows) (.cons (stationFault_reports img hstations)
      (.cons (compFault_reports img hcomps) (.cons (criteriaFault_reports img hcriteria)
      (.cons (timersFault_reports img) .nil))))))

end Sys2Proof.Machine
end

section
namespace Sys2Proof.Machine
open Sys2Proof

/-! ### What a capture rests on (R77) -/

/-- The share of a lead weight is a part of its load. -/
def ShareOk (r : LiftRecord) : Prop := ∀ l n, r.lift = some l → l.share = some n → n ≤ 1000

/-- What the captures of a job rest on beside the image: a positive density, no negative mass and no share above the whole
load (R23, R34, R55). -/
structure CaptureSafe (s : State) : Prop where
  density : 0 < s.cond.density
  masses : ∀ e ∈ s.cond.items, 0 ≤ e.2.mass
  shares : ∀ c, ShareOk (s.record c)

/-- The ranges and shapes of the state make its captures safe. -/
theorem captureSafe_of_shaped {s : State} (hv : ValuesInRange s) (hi : ItemsShaped s) (hl : LiftsShaped s) :
    CaptureSafe s where
  density := by
    obtain ⟨hlow, -⟩ := hv
    omega
  masses := fun e he => by
    obtain ⟨-, -, hall⟩ := hi
    obtain ⟨-, -, -, -, -, hmass, -⟩ := hall e he
    omega
  shares := fun c l n hlift hshare => by
    obtain ⟨hshaped, -⟩ := hl
    obtain ⟨-, -, -, hrole⟩ := hshaped c
    obtain ⟨-, hbounds, -⟩ := hrole l hlift
    obtain ⟨-, hle⟩ := hbounds n hshare
    omega

/-- A captured item's mass is not negative. -/
theorem CaptureSafe.item_mass {s : State} (h : CaptureSafe s) {tag : Nat} {it : ItemRecord} (hit : s.item tag = some it) :
    0 ≤ it.mass := h.masses (tag, it) (Table.mem_of_find hit)

/-- The captures stay safe where the density, the items and the records are the same. -/
theorem CaptureSafe.of_same {s t : State} (h : CaptureSafe s) (hd : t.cond.density = s.cond.density)
    (hi : t.cond.items = s.cond.items) (hr : t.lifts.records = s.lifts.records) : CaptureSafe t where
  density := by rw [hd]; exact h.density
  masses := by rw [hi]; exact h.masses
  shares := fun c => by unfold State.record; rw [hr]; exact h.shares c

/-! ### Operations beside the monitor and the engine

One `carries_` lemma for each operation of the blocks that leaves the store, the monitor, the lines and the job: an
operation made of others carries by `Carries.trans`. -/

/-- `t` comes from `s` by work on the condition, the lifts, the planning services, the tanks, the ports or the attention
unit: the ship data store, the monitor, the lines and the job in the engine are the same, and captures stay safe. -/
structure Carries (s t : State) : Prop where
  ship : t.ship = s.ship
  mon : t.mon = s.mon
  lines : t.lines = s.lines
  engine : t.eval.engine = s.eval.engine
  safe : CaptureSafe s → CaptureSafe t

theorem Carries.refl (s : State) : Carries s s := ⟨rfl, rfl, rfl, rfl, id⟩

theorem Carries.trans {s t u : State} (h : Carries s t) (k : Carries t u) : Carries s u :=
  ⟨k.ship.trans h.ship, k.mon.trans h.mon, k.lines.trans h.lines, k.engine.trans h.engine, fun x => k.safe (h.safe x)⟩

/-- Work that leaves the density, the items and the lift records. -/
theorem Carries.of_same {s t : State} (hship : t.ship = s.ship) (hmon : t.mon = s.mon) (hlines : t.lines = s.lines)
    (hengine : t.eval.engine = s.eval.engine) (hd : t.cond.density = s.cond.density) (hi : t.cond.items = s.cond.items)
    (hr : t.lifts.records = s.lifts.records) : Carries s t :=
  ⟨hship, hmon, hlines, hengine, fun h => h.of_same hd hi hr⟩

theorem carries_withPorts (s : State) (x : PerPort PortState) : Carries s (s.withPorts x) :=
  .of_same rfl rfl rfl rfl rfl rfl rfl

theorem carries_withAttn (s : State) (x : PerPort AttnPort) : Carries s (s.withAttn x) :=
  .of_same rfl rfl rfl rfl rfl rfl rfl

theorem carries_withTanks (s : State) (x : TankUnit) : Carries s (s.withTanks x) := .of_same rfl rfl rfl rfl rfl rfl rfl

theorem carries_withTrials (s : State) (x : Trials) : Carries s (s.withTrials x) := .of_same rfl rfl rfl rfl rfl rfl rfl

theorem carries_withPending (s : State) (x : List Instr) : Carries s (s.withPending x) :=
  .of_same rfl rfl rfl rfl rfl rfl rfl

theorem carries_withEval (s : State) {x : EvalUnit} (h : x.engine = s.eval.engine) : Carries s (s.withEval x) :=
  .of_same rfl rfl rfl h rfl rfl rfl

theorem carries_answer (q : Caller) (a : Answer) (s : State) : Carries s (answer q a s) := carries_withPorts s _

theorem carries_defer (q : Caller) (s : State) : Carries s (defer q s) := carries_withPorts s _

theorem carries_openRequest (q : Caller) (s : State) : Carries s (openRequest q s) := carries_withPorts s _

theorem carries_raiseAt (p : Port) (c : Cause) (s : State) : Carries s (raiseAt p c s) := carries_withAttn s _

theorem carries_raiseAll (c : Cause) (s : State) : Carries s (raiseAll c s) := carries_withAttn s _

theorem carries_removeAt (p : Port) (c : Cause) (s : State) : Carries s (removeAt p c s) := carries_withAttn s _

theorem carries_deliver (q : Caller) (a : Answer) (s : State) : Carries s (deliver q a s) := by
  rw [deliver_eq]
  split
  · exact carries_withPorts s _
  · exact .refl s

theorem carries_deliverTo (q : Option Caller) (a : Answer) (s : State) : Carries s (deliverTo q a s) := by
  cases q with
  | none => exact .refl s
  | some q => exact carries_deliver q a s

theorem carries_raiseRoutine (s : State) : Carries s (raiseRoutine s) := carries_withEval s rfl

theorem carries_advance (s : State) : Carries s (advance s) := by
  rw [advance_eq]
  exact .of_same rfl rfl rfl rfl rfl rfl rfl

theorem carries_startInterval (s : State) : Carries s (startInterval s) := by
  rw [startInterval_eq]
  exact .of_same rfl rfl rfl rfl rfl rfl rfl

theorem carries_raiseLiftCheck (c : Crane) (s : State) : Carries s (raiseLiftCheck c s) := by
  cases c <;> exact carries_withEval s rfl

theorem carries_awaitLift (c : Crane) (w : Option Caller) (s : State) : Carries s (s.awaitLift c w) :=
  .of_same rfl rfl rfl rfl rfl rfl rfl

theorem carries_setComp (n : Nat) (x : CompState) (s : State) : Carries s (s.setComp n x) :=
  .of_same rfl rfl rfl rfl rfl rfl rfl

theorem carries_stowIn (tag : Nat) (mass : Int) (n : Nat) (s : State) : Carries s (stowIn tag mass n s) :=
  carries_setComp n _ s

theorem carries_stowOut (tag : Nat) (mass : Int) (n : Nat) (s : State) : Carries s (stowOut tag mass n s) :=
  carries_setComp n _ s

theorem carries_leaveComp (tag : Nat) (it : ItemRecord) (s : State) : Carries s (leaveComp tag it s) := by
  unfold leaveComp
  split
  · exact carries_stowOut ..
  · exact .refl s

/-- An item record written without a negative mass. -/
theorem carries_setItem {tag : Nat} {it : ItemRecord} {s : State} (h : CaptureSafe s → 0 ≤ it.mass) :
    Carries s (s.setItem tag it) :=
  ⟨rfl, rfl, rfl, rfl, fun hs => ⟨hs.density, fun e he => (Table.mem_put he).elim (fun x => x ▸ h hs) (hs.masses e), hs.shares⟩⟩

/-- A lift record written with its share in order. -/
theorem carries_setRecord {c : Crane} {r : LiftRecord} {s : State} (h : CaptureSafe s → ShareOk r) :
    Carries s (s.setRecord c r) :=
  ⟨rfl, rfl, rfl, rfl, fun hs => ⟨hs.density, hs.masses, fun d => by
    rw [record_setRecord]
    split
    · exact h hs
    · exact hs.shares d⟩⟩

/-- A lift record written with the lift it had. -/
theorem carries_setRecord_sameLift {c : Crane} {r : LiftRecord} {s : State} (h : r.lift = (s.record c).lift) :
    Carries s (s.setRecord c r) :=
  carries_setRecord fun hs l n hl => hs.shares c l n (h ▸ hl)

/-- A record without a lift has no share. -/
theorem shareOk_none {r : LiftRecord} (h : r.lift = none) : ShareOk r := fun l n hl => by rw [h] at hl; cases hl

/-- Giving a lift another hook point leaves its share. -/
theorem shareOk_hook {r : LiftRecord} (h : ShareOk r) (q : Option Point) {t : LiftRecord}
    (ht : t.lift = r.lift.map (fun l => { l with hook := q })) : ShareOk t := fun l n hl hn => by
  rw [ht, Option.map_eq_some_iff] at hl
  obtain ⟨l', hl', rfl⟩ := hl
  exact h l' n hl' hn

/-- Dropping the rests-on field of a plan leaves the item's mass. -/
theorem dropPlanRest_mass (tag : Nat) (it : ItemRecord) : (dropPlanRest tag it).mass = it.mass := by
  unfold dropPlanRest
  split
  · split <;> rfl
  · rfl

theorem carries_deleteItem (tag : Nat) (s : State) : Carries s (deleteItem tag s) := by
  unfold deleteItem
  split
  · exact .refl s
  · next it _ =>
    refine (carries_leaveComp tag it s).trans ⟨rfl, rfl, rfl, rfl, fun hs => ⟨hs.density, fun e he => ?_, hs.shares⟩⟩
    obtain ⟨x, hx, rfl⟩ := List.mem_map.1 he
    rw [dropPlanRest_mass]
    exact hs.masses x (List.mem_filter.1 hx).1

theorem carries_emptyStows (s : State) : Carries s (emptyStows s) :=
  ⟨rfl, rfl, rfl, rfl, fun hs => ⟨hs.density, fun e he => (by cases he), hs.shares⟩⟩

theorem carries_endSilence (b s : State) : Carries s (endSilence b s) := by
  rw [endSilence_eq]
  exact carries_withAttn s _

theorem carries_finishOne (code : OutcomeCode) (final : Option Goal) (mass : Int) (c : Crane) (s : State) :
    Carries s (finishOne code final mass c s) := by
  unfold finishOne
  split
  · exact .refl s
  · refine (carries_setRecord_sameLift (c := c)
      (r := { s.record c with state := .done, timer := none, silent := false, outcome := some code }) rfl).trans ?_
    exact .of_same rfl rfl rfl rfl rfl rfl rfl

/-- Work repeated over a list carries as each of its steps does. -/
theorem carries_foldl {α : Type} {f : State → α → State} (h : ∀ t a, Carries t (f t a)) (l : List α) (s : State) :
    Carries s (l.foldl f s) := by
  induction l generalizing s with
  | nil => exact .refl s
  | cons a l ih => exact (h s a).trans (ih (f s a))

theorem carries_finishLift (code : OutcomeCode) (final : Option Goal) (mass : Int) (cs : List Crane) (s : State) :
    Carries s (finishLift code final mass cs s) :=
  (carries_foldl (fun t c => carries_finishOne code final mass c t) cs s).trans (carries_endSilence s _)

theorem carries_reportArrives (c : Crane) (s : State) : Carries s (reportArrives c s) := by
  unfold reportArrives
  split
  · exact (carries_setRecord_sameLift (c := c)
      (r := { s.record c with timer := some (freshTimer s .report), silent := false }) rfl).trans (carries_endSilence s _)
  · exact .refl s

theorem carries_tick (s : State) : Carries s (tick s) :=
  ⟨rfl, rfl, rfl, rfl, fun hs => ⟨hs.density, hs.masses, fun c => by
    cases c with
    | crane1 => exact hs.shares .crane1
    | crane2 => exact hs.shares .crane2⟩⟩

end Sys2Proof.Machine
end

section
namespace Sys2Proof.Machine
open Sys2Proof

/-! ### Changes of the condition beside the monitor and the engine -/

/-- An item record written again with the mass it had. -/
theorem carries_rewriteItem {s : State} {tag : Nat} {it x : ItemRecord} (hit : s.item tag = some it)
    (hmass : x.mass = it.mass) : Carries s (s.setItem tag x) :=
  carries_setItem fun hs => hmass ▸ hs.item_mass hit

theorem carries_refuse (st : Status) (s : State) : Carries s (refuse st s).1 := .refl s

theorem carries_accept (st : Status) (s : State) : Carries s (accept st s).1 := carries_advance s

theorem carries_acceptWarned (ws : List (Nat × List Warning)) (s : State) : Carries s (acceptWarned ws s).1 := by
  cases ws with
  | nil => exact carries_advance s
  | cons w ws => exact carries_advance s

/-- An entry that passes its tests has a mass within 1..60000. -/
theorem entryFault_none_mass {s : State} {e : Entry} (h : entryFault s e = none) : 1 ≤ e.mass ∧ e.mass ≤ 60000 := by
  unfold entryFault at h
  by_cases hm : entryMalformed e = true
  · rw [if_pos hm] at h
    cases h
  · unfold entryMalformed at hm
    simp only [Bool.or_eq_true, not_or, Bool.not_eq_true, Bool.not_eq_false', within_iff] at hm
    obtain ⟨⟨⟨⟨⟨-, hmass⟩, -⟩, -⟩, -⟩, -⟩ := hm
    exact hmass

/-- The record of an entry has the entry's mass. -/
theorem entryRecord_mass (e : Entry) : (entryRecord e).mass = e.mass := by
  unfold entryRecord
  split <;> rfl

theorem carries_applyEntry {s : State} {e : Entry} (h : entryFault s e = none) : Carries s (applyEntry s e) := by
  have hput : Carries s (s.setItem e.tag (entryRecord e)) := carries_setItem fun _ => by
    obtain ⟨hlow, -⟩ := entryFault_none_mass h
    rw [entryRecord_mass]
    omega
  unfold applyEntry
  split
  · exact hput.trans (carries_stowIn ..)
  · exact hput

theorem carries_addEntries {es : List Entry} {k : Nat} {s t : State} (h : addEntries k s es = .ok t) : Carries s t := by
  induction es generalizing k s with
  | nil =>
    obtain rfl : s = t := Except.ok.inj h
    exact .refl s
  | cons e es ih =>
    unfold addEntries at h
    split at h
    · cases h
    · next hf => exact (carries_applyEntry hf).trans (ih h)

theorem carries_applyAddItems (es : List Entry) (s : State) : Carries s (applyAddItems es s).1 := by
  unfold applyAddItems
  split
  · exact .refl s
  · split
    · exact .refl s
    · next h => exact (carries_addEntries h).trans (carries_acceptWarned _ _)

theorem carries_shiftLoad (it : ItemRecord) (diff : Int) (s : State) : Carries s (shiftLoad it diff s) := by
  unfold shiftLoad
  split
  · exact carries_setComp ..
  · exact .refl s

/-- A mass of an item amended within its range, or kept, is not negative. -/
theorem amended_mass {s : State} (hs : CaptureSafe s) {tag : Nat} {it : ItemRecord} (hit : s.item tag = some it)
    {mass : Option Int} (hm : mass.elim true (within 1 60000) = true) : 0 ≤ mass.getD it.mass := by
  cases mass with
  | none => exact hs.item_mass hit
  | some m =>
    obtain ⟨hlow, -⟩ := (within_iff _ _ _).1 hm
    show 0 ≤ m
    omega

theorem carries_applyAmendItem (tag : Nat) (mass dport : Option Int) (s : State) :
    Carries s (applyAmendItem tag mass dport s).1 := by
  unfold applyAmendItem
  split
  · exact .refl s
  · next hform =>
    split
    · exact .refl s
    · next it hit =>
      split
      · exact .refl s
      · simp only [Bool.or_eq_true, Bool.not_eq_true', not_or, Bool.not_eq_false] at hform
        obtain ⟨⟨-, hmass⟩, -⟩ := hform
        exact ((carries_setItem (it := { it with mass := mass.getD it.mass, dport := dport.getD it.dport })
          fun hs => amended_mass hs hit hmass).trans (carries_shiftLoad _ _ _)).trans (carries_accept _ _)

theorem carries_applyPlanMove (tag : Nat) (plan : Option Goal) (s : State) : Carries s (applyPlanMove tag plan s).1 := by
  unfold applyPlanMove
  split
  · exact .refl s
  · next g =>
    split
    · exact .refl s
    · split
      · exact .refl s
      · next it hit =>
        split_ifs
        · exact .refl s
        · exact .refl s
        · exact .refl s
        · exact .refl s
        · exact .trans (carries_rewriteItem (x := { it with plan := some g }) hit rfl) (carries_acceptWarned ..)

theorem carries_applyCancelPlan (tag : Nat) (s : State) : Carries s (applyCancelPlan tag s).1 := by
  unfold applyCancelPlan
  split
  · exact .refl s
  · next it hit =>
    split_ifs
    · exact .refl s
    · exact .refl s
    · exact .refl s
    · exact (carries_rewriteItem (x := { it with plan := none }) hit rfl).trans (carries_accept ..)

theorem carries_applyRemoveItem (tag : Nat) (s : State) : Carries s (applyRemoveItem tag s).1 := by
  unfold applyRemoveItem
  split
  · exact .refl s
  · split_ifs
    · exact .refl s
    · exact .refl s
    · exact (carries_deleteItem tag s).trans (carries_accept _ _)

theorem carries_applySetCompartment (n : Nat) (flag : Option OpenFlag) (s : State) :
    Carries s (applySetCompartment n flag s).1 := by
  unfold applySetCompartment
  split
  · exact (carries_setComp ..).trans (carries_accept _ _)
  · exact .refl s

theorem carries_applyClearCondition (s : State) : Carries s (applyClearCondition s).1 := by
  unfold applyClearCondition
  split
  · exact .refl s
  · exact (((carries_emptyStows s).trans (carries_withTanks _ _)).trans (carries_withTrials _ _)).trans (carries_accept _ _)

/-- A value brought into a range is not below its low end. -/
theorem le_bringInto {lo hi : Int} (h : lo ≤ hi) (v : Int) : lo ≤ bringInto lo hi v := by
  unfold bringInto
  omega

theorem carries_applySetDensity (d : Int) (s : State) : Carries s (applySetDensity d s).1 := by
  refine Carries.trans (t := s.withCond { s.cond with density := bringInto 990 1030 d })
    ⟨rfl, rfl, rfl, rfl, fun hs => ⟨?_, hs.masses, hs.shares⟩⟩ (carries_advance _)
  have := le_bringInto (lo := 990) (hi := 1030) (by omega) d
  show 0 < bringInto 990 1030 d
  omega

theorem carries_applySoundings (pairs : List (Nat × Nat)) (s : State) : Carries s (applySoundings pairs s).1 := by
  unfold applySoundings
  dsimp only
  split
  · exact .refl s
  · exact (carries_withTanks _ _).trans (carries_advance _)

/-! ### Hook reports and landings -/

theorem carries_hookArrives (c : Crane) (s : State) : Carries s (hookArrives c s) := by
  unfold hookArrives
  split
  · exact carries_setRecord_sameLift rfl
  · exact .refl s

theorem carries_slingRecord (c : Crane) (q : Point) (s : State) : Carries s (slingRecord c q s) :=
  carries_setRecord fun hs => shareOk_hook (hs.shares c) (some q) rfl

theorem carries_slingItem (tag : Nat) (c : Crane) (s : State) : Carries s (slingItem tag c s) := by
  unfold slingItem
  split
  · exact .refl s
  · next it hit =>
    refine ⟨(carries_leaveComp tag it s).ship, (carries_leaveComp tag it s).mon, (carries_leaveComp tag it s).lines,
      (carries_leaveComp tag it s).engine, fun hs => ?_⟩
    exact (carries_setItem (it := { it with state := .slung, actual := none, link := some c })
      fun _ => hs.item_mass (it := it) hit).safe ((carries_leaveComp tag it s).safe hs)

theorem carries_slingPartner (c : Crane) (s : State) : Carries s (slingPartner c s) := by
  unfold slingPartner
  split
  · exact .refl s
  · exact carries_slingRecord ..

theorem carries_applyHookOn (c : Crane) (q : Point) (s : State) : Carries s (applyHookOn c q s).1 := by
  unfold applyHookOn
  split
  · exact .refl s
  · split
    · next l _ _ =>
      have hsling : Carries s (if s.ledTandem c then slingPartner (otherCrane c) (slingItem l.tag c s)
          else slingItem l.tag c s) := by
        split
        · exact (carries_slingItem ..).trans (carries_slingPartner ..)
        · exact carries_slingItem ..
      exact (hsling.trans (carries_slingRecord ..)).trans (carries_accept _ _)
    · exact .refl s

theorem carries_applyHookAt (c : Crane) (q : Point) (s : State) : Carries s (applyHookAt c q s).1 := by
  unfold applyHookAt
  split
  · exact (carries_setRecord fun hs => shareOk_hook (hs.shares c) (some q) rfl).trans (carries_accept _ _)
  · exact .refl s

theorem carries_setDown (tag : Nat) (final : Goal) (s : State) : Carries s (setDown tag final s) := by
  cases final with
  | ashore => exact carries_deleteItem tag s
  | place pl =>
    cases hit : s.item tag with
    | none =>
      simp only [setDown, hit]
      exact .refl s
    | some it =>
      simp only [setDown, hit]
      exact .trans (t := s.setItem tag _) (carries_rewriteItem hit (x := { it with
        state := .aboard, actual := some pl, link := none, plan := if it.plan = some (.place pl) then none else it.plan })
        rfl) (carries_stowIn ..)

theorem carries_applyLanded (c : Crane) (g : Goal) (s : State) : Carries s (applyLanded c g s).1 := by
  unfold applyLanded
  split
  · exact .refl s
  · split
    · exact ((carries_setDown _ _ s).trans (carries_finishLift ..)).trans (carries_advance _)
    · exact .refl s

/-- A change applied leaves the ship data store, the monitor, the lines and the running job (R36). -/
theorem carries_applyChange (p : Port) (ch : Change) (s : State) : Carries s (applyChange p ch s).1 := by
  cases ch with
  | addItems es => exact carries_applyAddItems es s
  | amendItem tag m d => exact carries_applyAmendItem tag m d s
  | planMove tag g => exact carries_applyPlanMove tag g s
  | cancelPlan tag => exact carries_applyCancelPlan tag s
  | removeItem tag => exact carries_applyRemoveItem tag s
  | setCompartment n f => exact carries_applySetCompartment n f s
  | clearCondition => exact carries_applyClearCondition s
  | setDensity d => exact carries_applySetDensity d s
  | soundings ps => exact carries_applySoundings ps s
  | hookOn q =>
    cases hc : craneOf p with
    | none => simpa only [applyChange, hc] using carries_refuse _ s
    | some c => simpa only [applyChange, hc] using carries_applyHookOn c q s
  | hookAt q =>
    cases hc : craneOf p with
    | none => simpa only [applyChange, hc] using carries_refuse _ s
    | some c => simpa only [applyChange, hc] using carries_applyHookAt c q s
  | landed g =>
    cases hc : craneOf p with
    | none => simpa only [applyChange, hc] using carries_refuse _ s
    | some c =>
      cases g with
      | none => simpa only [applyChange, hc] using carries_refuse _ s
      | some g => simpa only [applyChange, hc] using carries_applyLanded c g s

theorem carries_changeArrives (p : Port) (ch : Change) (s : State) : Carries s (changeArrives p ch s) := by
  unfold changeArrives
  split
  · exact carries_hookArrives ..
  · exact carries_reportArrives ..
  · exact carries_reportArrives ..
  · exact .refl s

theorem carries_hold (l : List Held) (s : State) : Carries s (s.withCond { s.cond with hold := l }) :=
  .of_same rfl rfl rfl rfl rfl rfl rfl

theorem carries_takeChange (ch : Change) (q : Caller) (s : State) : Carries s (takeChange ch q s) := by
  unfold takeChange
  dsimp only
  have harrive := carries_changeArrives q.port ch s
  split_ifs
  · exact carries_answer ..
  · exact harrive.trans (carries_answer ..)
  · exact harrive.trans (.trans (carries_hold ..) (carries_defer ..))
  · exact harrive.trans ((carries_applyChange ..).trans (carries_answer ..))

theorem carries_applyHeld (s : State) (h : Held) : Carries s (applyHeld s h) :=
  (carries_applyChange ..).trans (carries_deliver ..)

/-! ### Lift requests, ends and timers -/

/-- A share that a LIFT REQUEST names within its form is at most 900. -/
theorem liftMalformed_share {dest : Option Goal} {outreach hook : Point} {partner : Option PortRef} {share : Option Nat}
    (h : liftMalformed dest outreach hook partner share = false) {n : Nat} (hn : share = some n) : n ≤ 900 := by
  subst hn
  unfold liftMalformed at h
  cases partner with
  | none => simp at h
  | some r =>
    simp only [Bool.or_eq_false_iff, Bool.not_eq_false', Bool.and_eq_true, decide_eq_true_eq] at h
    obtain ⟨-, -, hle⟩ := h
    exact hle

theorem carries_startLift (c : Crane) (q : Caller) (tag : Nat) (dest : Goal) (outreach hook : Point) {share : Option Nat}
    (h : ∀ n, share = some n → n ≤ 1000) (s : State) : Carries s (startLift c q tag dest outreach hook share s) := by
  unfold startLift
  refine .trans (.trans ?_ (carries_awaitLift ..)) (carries_defer ..)
  cases share with
  | none =>
    refine .trans (carries_setRecord fun _ l n hl hn => ?_) (carries_raiseLiftCheck ..)
    cases hl
    cases hn
  | some m =>
    refine carries_setRecord fun _ l n hl hn => ?_
    cases hl
    exact h n hn

theorem carries_takeLiftRequest (tag : Nat) (dest : Option Goal) (outreach hook : Point) (partner : Option PortRef)
    (share : Option Nat) (q : Caller) (s : State) : Carries s (takeLiftRequest tag dest outreach hook partner share q s) := by
  unfold takeLiftRequest
  split
  · split
    · exact carries_answer ..
    · next hform =>
      split
      · exact carries_answer ..
      · refine carries_startLift _ _ _ _ _ _ (fun n hn => ?_) s
        have hshare : share = some n := by
          split at hn
          · exact hn
          · cases hn
        have := liftMalformed_share (Bool.eq_false_iff.2 hform) hshare
        omega
  · exact carries_answer ..

theorem carries_joinTandem (c : Crane) (q : Caller) (outreach : Point) {l : Lift} {s : State}
    (h : (s.record (otherCrane c)).lift = some l) : Carries s (joinTandem c q outreach l s) := by
  unfold joinTandem
  refine .trans (.trans (.trans (.trans (carries_setRecord_sameLift (c := otherCrane c)
    (r := { s.record (otherCrane c) with state := .checking, timer := none }) rfl) ?_) (carries_raiseLiftCheck ..))
    (carries_awaitLift ..)) (carries_defer ..)
  refine carries_setRecord fun hs m n hm hn => ?_
  cases hm
  refine hs.shares (otherCrane c) l n ?_ hn
  rw [record_setRecord, if_pos rfl]
  exact h

theorem carries_takeJoinLift (leadRef : PortRef) (tag : Nat) (outreach : Point) (q : Caller) (s : State) :
    Carries s (takeJoinLift leadRef tag outreach q s) := by
  unfold takeJoinLift
  split
  · exact carries_answer ..
  · split_ifs
    · exact carries_answer ..
    · exact carries_answer ..
    · split
      · exact carries_answer ..
      · next h => exact carries_joinTandem _ _ _ h
      · exact carries_answer ..

theorem carries_takeAbortLift (q : Caller) (s : State) : Carries s (takeAbortLift q s) := by
  unfold takeAbortLift
  split
  · exact carries_answer ..
  · split_ifs
    · exact carries_answer ..
    · exact carries_answer ..
    · split
      · exact carries_answer ..
      · exact (carries_finishLift ..).trans (carries_answer ..)
      · exact carries_answer ..
      · exact (carries_finishLift ..).trans (carries_answer ..)
      · exact carries_answer ..
      · exact carries_answer ..

theorem carries_returnIdle (c : Crane) (s : State) : Carries s (returnIdle c s) := by
  refine .trans (carries_setRecord (c := c) (r := idleRecord (s.record c)) fun _ => shareOk_none rfl) ?_
  exact .of_same rfl rfl rfl rfl rfl rfl rfl

theorem carries_takeCollectOutcome (q : Caller) (s : State) : Carries s (takeCollectOutcome q s) := by
  unfold takeCollectOutcome
  split
  · exact carries_answer ..
  · split
    · exact carries_answer ..
    · exact ((carries_returnIdle ..).trans (carries_removeAt ..)).trans (carries_answer ..)

theorem carries_joinWindowExpires (c : Crane) (s : State) : Carries s (joinWindowExpires c s) := by
  unfold joinWindowExpires
  split
  · exact ((carries_finishLift ..).trans (carries_awaitLift ..)).trans (carries_deliverTo ..)
  · exact .refl s

theorem carries_grantLapses (c : Crane) (s : State) : Carries s (grantLapses c s) := by
  unfold grantLapses
  split
  · exact carries_finishLift ..
  · exact .refl s

theorem carries_reportLapses (c : Crane) (s : State) : Carries s (reportLapses c s) := by
  unfold reportLapses
  split
  · exact (carries_setRecord_sameLift (c := c) (r := { s.record c with timer := none, silent := true }) rfl).trans
      (carries_raiseAll ..)
  · exact .refl s

theorem carries_readingStales (s : State) : Carries s (readingStales s) := by
  unfold readingStales
  split
  · exact .refl s
  · exact carries_withTanks ..

theorem carries_pulseEnds (p : Port) (s : State) : Carries s (pulseEnds p s) := by
  unfold pulseEnds
  split
  · exact carries_withAttn ..
  · exact .refl s

/-- A record at the end of its check has the lift it had, or none. -/
theorem shareOk_judgedRecord {s : State} (hs : CaptureSafe s) (lead : Crane) (r : CheckReport) (c : Crane) :
    ShareOk (judgedRecord s lead r c) := by
  unfold judgedRecord
  split
  · exact fun l n hl hn => hs.shares c l n hl hn
  · exact shareOk_none rfl

theorem carries_settleCheck (lead : Crane) (r : CheckReport) (s : State) (c : Crane) :
    Carries s (settleCheck lead r s c) := by
  unfold settleCheck
  split
  · exact ((carries_setRecord fun hs => shareOk_judgedRecord hs lead r c).trans (carries_awaitLift ..)).trans
      (carries_deliverTo ..)
  · exact .refl s

/-! ### The other requests -/

theorem carries_queried (p : Port) (c : Option Cause) (s : State) : Carries s (queried p c s) := by
  unfold queried
  split
  · exact .refl s
  · split
    · exact .refl s
    · exact carries_removeAt ..

theorem carries_takeSetAttention (u : List Nat) (m : Option LineMode) (q : Caller) (s : State) :
    Carries s (takeSetAttention u m q s) := by
  unfold takeSetAttention
  split
  · exact carries_answer ..
  · split
    · exact carries_answer ..
    · exact (carries_withAttn ..).trans (carries_answer ..)

theorem carries_takeSetEvaluation (m : Option RoutineMode) (i : Int) (q : Caller) (s : State) :
    Carries s (takeSetEvaluation m i q s) := by
  unfold takeSetEvaluation
  split
  · exact carries_answer ..
  · split
    · exact carries_answer ..
    · refine .trans ?_ (carries_answer ..)
      exact carries_withEval _ rfl

theorem carries_takeEvaluateProspect (sc : Option Scope) (q : Caller) (s : State) :
    Carries s (takeEvaluateProspect sc q s) := by
  unfold takeEvaluateProspect
  split
  · exact carries_answer ..
  · refine .trans ?_ (carries_defer ..)
    exact carries_withEval _ rfl

theorem carries_takePushTrial (a : LayerArg) (q : Caller) (s : State) : Carries s (takePushTrial a q s) := by
  unfold takePushTrial
  split
  · exact carries_answer ..
  · exact carries_answer ..
  · exact (carries_withTrials ..).trans (carries_answer ..)

theorem carries_takePopTrial (q : Caller) (s : State) : Carries s (takePopTrial q s) := by
  unfold takePopTrial
  split
  · exact carries_answer ..
  · exact (carries_withTrials ..).trans (carries_answer ..)

theorem carries_takeDrafts (aft fwd : Int) (q : Caller) (s : State) : Carries s (takeDrafts aft fwd q s) := by
  unfold takeDrafts
  split
  · exact carries_answer ..
  · exact (carries_withTanks ..).trans (carries_answer ..)

theorem carries_takeDraftZero (q : Caller) (s : State) : Carries s (takeDraftZero q s) := by
  unfold takeDraftZero
  split
  · exact carries_answer ..
  · exact carries_answer ..
  · split
    · exact carries_answer ..
    · exact (carries_withTanks ..).trans (carries_answer ..)

theorem carries_takeReadItem (tag : Nat) (q : Caller) (s : State) : Carries s (takeReadItem tag q s) := by
  unfold takeReadItem
  split <;> exact carries_answer ..

theorem carries_takeReadCompartment (n i : Nat) (q : Caller) (s : State) : Carries s (takeReadCompartment n i q s) := by
  unfold takeReadCompartment
  split <;> exact carries_answer ..

theorem carries_takeReadResult (sel : Selector) (part : Nat) (q : Caller) (s : State) :
    Carries s (takeReadResult sel part q s) := by
  unfold takeReadResult
  split
  · exact carries_answer ..
  · split <;> exact carries_answer ..

theorem carries_takeReadProspect (part : Nat) (q : Caller) (s : State) : Carries s (takeReadProspect part q s) := by
  unfold takeReadProspect
  split
  · exact carries_answer ..
  · split <;> exact carries_answer ..

theorem carries_takeReadCriterion (i : Nat) (q : Caller) (s : State) : Carries s (takeReadCriterion i q s) := by
  unfold takeReadCriterion
  split <;> exact carries_answer ..

theorem carries_takeFindSpace (a b : Nat) (m : Int) (mode : Option FindMode) (sk : Bool) (ks : List Nat) (q : Caller)
    (s : State) : Carries s (takeFindSpace a b m mode sk ks q s) := by
  unfold takeFindSpace
  split <;> exact carries_answer ..

theorem carries_takeReadLift (x : Option Crane) (q : Caller) (s : State) : Carries s (takeReadLift x q s) := by
  unfold takeReadLift
  split <;> exact carries_answer ..

/-- The requests that write the ship data store or the monitor. -/
def writesStoreOrMonitor : Request → Bool
  | .openData | .writeData .. | .closeData .. | .setCriterion .. | .setRange .. | .resetSlot .. | .inject ..
  | .withdraw .. | .readAlarms => true
  | _ => false

/-- Every other request leaves the ship data store, the monitor, the lines and the running job. -/
theorem carries_serve {r : Request} (h : writesStoreOrMonitor r = false) (q : Caller) (s : State) :
    Carries s (serve r q s) := by
  cases r with
  | openData => cases h
  | writeData k i fs => cases h
  | closeData w => cases h
  | setCriterion i c l hy n a => cases h
  | setRange a b => cases h
  | resetSlot i => cases h
  | inject i v => cases h
  | withdraw i => cases h
  | readAlarms => cases h
  | identify => exact carries_answer ..
  | readLineStatus => exact (carries_answer ..).trans (carries_withPorts ..)
  | attentionQuery => exact (carries_queried ..).trans (carries_answer ..)
  | setAttention u m => exact carries_takeSetAttention u m q s
  | change c => exact carries_takeChange c q s
  | readItem t => exact carries_takeReadItem t q s
  | listItems t => exact carries_answer ..
  | readCompartment n i => exact carries_takeReadCompartment n i q s
  | evaluateNow => exact (carries_raiseRoutine s).trans (carries_answer ..)
  | setEvaluation m i => exact carries_takeSetEvaluation m i q s
  | evaluateProspect sc => exact carries_takeEvaluateProspect sc q s
  | readResult sel part => exact carries_takeReadResult sel part q s
  | readProspect part => exact carries_takeReadProspect part q s
  | readCriterion i => exact carries_takeReadCriterion i q s
  | findSpace a b m mode sk ks => exact carries_takeFindSpace a b m mode sk ks q s
  | pushTrial l => exact carries_takePushTrial l q s
  | popTrial => exact carries_takePopTrial q s
  | clearTrials => exact (carries_withTrials ..).trans (carries_answer ..)
  | readTrials => exact carries_answer ..
  | drafts a f => exact carries_takeDrafts a f q s
  | draftZero => exact carries_takeDraftZero q s
  | readDrafts => exact carries_answer ..
  | liftRequest t d o hk p sh => exact carries_takeLiftRequest t d o hk p sh q s
  | joinLift l t o => exact carries_takeJoinLift l t o q s
  | abortLift => exact carries_takeAbortLift q s
  | collectOutcome => exact carries_takeCollectOutcome q s
  | readLift x => exact carries_takeReadLift x q s

end Sys2Proof.Machine
end

section
namespace Sys2Proof.Machine
open Sys2Proof

/-! ### What every step keeps, from what the blocks keep -/

/-- A property that every operation a step is made of keeps: work beside the store, the monitor and the engine; the
requests that write the store or the monitor; the start of a job, its captures and its completion; the restarts; and the
ends of verification and commit. -/
structure StepKeeps (P : State → Prop) : Prop where
  carries : ∀ {s t : State}, P s → Carries s t → P t
  writes : ∀ (r : Request) (q : Caller) (s : State), writesStoreOrMonitor r = true → P s → P (serve r q s)
  startJob : ∀ s, P s → P (startJob s)
  capturesComplete : ∀ s, P s → P (capturesComplete s)
  completeRoutine : ∀ v slung f dis s, P s → P (completeRoutine v slung f dis s)
  completeLift : ∀ lead v path final s, P s → P (completeLift lead v path final s)
  completeProspect : ∀ q r s, P s → P (completeProspect q r s)
  coldRestart : ∀ straps s, P s → P (coldRestart straps s)
  warmRestart : ∀ cause straps s, P s → P (warmRestart cause straps s)
  verifyEnds : ∀ s, P s → P (verifyEnds s)
  commitEnds : ∀ s, P s → P (commitEnds s)

theorem carries_modifyPort (s : State) (p : Port) (f : PortState → PortState) : Carries s (s.modifyPort p f) :=
  carries_withPorts s _

theorem carries_countError (p : Port) (e : LineErr) (s : State) : Carries s (countError p e s) := by
  unfold countError
  split
  · exact (carries_modifyPort ..).trans (carries_raiseAt ..)
  · exact .refl s

theorem carries_refuseBusy (p : Port) (kind tag : Byte) (s : State) : Carries s (refuseBusy p kind tag s) := by
  unfold refuseBusy
  split
  · exact carries_countError ..
  · exact carries_modifyPort ..

theorem carries_rxGap (p : Port) (s : State) : Carries s (rxGap p s) := by
  unfold rxGap
  split
  · exact (carries_modifyPort ..).trans (carries_countError ..)
  · exact carries_modifyPort ..
  · exact .refl s
  · exact .refl s

namespace StepKeeps

variable {P : State → Prop}

/-- Every request keeps the property. -/
theorem serve (K : StepKeeps P) (r : Request) (q : Caller) {s : State} (h : P s) : P (serve r q s) := by
  by_cases hr : writesStoreOrMonitor r = true
  · exact K.writes r q s hr h
  · exact K.carries h (carries_serve (Bool.eq_false_iff.2 hr) q s)

/-- The arbiter keeps the property. -/
theorem arbitrate (K : StepKeeps P) (e : EvalUnit) {s : State} (h : P s) : P (arbitrate e s) := by
  unfold Machine.arbitrate
  split
  · exact K.startJob s h
  · exact h

/-- A request arriving keeps what its owning block keeps (R182). -/
theorem receive (K : StepKeeps P) {p : Port} {kind tag : Byte} {k : Option ReqKind} {body : Caller → State → State}
    (hbody : ∀ q t, P t → P (body q t)) {s : State} (h : P s) : P (receive p kind tag k body s) := by
  unfold Machine.receive
  split
  · exact h
  · split
    · exact K.carries h (carries_refuseBusy ..)
    · have hopen := K.carries h (carries_openRequest (nextCaller s p kind tag) s)
      cases k with
      | none => exact K.carries hopen ((carries_countError ..).trans (carries_answer ..))
      | some k =>
        show P (receiveKnown k body _ _)
        unfold receiveKnown
        split
        · exact K.carries hopen (carries_answer ..)
        · split
          · exact K.carries hopen ((carries_countError ..).trans (carries_answer ..))
          · split
            · exact K.carries hopen (carries_answer ..)
            · exact K.arbitrate _ (hbody _ _ hopen)

/-- A payload keeps the property, whether it fits its kind or not. -/
theorem servePayload (K : StepKeeps P) (k : ReqKind) (payload : List Byte) (q : Caller) {s : State} (h : P s) :
    P (servePayload k payload q s) := by
  unfold Machine.servePayload
  split
  · exact K.carries h (carries_answer ..)
  · exact K.serve _ q h

/-- A telegram handed on keeps the property. -/
theorem handOn (K : StepKeeps P) (p : Port) (kind tag : Byte) (payload : List Byte) {s : State} (h : P s) :
    P (handOn p kind tag payload s) := by
  refine K.receive (fun q t ht => ?_) h
  split
  · exact ht
  · exact K.servePayload _ payload q ht

/-- One character at a receiver keeps the property. -/
theorem rxChar (K : StepKeeps P) (p : Port) (c : RxChar) {s : State} (h : P s) : P (rxChar p c s) := by
  have hrx (r : Receiver) : P (s.setRx p r) := K.carries h (carries_modifyPort ..)
  have htake (bytes : List Byte) : P (takeChar p bytes s) := by
    unfold takeChar
    split
    · exact hrx _
    · exact K.carries (hrx _) (carries_countError ..)
    · exact K.carries (hrx _) (carries_countError ..)
    · exact K.handOn _ _ _ _ (hrx _)
  unfold Machine.rxChar
  split
  · exact h
  · exact h
  · split
    · exact htake _
    · exact K.carries (hrx _) (carries_countError ..)
  · split
    · exact htake _
    · exact K.carries (hrx _) (carries_countError ..)

/-- Characters one after another keep the property. -/
theorem rxChars (K : StepKeeps P) (p : Port) (cs : List RxChar) {s : State} (h : P s) : P (rxChars p cs s) := by
  unfold Machine.rxChars
  induction cs generalizing s with
  | nil => exact h
  | cons c cs ih => exact ih (K.rxChar p c h)

/-- The expiry of the interval timer keeps the property. -/
theorem intervalExpires (K : StepKeeps P) {s : State} (h : P s) : P (intervalExpires s) := by
  unfold Machine.intervalExpires
  split
  · exact h
  · exact K.arbitrate _ (K.carries h ((carries_raiseRoutine s).trans (carries_startInterval _)))

/-- A rise of the supply keeps the property. -/
theorem supplyRises (K : StepKeeps P) (retained : Bool) (straps : Straps) {s : State} (h : P s) :
    P (supplyRises retained straps s) := by
  unfold Machine.supplyRises
  split
  · exact K.warmRestart .warmSupply straps s h
  · exact K.coldRestart straps s h

/-- A routine completion that answers a next state keeps the property. -/
theorem routineCompletes (K : StepKeeps P) {s t : State} (h : P s) (hst : routineCompletes s = .next t) : P t := by
  unfold Machine.routineCompletes at hst
  split at hst
  · split at hst
    · cases hst
    · cases hst
      exact K.arbitrate _ (K.completeRoutine _ _ _ _ _ h)
  · cases hst
    exact h

/-- A lift check completion that answers a next state keeps the property. -/
theorem liftCompletes (K : StepKeeps P) {s t : State} (h : P s) (hst : liftCompletes s = .next t) : P t := by
  unfold Machine.liftCompletes at hst
  split at hst
  · split at hst
    · cases hst
      exact K.arbitrate _ (K.completeLift _ _ _ _ _ h)
    · cases hst
  · cases hst
    exact h

/-- A prospect completion that answers a next state keeps the property. -/
theorem prospectCompletes (K : StepKeeps P) {s t : State} (h : P s) (hst : prospectCompletes s = .next t) : P t := by
  unfold Machine.prospectCompletes at hst
  split at hst
  · split at hst
    · cases hst
    · cases hst
      exact K.arbitrate _ (K.completeProspect _ _ _ h)
  · cases hst
    exact h

/-- A request row keeps the property. -/
theorem requestRow (K : StepKeeps P) {i : Instr} {p : Port} {tag : Byte} {r : Request} (hi : requestRow i = some (p, tag, r))
    {s t : State} (h : P s) (hst : exec i s = .next t) : P t := by
  rw [exec_requestRow s hi] at hst
  cases hst
  exact K.receive (fun q _ ht => K.serve r q ht) h

/-- Every command keeps the property. -/
theorem exec (K : StepKeeps P) {i : Instr} {s t : State} (h : P s) (hst : exec i s = .next t) : P t := by
  cases hi : Machine.requestRow i with
  | some row => exact K.requestRow (p := row.1) (tag := row.2.1) (r := row.2.2) hi h hst
  | none =>
    cases i with
    | telegramReceived p chars => cases hst; exact K.rxChars p chars h
    | receiveGapTimeout p => cases hst; exact K.carries h (carries_rxGap p s)
    | replySent p => cases hst; exact K.carries h (carries_modifyPort ..)
    | breakLine p => cases hst; exact K.carries h (carries_modifyPort ..)
    | breakRelease p => cases hst; exact K.carries h (carries_modifyPort ..)
    | supplyRise retained straps => cases hst; exact K.supplyRises retained straps h
    | resetPin straps => cases hst; exact K.warmRestart .warmPin straps s h
    | verifyEnd => cases hst; exact K.arbitrate _ (K.verifyEnds s h)
    | commitEnd => cases hst; exact K.arbitrate _ (K.commitEnds s h)
    | jobStart => cases hst; exact K.startJob s h
    | captureComplete => cases hst; exact K.capturesComplete s h
    | routineCompletion => exact K.routineCompletes h hst
    | liftCheckCompletion => exact K.liftCompletes h hst
    | prospectCompletion => exact K.prospectCompletes h hst
    | intervalTimerExpiry => cases hst; exact K.intervalExpires h
    | joinWindowExpiry c => cases hst; exact K.carries h (carries_joinWindowExpires c s)
    | grantLapseExpiry c => cases hst; exact K.carries h (carries_grantLapses c s)
    | reportTimerExpiry c => cases hst; exact K.carries h (carries_reportLapses c s)
    | draftReadingStale => cases hst; exact K.carries h (carries_readingStales s)
    | attentionPulseEnd p => cases hst; exact K.carries h (carries_pulseEnds p s)
    | characterReceived p c => cases hst; exact K.rxChar p c h
    | _ => cases hi

/-- Every step keeps the property. -/
theorem step (K : StepKeeps P) {s t : State} (h : P s) (hst : step s = .next t) : P t := by
  unfold Machine.step at hst
  split at hst
  · cases hst
    exact K.carries h (carries_tick s)
  · exact K.exec (K.carries h (carries_withPending ..)) hst

end StepKeeps

end Sys2Proof.Machine
end

section
namespace Sys2Proof.Machine
open Sys2Proof

/-! ### Operations on the monitor

One `tunes_` lemma for each operation that may change the monitor and leaves the store, the condition, the records and the
job. -/

/-- `t` comes from `s` by work on the monitor, the lines, the ports or the attention unit: the ship data store, the
condition, the lift records and the job in the engine are the same. -/
structure Tunes (s t : State) : Prop where
  ship : t.ship = s.ship
  cond : t.cond = s.cond
  lifts : t.lifts = s.lifts
  engine : t.eval.engine = s.eval.engine

theorem Tunes.refl (s : State) : Tunes s s := ⟨rfl, rfl, rfl, rfl⟩

theorem Tunes.trans {s t u : State} (h : Tunes s t) (k : Tunes t u) : Tunes s u :=
  ⟨k.ship.trans h.ship, k.cond.trans h.cond, k.lifts.trans h.lifts, k.engine.trans h.engine⟩

theorem Tunes.safe {s t : State} (h : Tunes s t) (hs : CaptureSafe s) : CaptureSafe t :=
  hs.of_same (by rw [h.cond]) (by rw [h.cond]) (by rw [h.lifts])

theorem tunes_withMon (s : State) (m : Monitor) : Tunes s (s.withMon m) := ⟨rfl, rfl, rfl, rfl⟩

theorem tunes_answer (q : Caller) (a : Answer) (s : State) : Tunes s (answer q a s) := ⟨rfl, rfl, rfl, rfl⟩

theorem tunes_raiseAll (c : Cause) (s : State) : Tunes s (raiseAll c s) := ⟨rfl, rfl, rfl, rfl⟩

theorem tunes_settle (s : State) : Tunes s (settle s) := ⟨settle_ship s, settle_cond s, settle_lifts s, by rw [settle_eval]⟩

theorem tunes_settleRise (s : State) : Tunes s (settleRise s) :=
  ⟨settleRise_ship s, settleRise_cond s, settleRise_lifts s, by rw [settleRise_eval]⟩

theorem tunes_triggerRoutine (s : State) : Tunes s (triggerRoutine s) := by
  rw [triggerRoutine_eq]
  exact ⟨rfl, rfl, rfl, rfl⟩

theorem tunes_startInterval (s : State) : Tunes s (startInterval s) := by
  rw [startInterval_eq]
  exact ⟨rfl, rfl, rfl, rfl⟩

theorem tunes_judgeResult (g : Judging) (seq : Nat) (s : State) : Tunes s (judgeResult g seq s) := by
  unfold judgeResult
  dsimp only
  have hsettled := (tunes_withMon s (addSticky g.entered { s.mon with
    slots := g.judged.map Judged.slot, primed := true, lastJudged := seq })).trans (tunes_settle _)
  split
  · exact hsettled
  · exact hsettled.trans (tunes_raiseAll ..)

/-- The requests that write the ship data store. -/
def writesStore : Request → Bool
  | .openData | .writeData .. | .closeData .. => true
  | _ => false

theorem tunes_takeSetCriterion (i : Nat) (code : Option Code) (l h n : Int) (a : Option Action) (q : Caller) (s : State) :
    Tunes s (takeSetCriterion i code l h n a q s) := by
  unfold takeSetCriterion
  split
  · exact tunes_answer ..
  · split
    · exact tunes_answer ..
    · exact (((tunes_withMon s _).trans (tunes_settleRise _)).trans (tunes_triggerRoutine _)).trans (tunes_answer ..)

theorem tunes_takeSetRange (a b : Nat) (q : Caller) (s : State) : Tunes s (takeSetRange a b q s) := by
  unfold takeSetRange
  split
  · exact tunes_answer ..
  · exact (((tunes_withMon s _).trans (tunes_settle _)).trans (tunes_triggerRoutine _)).trans (tunes_answer ..)

theorem tunes_takeResetSlot (i : Nat) (q : Caller) (s : State) : Tunes s (takeResetSlot i q s) := by
  unfold takeResetSlot
  split
  · exact tunes_answer ..
  · exact ((tunes_withMon s _).trans (tunes_settle _)).trans (tunes_answer ..)

theorem tunes_takeInject (i : Nat) (v : Int) (q : Caller) (s : State) : Tunes s (takeInject i v q s) := by
  unfold takeInject
  split
  · exact tunes_answer ..
  · exact ((tunes_withMon s _).trans (tunes_triggerRoutine _)).trans (tunes_answer ..)

theorem tunes_takeWithdraw (i : Nat) (q : Caller) (s : State) : Tunes s (takeWithdraw i q s) := by
  unfold takeWithdraw
  split
  · exact tunes_answer ..
  · exact ((tunes_withMon s _).trans (tunes_triggerRoutine _)).trans (tunes_answer ..)

/-- A request that writes the monitor leaves the ship data store, the condition, the records and the running job. -/
theorem tunes_serve {r : Request} (hw : writesStoreOrMonitor r = true) (hs : writesStore r = false) (q : Caller) (s : State) :
    Tunes s (serve r q s) := by
  cases r with
  | setCriterion i c l hy n a => exact tunes_takeSetCriterion i c l hy n a q s
  | setRange a b => exact tunes_takeSetRange a b q s
  | resetSlot i => exact tunes_takeResetSlot i q s
  | inject i v => exact tunes_takeInject i v q s
  | withdraw i => exact tunes_takeWithdraw i q s
  | readAlarms => exact (tunes_answer ..).trans (tunes_withMon ..)
  | openData => cases hs
  | writeData k i fs => cases hs
  | closeData w => cases hs
  | _ => cases hw

/-- The start of a job changes the evaluation unit alone. -/
theorem startJob_ship (s : State) : (startJob s).ship = s.ship := by rw [startJob_eq]

/-- A routine completion: work on the monitor, the banks and the attention unit, and then the engine is free. -/
theorem completeRoutine_tunes (v : Version) (slung : Bool) (f : FigureSet) (dis : Option Int) (s : State) :
    ∃ u, Tunes s u ∧ completeRoutine v slung f dis s = u.withEval { u.eval with engine := none } := by
  obtain ⟨hship, hcond, hlifts, hengine⟩ := tunes_judgeResult (judgeAll s.mon slung f dis)
    (routineRecord s v slung f dis (judgeAll s.mon slung f dis)).seq s
  refine ⟨_, Tunes.trans ?_ (tunes_startInterval _), rfl⟩
  exact ⟨hship, hcond, hlifts, hengine⟩

/-- A lift check completion: work on the records, and then the engine is free. -/
theorem completeLift_carries (lead : Crane) (v : Version) (path final : FigureSet) (s : State) :
    ∃ u, Carries s u ∧ completeLift lead v path final s = u.withEval { u.eval with engine := none } :=
  ⟨_, carries_foldl (carries_settleCheck lead _) _ s, rfl⟩

/-- A prospect completion: the record written and the engine free, and then the reply. -/
theorem completeProspect_carries (q : Caller) (r : ProspectResult) (s : State) :
    Carries (s.withEval { s.eval with prospect := some r, lastProspectSeq := r.header.seq, engine := none })
      (completeProspect q r s) := carries_deliver ..

/-- Capture complete: the held changes applied, with the job in its compute stage, or nothing. -/
theorem capturesComplete_cases (s : State) : capturesComplete s = s ∨ ∃ j u, s.eval.engine = some j ∧ Carries s u ∧
    capturesComplete s = u.withEval { u.eval with engine := some { j with stage := .computing } } := by
  unfold capturesComplete
  cases h : s.eval.engine with
  | none => exact .inl rfl
  | some j =>
    dsimp only
    split
    · exact .inr ⟨j, _, rfl, (carries_hold [] s).trans (carries_foldl carries_applyHeld _ _), rfl⟩
    · exact .inl rfl

/-! ### The stored image stays tested (R13, R14) -/

/-- A PRESENT image stays tested while the ship data store is the same. -/
theorem ImageChecked.of_ship {s t : State} (h : ImageChecked s) (ht : t.ship = s.ship) : ImageChecked t := by
  unfold ImageChecked
  rw [ht]
  exact h

theorem imageChecked_takeOpenData {q : Caller} {s : State} (h : ImageChecked s) : ImageChecked (takeOpenData q s) := by
  unfold takeOpenData
  cases hf : openFault s with
  | some st => exact h.of_ship rfl
  | none =>
    have hidle : s.ship.committing = none := by
      unfold openFault at hf
      split at hf
      · cases hf
      · next hc => exact Option.not_isSome_iff_eq_none.1 hc
    refine ImageChecked.of_ship (s := openLoad s) ?_ (tunes_answer ..).ship
    rw [openLoad_eq]
    exact ⟨fun hp => (nomatch hp), fun hc => (by rw [hidle] at hc; cases hc), fun hm => (nomatch hm)⟩

theorem imageChecked_takeWriteData {kind index : Nat} {fields : List FieldWord} {q : Caller} {s : State}
    (h : ImageChecked s) : ImageChecked (takeWriteData kind index fields q s) := by
  unfold takeWriteData
  split
  · exact h.of_ship rfl
  · next hl =>
    split
    · exact h.of_ship rfl
    · next b _ =>
      obtain ⟨hpresent, -, hservice⟩ := h
      obtain ⟨-, hidle⟩ := not_or.1 hl
      exact ⟨hpresent, fun hc => absurd hc hidle, hservice⟩

theorem imageChecked_takeCloseData {w : CheckWord} {q : Caller} {s : State} (h : ImageChecked s) :
    ImageChecked (takeCloseData w q s) := by
  unfold takeCloseData
  split
  · exact h.of_ship rfl
  · next hl =>
    obtain ⟨hpresent, hcommit, hservice⟩ := h
    obtain ⟨hmode, hidle⟩ := not_or.1 hl
    split
    · next reason _ _ _ =>
      refine ImageChecked.of_ship
        (s := s.withShip { s.ship with buffer := .blank, mode := .dataFault, faultReason := some reason })
        ⟨hpresent, fun hc => absurd hc hidle, fun hm => (nomatch hm)⟩ ?_
      rw [(tunes_answer ..).ship, changeMode_ship]
      rfl
    · next hf => exact ⟨hpresent, fun _ => ⟨(closeFault_eq_none.1 hf).1, not_not.1 hmode⟩, hservice⟩

/-- A verification leaves the store but for its mode and the SLOTS UNLOADED mark, and serves a PRESENT image alone. -/
theorem imageChecked_verifyEnds {s : State} (h : ImageChecked s) : ImageChecked (verifyEnds s) := by
  by_cases hm : s.ship.mode = .verify
  · obtain ⟨hpresent, hcommit, -⟩ := h
    have hidle (hc : s.ship.committing.isSome = true) : False := by
      obtain ⟨-, hload⟩ := hcommit hc
      rw [hm] at hload
      cases hload
    by_cases hp : s.ship.present = true
    · by_cases hw : s.ship.image.check = s.ship.checkWord
      · rw [verifyEnds_serves hm hp hw, enterService_eq]
        split
        · rw [loadSlots_eq]
          exact ⟨hpresent, fun hc => (hidle hc).elim, fun _ => hp⟩
        · exact ⟨hpresent, fun hc => (hidle hc).elim, fun _ => hp⟩
      · rw [verifyEnds_fails hm (.inr ⟨hp, hw, rfl⟩)]
        exact ⟨hpresent, fun hc => (hidle hc).elim, fun hserve => (nomatch hserve)⟩
    · rw [verifyEnds_fails hm (.inl ⟨Bool.eq_false_iff.2 hp, rfl⟩)]
      exact ⟨hpresent, fun hc => (hidle hc).elim, fun hserve => (nomatch hserve)⟩
  · unfold verifyEnds
    rw [if_pos hm]
    exact h

/-- Without a commit in progress the end of a commit changes nothing (log 5). -/
theorem commitEnds_idle {s : State} (h : s.ship.committing = none) : commitEnds s = s := by
  unfold commitEnds
  rw [h]

/-- A commit stores the buffer, which passed the tests at CLOSE DATA (R14). -/
theorem imageChecked_commitEnds {s : State} (h : ImageChecked s) : ImageChecked (commitEnds s) := by
  cases hc : s.ship.committing with
  | none => rwa [commitEnds_idle hc]
  | some q =>
    obtain ⟨-, hcommit, -⟩ := h
    obtain ⟨htested, -⟩ := hcommit (by rw [hc]; rfl)
    rw [commitEnds_eq hc]
    exact ⟨fun _ => htested, fun hsome => (nomatch hsome), fun _ => rfl⟩

/-- A request that writes the store keeps its image tested. -/
theorem imageChecked_serve {r : Request} (hr : writesStoreOrMonitor r = true) (q : Caller) {s : State} (h : ImageChecked s) :
    ImageChecked (serve r q s) := by
  by_cases hw : writesStore r = true
  · cases r with
    | openData => exact imageChecked_takeOpenData h
    | writeData k i fs => exact imageChecked_takeWriteData h
    | closeData w => exact imageChecked_takeCloseData h
    | _ => cases hw
  · exact h.of_ship (tunes_serve hr (Bool.eq_false_iff.2 hw) q s).ship

/-- Every step keeps a PRESENT image tested. -/
theorem stepKeeps_imageChecked : StepKeeps ImageChecked where
  carries h k := h.of_ship k.ship
  writes _ q _ hr h := imageChecked_serve hr q h
  startJob s h := h.of_ship (startJob_ship s)
  capturesComplete s h := by
    rcases capturesComplete_cases s with hsame | ⟨j, u, -, hu, heq⟩
    · rwa [hsame]
    · rw [heq]
      exact h.of_ship hu.ship
  completeRoutine v slung f dis s h := by
    obtain ⟨u, hu, heq⟩ := completeRoutine_tunes v slung f dis s
    rw [heq]
    exact h.of_ship hu.ship
  completeLift lead v path final s h := by
    obtain ⟨u, hu, heq⟩ := completeLift_carries lead v path final s
    rw [heq]
    exact h.of_ship hu.ship
  completeProspect q r s h := h.of_ship (completeProspect_carries q r s).ship
  coldRestart straps s h := by
    rw [coldRestart_eq]
    exact ⟨h.1, fun hc => (nomatch hc), fun hm => (nomatch hm)⟩
  warmRestart cause straps s h := by
    rw [warmRestart_eq]
    exact ⟨h.1, fun hc => (nomatch hc), fun hm => (nomatch hm)⟩
  verifyEnds _ h := imageChecked_verifyEnds h
  commitEnds _ h := imageChecked_commitEnds h

/-! ### The slots stay in shape (R103, R106, R108) -/

/-- A slot at an index of a monitor with a range: in shape, and CLEAR with counter 0 outside the effective range. -/
def SlotFits (start stop i : Nat) (o : Slot) : Prop :=
  o.Shaped ∧ (inRange start stop i = false → o.alarm = false ∧ o.count = 0)

/-- The monitor in shape, slot by slot. -/
structure MonitorFits (m : Monitor) : Prop where
  length : m.slots.length = Config.slotCount
  start : m.rangeStart < Config.slotCount
  stop : m.rangeStop < Config.slotCount
  slots : ∀ i, SlotFits m.rangeStart m.rangeStop i (m.slots.getD i .unused)

/-- A slot that is CLEAR with counter 0 and holds an N within 1..8 fits at every index. -/
theorem slotFits_clear {start stop i : Nat} {o : Slot} (h1 : 1 ≤ o.set.n) (h8 : o.set.n ≤ 8) (halarm : o.alarm = false)
    (hcount : o.count = 0) : SlotFits start stop i o :=
  ⟨⟨h1, h8, by omega, fun h => absurd h (by simp [halarm]), fun _ => ⟨halarm, hcount⟩⟩, fun _ => ⟨halarm, hcount⟩⟩

theorem slotFits_unused (start stop i : Nat) : SlotFits start stop i .unused :=
  slotFits_clear (by decide) (by decide) rfl rfl

/-- The shape of the monitor, slot by slot: an index without a slot counts as an unused one. -/
theorem monitorShaped_iff {s : State} : MonitorShaped s ↔ MonitorFits s.mon := by
  constructor
  · rintro ⟨hlen, hall, hstart, hstop, hout⟩
    refine ⟨hlen, hstart, hstop, fun i => ⟨?_, hout i⟩⟩
    by_cases hi : i < s.mon.slots.length
    · rw [List.getD_eq_getElem _ _ hi]
      exact hall _ (List.getElem_mem hi)
    · rw [List.getD_eq_default _ _ (not_lt.1 hi)]
      exact (slotFits_unused 0 0 0).1
  · rintro ⟨hlen, hstart, hstop, hfits⟩
    refine ⟨hlen, fun o ho => ?_, hstart, hstop, fun i => (hfits i).2⟩
    obtain ⟨i, hi, rfl⟩ := List.getElem_of_mem ho
    rw [← List.getD_eq_getElem _ .unused hi]
    exact (hfits i).1

/-- The shape of the monitor rests on its slots and its range. -/
theorem MonitorFits.of_same {m x : Monitor} (h : MonitorFits m) (hslots : x.slots = m.slots)
    (hstart : x.rangeStart = m.rangeStart) (hstop : x.rangeStop = m.rangeStop) : MonitorFits x := by
  obtain ⟨hlen, hlo, hhi, hfits⟩ := h
  exact ⟨hslots ▸ hlen, hstart ▸ hlo, hstop ▸ hhi, by rw [hslots, hstart, hstop]; exact hfits⟩

/-- Every slot unused and the range 0..0 is in shape (R10, R19). -/
theorem monitorFits_allNone (sticky : PerPort (List Nat)) (primed : Bool) (e : Option Action) (n : Nat) :
    MonitorFits ⟨Slot.allNone, 0, 0, sticky, primed, e, n⟩ :=
  ⟨rfl, Nat.zero_lt_succ 15, Nat.zero_lt_succ 15, fun i => by
    have hslot : Slot.allNone.getD i .unused = .unused := by
      rw [Slot.allNone, List.getD_eq_getElem?_getD, List.getElem?_replicate]
      split <;> rfl
    show SlotFits 0 0 i (Slot.allNone.getD i .unused)
    rw [hslot]
    exact slotFits_unused 0 0 i⟩

/-! #### Slots loaded from an image (R103) -/

/-- The record of a tested image gives its slot an N within 1..8, with code NONE as well (R7, log 35). -/
theorem settingsOfRecord_n {r : CriterionRecord} (h : GoodCriterion r) :
    1 ≤ (settingsOfRecord r).n ∧ (settingsOfRecord r).n ≤ 8 := by
  by_cases hcode : codeOfNumber r.code = .none
  · obtain ⟨hlo, hhi, -⟩ := unchecked_spec 3 (lo := 1) (hi := 8) r.n (by decide)
    rw [settingsOfRecord_none hcode]
    dsimp only
    omega
  · have hne : r.code ≠ 0 := fun h0 => hcode (by rw [h0]; rfl)
    obtain ⟨-, -, hranges⟩ := h
    obtain ⟨-, -, -, -, h1, h8, -⟩ := hranges hne
    rw [settingsOfRecord_coded hcode]
    dsimp only
    omega

/-- The slots of a tested image fit any range. -/
theorem slotFits_slots {img : Image} (h : img.fault = none) (start stop i : Nat) :
    SlotFits start stop i (img.slots.getD i .unused) := by
  obtain ⟨-, -, -, -, -, hcriteria, -⟩ := fault_eq_none.1 h
  rw [List.getD_eq_getElem?_getD]
  by_cases hi : i < Config.slotCount
  · rw [slots_at img hi]
    cases hr : img.criteria.find i with
    | none => exact slotFits_unused start stop i
    | some r =>
      obtain ⟨h1, h8⟩ := settingsOfRecord_n (criteriaFault_eq_none.1 hcriteria _ (Table.mem_of_find hr))
      exact slotFits_clear h1 h8 rfl rfl
  · rw [List.getElem?_eq_none (by rw [slots_length]; exact not_lt.1 hi)]
    exact slotFits_unused start stop i

/-- The range of a tested image lies within 0..15 (R2). -/
theorem range_of_tested {img : Image} (h : img.fault = none) :
    img.range.1 < Config.slotCount ∧ img.range.2 < Config.slotCount := by
  obtain ⟨hparticulars, -⟩ := fault_eq_none.1 h
  obtain ⟨p, hp, -, -, h0, h15, k0, k15⟩ := particularsFault_eq_none.1 hparticulars
  rw [range_of_particulars hp]
  show p.rangeStart.toNat < 16 ∧ p.rangeStop.toNat < 16
  omega

/-- The slots and the range loaded from a tested image are in shape (R14, R16). -/
theorem monitorFits_loaded {img : Image} (h : img.fault = none) (sticky : PerPort (List Nat)) (primed : Bool)
    (e : Option Action) (n : Nat) : MonitorFits ⟨img.slots, img.range.1, img.range.2, sticky, primed, e, n⟩ :=
  ⟨slots_length img, (range_of_tested h).1, (range_of_tested h).2, slotFits_slots h _ _⟩

/-! #### Slots changed by a setting (R116 to R119) -/

/-- One slot changed by a function that keeps it fitting. -/
theorem MonitorFits.modify {m : Monitor} (h : MonitorFits m) (i : Nat) {f : Slot → Slot}
    (hf : ∀ o, SlotFits m.rangeStart m.rangeStop i o → SlotFits m.rangeStart m.rangeStop i (f o)) :
    MonitorFits { m with slots := m.slots.modify i f } := by
  obtain ⟨hlen, hstart, hstop, hfits⟩ := h
  refine ⟨by rw [← hlen]; exact List.length_modify .., hstart, hstop, fun j => ?_⟩
  have hj := hfits j
  dsimp only
  rw [List.getD_eq_getElem?_getD] at hj ⊢
  rw [List.getElem?_modify]
  cases ho : m.slots[j]? with
  | none => exact slotFits_unused ..
  | some o =>
    rw [ho] at hj
    by_cases hij : i = j
    · subst hij
      simpa using hf o hj
    · simpa [hij] using hj

/-- A slot with settings in their ranges fits where the slot before did (R116). -/
theorem slotFits_newSettings {start stop i : Nat} {st : Settings} (h1 : st.code ≠ .none → 1 ≤ st.n ∧ st.n ≤ 8) {o : Slot}
    (h : SlotFits start stop i o) : SlotFits start stop i (newSettings st o) := by
  unfold newSettings
  split
  · exact slotFits_unused ..
  · next hcode =>
    obtain ⟨-, hout⟩ := h
    obtain ⟨hlo, hhi⟩ := h1 hcode
    refine ⟨⟨hlo, hhi, ?_, fun ha => if_pos ha, fun hn => absurd hn hcode⟩, fun hr => ?_⟩
    · dsimp only
      split <;> omega
    · obtain ⟨halarm, hcount⟩ := hout hr
      simp [halarm, hcount]

/-- A slot CLEAR with counter 0 fits where the slot before did (R118). -/
theorem slotFits_cleared {start stop i : Nat} {o : Slot} (h : o.Shaped) :
    SlotFits start stop i (cleared o) := by
  obtain ⟨h1, h8, -⟩ := h
  exact slotFits_clear h1 h8 rfl rfl

/-- An injected value leaves the shape of its slot (R119). -/
theorem slotFits_injected {start stop i : Nat} (v : Option Int) {o : Slot} (h : SlotFits start stop i o) :
    SlotFits start stop i { o with injected := v } := h

/-- What clearing the leavers of a range does to each slot (R117). -/
theorem getD_clearLeavers (was now : Nat → Bool) (k i : Nat) (l : List Slot) :
    (clearLeavers was now k l).getD i .unused =
      if was (k + i) && !now (k + i) then cleared (l.getD i .unused) else l.getD i .unused := by
  induction l generalizing k i with
  | nil =>
    show Slot.unused = if _ then cleared Slot.unused else Slot.unused
    split <;> rfl
  | cons o l ih =>
    cases i with
    | zero => rfl
    | succ i =>
      rw [← Nat.add_assoc, Nat.add_right_comm]
      exact ih (k + 1) i

theorem length_clearLeavers (was now : Nat → Bool) (k : Nat) (l : List Slot) :
    (clearLeavers was now k l).length = l.length := by
  induction l generalizing k with
  | nil => rfl
  | cons o l ih => exact congrArg (· + 1) (ih (k + 1))

/-- A new range within 0..15 keeps the monitor in shape: the slots that leave it are cleared (R117). -/
theorem MonitorFits.reRange {m : Monitor} (h : MonitorFits m) {start stop : Nat} (hstart : start < Config.slotCount)
    (hstop : stop < Config.slotCount) : MonitorFits (m.reRange start stop) := by
  obtain ⟨hlen, -, -, hfits⟩ := h
  refine ⟨(length_clearLeavers ..).trans hlen, hstart, hstop, fun i => ?_⟩
  obtain ⟨hshaped, hout⟩ := hfits i
  show SlotFits start stop i ((clearLeavers _ _ 0 m.slots).getD i .unused)
  rw [getD_clearLeavers, Nat.zero_add]
  split
  · exact slotFits_cleared hshaped
  · next hstay =>
    refine ⟨hshaped, fun hnow => hout ?_⟩
    simpa [hnow] using hstay

/-! #### Slots judged (R107, R108) -/

/-- A slot that holds a criterion stays in shape when it is judged on a value (R108). -/
theorem shaped_moveSlot {o : Slot} (h : o.Shaped) (hcode : o.set.code ≠ .none) (v : Int) : (moveSlot o v).Shaped := by
  obtain ⟨h1, h8, hcount, -, -⟩ := h
  unfold moveSlot
  split
  · split
    · exact ⟨h1, h8, Nat.zero_le _, fun ha => (nomatch ha), fun _ => ⟨rfl, rfl⟩⟩
    · exact ⟨h1, h8, le_rfl, fun _ => rfl, fun hn => absurd hn hcode⟩
  · next hclear =>
    split
    · split
      · next hless => exact ⟨h1, h8, le_of_lt hless, fun ha => absurd ha hclear, fun hn => absurd hn hcode⟩
      · exact ⟨h1, h8, le_rfl, fun _ => rfl, fun hn => absurd hn hcode⟩
    · exact ⟨h1, h8, Nat.zero_le _, fun ha => absurd ha hclear, fun hn => absurd hn hcode⟩

/-- A slot has a value to be judged on inside the effective range alone, and never with code NONE (R105, R107). -/
theorem judgedValue_some {m : Monitor} {k : PassKind} {f : FigureSet} {dis : Option Int} {i : Nat} {o : Slot} {x : Int × Bool}
    (h : judgedValue m k f dis i o = some x) : inRange m.rangeStart m.rangeStop i = true ∧ o.set.code ≠ .none := by
  unfold judgedValue at h
  split at h
  · next hc =>
    obtain ⟨hr, ha⟩ := Bool.and_eq_true_iff.1 hc
    exact ⟨hr, fun hn => by rw [hn] at ha; cases ha⟩
  · cases h

/-- A judged slot fits where the slot before did. -/
theorem slotFits_judgeSlot {m : Monitor} (k : PassKind) (f : FigureSet) (dis : Option Int) {i : Nat} {o : Slot}
    (h : SlotFits m.rangeStart m.rangeStop i o) :
    SlotFits m.rangeStart m.rangeStop i (judgeSlot m k f dis i o).slot := by
  unfold judgeSlot
  split
  · exact h
  · next hv =>
    obtain ⟨hin, hcode⟩ := judgedValue_some hv
    exact ⟨shaped_moveSlot h.1 hcode _, fun hout => absurd hin (by simp [hout])⟩

/-- The slot that judging leaves at an index; an unused slot is left as it is. -/
theorem getD_judgeFrom (m : Monitor) (k : PassKind) (f : FigureSet) (dis : Option Int) (n i : Nat) (l : List Slot) :
    ((judgeFrom m k f dis n l).map Judged.slot).getD i .unused = (judgeSlot m k f dis (n + i) (l.getD i .unused)).slot := by
  induction l generalizing n i with
  | nil =>
    have hnone : judgedValue m k f dis (n + i) .unused = none := by
      by_contra hsome
      obtain ⟨x, hx⟩ := Option.ne_none_iff_exists'.1 hsome
      exact (judgedValue_some hx).2 rfl
    show Slot.unused = (judgeSlot m k f dis (n + i) .unused).slot
    unfold judgeSlot
    rw [hnone]
  | cons o l ih =>
    cases i with
    | zero => rfl
    | succ i =>
      rw [← Nat.add_assoc, Nat.add_right_comm]
      exact ih (n + 1) i

theorem length_judgeFrom (m : Monitor) (k : PassKind) (f : FigureSet) (dis : Option Int) (n : Nat) (l : List Slot) :
    (judgeFrom m k f dis n l).length = l.length := by
  induction l generalizing n with
  | nil => rfl
  | cons o l ih => exact congrArg (· + 1) (ih (n + 1))

/-- The judging of a routine result keeps the monitor in shape (R109). -/
theorem monitorFits_judgeResult {slung : Bool} {f : FigureSet} {dis : Option Int} (seq : Nat) {s : State}
    (h : MonitorFits s.mon) : MonitorFits (judgeResult (judgeAll s.mon slung f dis) seq s).mon := by
  have hjudged : MonitorFits { s.mon with slots := (judgeAll s.mon slung f dis).judged.map Judged.slot } := by
    refine ⟨by rw [List.length_map]; exact (length_judgeFrom ..).trans h.length, h.start, h.stop, fun i => ?_⟩
    show SlotFits _ _ i (((judgeFrom s.mon _ f dis 0 s.mon.slots).map Judged.slot).getD i .unused)
    rw [getD_judgeFrom, Nat.zero_add]
    exact slotFits_judgeSlot _ f dis (h.slots i)
  unfold judgeResult
  dsimp only
  split
  · rw [settle_mon]
    exact hjudged.of_same rfl rfl rfl
  · rw [raiseAll_mon, settle_mon]
    exact hjudged.of_same rfl rfl rfl

/-! #### The requests to the monitor -/

theorem settleRise_slots (s : State) : (settleRise s).mon = { s.mon with effective := effectiveOf s.mon.slots } := by
  unfold settleRise
  dsimp only
  split
  · exact settle_mon s
  · exact settle_mon s

theorem monitorFits_takeSetCriterion {i : Nat} {code : Option Code} {l h n : Int} {a : Option Action} {q : Caller} {s : State}
    (hs : MonitorFits s.mon) : MonitorFits (takeSetCriterion i code l h n a q s).mon := by
  unfold takeSetCriterion
  split
  · exact hs
  · next c =>
    split
    · exact hs
    · next hok =>
      obtain ⟨-, hsettings⟩ := not_or.1 hok
      have hn (hc : c ≠ .none) : 1 ≤ n.toNat ∧ n.toNat ≤ 8 := by
        simp only [settingsOk, Bool.not_eq_false, Bool.or_eq_true, beq_iff_eq, hc, false_or, Bool.and_eq_true,
          within_iff] at hsettings
        omega
      have hslot := hs.modify i (f := newSettings ⟨c, l, h, n.toNat, a.getD .note⟩) fun o ho => slotFits_newSettings hn ho
      show MonitorFits (triggerRoutine (settleRise _)).mon
      rw [triggerRoutine_mon, settleRise_slots]
      exact hslot.of_same rfl rfl rfl

theorem monitorFits_takeSetRange {a b : Nat} {q : Caller} {s : State} (hs : MonitorFits s.mon) :
    MonitorFits (takeSetRange a b q s).mon := by
  unfold takeSetRange
  split
  · exact hs
  · next hok =>
    simp only [slotIndexOk, decide_eq_false_iff_not, not_or, not_not] at hok
    obtain ⟨ha, hb⟩ := hok
    show MonitorFits (triggerRoutine (settle _)).mon
    rw [triggerRoutine_mon, settle_mon]
    exact (hs.reRange ha hb).of_same rfl rfl rfl

theorem monitorFits_takeResetSlot {i : Nat} {q : Caller} {s : State} (hs : MonitorFits s.mon) :
    MonitorFits (takeResetSlot i q s).mon := by
  unfold takeResetSlot
  split
  · exact hs
  · show MonitorFits (settle _).mon
    rw [settle_mon]
    exact (hs.modify i (f := cleared) fun o ho => slotFits_cleared ho.1).of_same rfl rfl rfl

theorem monitorFits_takeInject {i : Nat} {v : Int} {q : Caller} {s : State} (hs : MonitorFits s.mon) :
    MonitorFits (takeInject i v q s).mon := by
  unfold takeInject
  split
  · exact hs
  · show MonitorFits (triggerRoutine _).mon
    rw [triggerRoutine_mon]
    exact hs.modify i fun o ho => slotFits_injected (some v) ho

theorem monitorFits_takeWithdraw {i : Nat} {q : Caller} {s : State} (hs : MonitorFits s.mon) :
    MonitorFits (takeWithdraw i q s).mon := by
  unfold takeWithdraw
  split
  · exact hs
  · show MonitorFits (triggerRoutine _).mon
    rw [triggerRoutine_mon]
    exact hs.modify i fun o ho => slotFits_injected none ho

theorem monitorFits_takeOpenData {q : Caller} {s : State} (hs : MonitorFits s.mon) : MonitorFits (takeOpenData q s).mon := by
  unfold takeOpenData
  split
  · exact hs
  · rw [answer_mon, openLoad_eq]
    exact monitorFits_allNone ..

theorem monitorFits_takeWriteData {kind index : Nat} {fields : List FieldWord} {q : Caller} {s : State}
    (hs : MonitorFits s.mon) : MonitorFits (takeWriteData kind index fields q s).mon := by
  unfold takeWriteData
  split
  · exact hs
  · split <;> exact hs

theorem monitorFits_takeCloseData {w : CheckWord} {q : Caller} {s : State} (hs : MonitorFits s.mon) :
    MonitorFits (takeCloseData w q s).mon := by
  unfold takeCloseData
  split
  · exact hs
  · split
    · rw [answer_mon, changeMode_mon]
      exact hs
    · exact hs

/-- The requests that write the store or the monitor keep the monitor in shape. -/
theorem monitorFits_serve {r : Request} (hr : writesStoreOrMonitor r = true) (q : Caller) {s : State} (h : MonitorFits s.mon) :
    MonitorFits (serve r q s).mon := by
  cases r with
  | openData => exact monitorFits_takeOpenData h
  | writeData k i fs => exact monitorFits_takeWriteData h
  | closeData w => exact monitorFits_takeCloseData h
  | setCriterion i c l hy n a => exact monitorFits_takeSetCriterion h
  | setRange a b => exact monitorFits_takeSetRange h
  | resetSlot i => exact monitorFits_takeResetSlot h
  | inject i v => exact monitorFits_takeInject h
  | withdraw i => exact monitorFits_takeWithdraw h
  | readAlarms => exact h.of_same rfl rfl rfl
  | _ => cases hr

/-- A routine completion keeps the monitor in shape. -/
theorem monitorFits_completeRoutine {v : Version} {slung : Bool} {f : FigureSet} {dis : Option Int} {s : State}
    (h : MonitorFits s.mon) : MonitorFits (completeRoutine v slung f dis s).mon := by
  show MonitorFits (startInterval _).mon
  rw [startInterval_mon]
  exact monitorFits_judgeResult _ h

/-- A verification that enters service from a tested image keeps the monitor in shape. -/
theorem monitorFits_verifyEnds {s : State} (hI : ImageChecked s) (h : MonitorFits s.mon) : MonitorFits (verifyEnds s).mon := by
  unfold verifyEnds
  split
  · exact h
  · split
    · rwa [changeMode_mon]
    · next hp =>
      obtain ⟨hpresent, -⟩ := hI
      split
      · rwa [changeMode_mon]
      · rw [enterService_eq]
        split
        · rw [loadSlots_eq]
          exact monitorFits_loaded (hpresent (Bool.not_eq_false _ ▸ hp)) ..
        · exact h.of_same rfl rfl rfl

/-- A commit of a tested buffer keeps the monitor in shape. -/
theorem monitorFits_commitEnds {s : State} (hI : ImageChecked s) (h : MonitorFits s.mon) : MonitorFits (commitEnds s).mon := by
  cases hc : s.ship.committing with
  | none => rwa [commitEnds_idle hc]
  | some q =>
    obtain ⟨-, hcommit, -⟩ := hI
    obtain ⟨htested, -⟩ := hcommit (by rw [hc]; rfl)
    rw [commitEnds_eq hc]
    exact monitorFits_loaded htested ..

/-- Every step keeps the monitor in shape, with the image tested. -/
theorem stepKeeps_monitorFits : StepKeeps (fun s => ImageChecked s ∧ MonitorFits s.mon) where
  carries h k := ⟨stepKeeps_imageChecked.carries h.1 k, k.mon ▸ h.2⟩
  writes r q s hr h := ⟨stepKeeps_imageChecked.writes r q s hr h.1, monitorFits_serve hr q h.2⟩
  startJob s h := ⟨stepKeeps_imageChecked.startJob s h.1, by rw [startJob_eq]; exact h.2⟩
  capturesComplete s h := by
    refine ⟨stepKeeps_imageChecked.capturesComplete s h.1, ?_⟩
    rcases capturesComplete_cases s with hsame | ⟨j, u, -, hu, heq⟩
    · rw [hsame]
      exact h.2
    · rw [heq]
      exact hu.mon ▸ h.2
  completeRoutine v slung f dis s h :=
    ⟨stepKeeps_imageChecked.completeRoutine v slung f dis s h.1, monitorFits_completeRoutine h.2⟩
  completeLift lead v path final s h := by
    refine ⟨stepKeeps_imageChecked.completeLift lead v path final s h.1, ?_⟩
    obtain ⟨u, hu, heq⟩ := completeLift_carries lead v path final s
    rw [heq]
    exact hu.mon ▸ h.2
  completeProspect q r s h :=
    ⟨stepKeeps_imageChecked.completeProspect q r s h.1, (completeProspect_carries q r s).mon ▸ h.2⟩
  coldRestart straps s h :=
    ⟨stepKeeps_imageChecked.coldRestart straps s h.1, by rw [coldRestart_eq]; exact monitorFits_allNone ..⟩
  warmRestart cause straps s h :=
    ⟨stepKeeps_imageChecked.warmRestart cause straps s h.1, by rw [warmRestart_eq]; exact h.2.of_same rfl rfl rfl⟩
  verifyEnds s h := ⟨stepKeeps_imageChecked.verifyEnds s h.1, monitorFits_verifyEnds h.1 h.2⟩
  commitEnds s h := ⟨stepKeeps_imageChecked.commitEnds s h.1, monitorFits_commitEnds h.1 h.2⟩

/-- Settles O56: the stored image stays tested, and from a tested image the slots stay in shape. -/
theorem everyStepKeepsTheMonitorInShape : Obligations.EveryStepKeepsTheMonitorInShape := by
  intro s t hI hst
  refine ⟨stepKeeps_imageChecked.step hI hst, fun hM => ?_⟩
  obtain ⟨-, hfits⟩ := stepKeeps_monitorFits.step ⟨hI, monitorShaped_iff.1 hM⟩ hst
  exact monitorShaped_iff.2 hfits

end Sys2Proof.Machine
end

section
namespace Sys2Proof.Machine
open Sys2Proof

/-! ### Rounded quotients within bounds (R51) -/

/-- A rounded quotient of a number that is not negative is not negative. -/
theorem roundDiv_nonneg {n d : Int} (hn : 0 ≤ n) (hd : 0 < d) : 0 ≤ roundDiv n d := by
  unfold roundDiv
  dsimp only
  rw [if_neg (not_lt.2 hn)]
  exact Int.ediv_nonneg (by omega) (by omega)

/-- A rounded quotient does not exceed a whole number that the exact one does not exceed. -/
theorem roundDiv_le {n d k : Int} (hd : 0 < d) (hk : 0 ≤ k) (h : n ≤ k * d) : roundDiv n d ≤ k := by
  unfold roundDiv
  dsimp only
  split
  · have : 0 ≤ (2 * (n.natAbs : Int) + d) / (2 * d) := Int.ediv_nonneg (by omega) (by omega)
    omega
  · refine Int.lt_add_one_iff.1 (Int.ediv_lt_of_lt_mul (by omega) ?_)
    have hbound : (k + 1) * (2 * d) = 2 * (k * d) + 2 * d := by ring
    omega

/-- A rounded quotient is not below a whole number, not above 0, that the exact one is not below. -/
theorem neg_le_roundDiv {n d k : Int} (hd : 0 < d) (hk : 0 ≤ k) (h : -(k * d) ≤ n) : -k ≤ roundDiv n d := by
  unfold roundDiv
  dsimp only
  split
  · refine neg_le_neg (Int.lt_add_one_iff.1 (Int.ediv_lt_of_lt_mul (by omega) ?_))
    have hbound : (k + 1) * (2 * d) = 2 * (k * d) + 2 * d := by ring
    omega
  · have : 0 ≤ (2 * (n.natAbs : Int) + d) / (2 * d) := Int.ediv_nonneg (by omega) (by omega)
    omega

/-- A value interpolated between two values is not below the lower of them (R60). -/
theorem le_interpolated {a b x d m : Int} (ha : m ≤ a) (hb : m ≤ b) (hx : 0 ≤ x) (hxd : x ≤ d) (hd : 0 < d) :
    m ≤ a + roundDiv ((b - a) * x) d := by
  by_cases hab : a ≤ b
  · have := roundDiv_nonneg (mul_nonneg (sub_nonneg.2 hab) hx) hd
    omega
  · have hscaled : (a - b) * x ≤ (a - b) * d := mul_le_mul_of_nonneg_left hxd (by omega)
    have hflip : (b - a) * x = -((a - b) * x) := by ring
    have := neg_le_roundDiv (n := (b - a) * x) (k := a - b) hd (by omega) (by omega)
    omega

/-! ### The hydrostatic table (R60, R61) -/

/-- Two rows that bracket a displacement stand in the table, on either side of it and with rising D. -/
theorem bracket_some {deq : Int} {rows : List HydroRow} {lo hi : HydroRow}
    (hrising : (rows.map (fun r => r.d)).Pairwise (· < ·)) (h : bracket deq rows = some (lo, hi)) :
    lo ∈ rows ∧ hi ∈ rows ∧ lo.d ≤ deq ∧ deq ≤ hi.d ∧ lo.d < hi.d := by
  induction rows with
  | nil => cases h
  | cons a rest ih =>
    cases rest with
    | nil => cases h
    | cons b rest =>
      obtain ⟨hhead, htail⟩ := List.pairwise_cons.1 hrising
      unfold bracket at h
      split at h
      · next hd =>
        obtain ⟨rfl, rfl⟩ : a = lo ∧ b = hi := by simpa using h
        obtain ⟨hlow, hhigh⟩ := hd
        exact ⟨.head _, .tail _ (.head _), hlow, hhigh, hhead _ (.head _)⟩
      · obtain ⟨hlo, hhi, hbetween⟩ := ih htail h
        exact ⟨.tail _ hlo, .tail _ hhi, hbetween⟩

/-- A displacement from the first row of a table of two rows or more up to the last is bracketed. -/
theorem bracket_isSome {deq : Int} {a b last : HydroRow} {rest : List HydroRow}
    (hlast : (b :: rest).getLast? = some last) (hlow : a.d ≤ deq) (hhigh : deq ≤ last.d) :
    (bracket deq (a :: b :: rest)).isSome = true := by
  induction rest generalizing a b with
  | nil =>
    obtain rfl : b = last := by simpa using hlast
    unfold bracket
    rw [if_pos ⟨hlow, hhigh⟩]
    rfl
  | cons c rest ih =>
    unfold bracket
    split
    · rfl
    · next hout =>
      refine ih (a := b) (b := c) (by simpa using hlast) ?_
      by_contra hb
      exact hout ⟨hlow, by omega⟩

/-- Stage 3 answers on a table of two rows or more with rising D and positive MTC, and with a positive MTC (R60, R61). -/
theorem hydroAt_positive {rows : List HydroRow} (deq : Int) (hlen : 2 ≤ rows.length)
    (hrising : (rows.map (fun r => r.d)).Pairwise (· < ·)) (hmtc : ∀ r ∈ rows, 1 ≤ r.mtc) :
    ∃ h, hydroAt deq rows = some h ∧ 0 < h.values.mtc := by
  match rows, hlen with
  | a :: b :: rest, _ =>
    obtain ⟨last, hlast⟩ : ∃ last, (b :: rest).getLast? = some last := ⟨_, List.getLast?_eq_some_getLast (by simp)⟩
    have hwhole : (a :: b :: rest).getLast? = some last := by rw [List.getLast?_cons_cons]; exact hlast
    unfold hydroAt
    rw [hwhole]
    dsimp only [List.head?]
    split
    · exact ⟨_, rfl, hmtc a (.head _)⟩
    · split
      · exact ⟨_, rfl, hmtc last (List.mem_of_getLast? hwhole)⟩
      · next hlow hhigh =>
        obtain ⟨⟨lo, hi⟩, hbracket⟩ := Option.isSome_iff_exists.1
          (bracket_isSome (deq := deq) (a := a) hlast (not_lt.1 hlow) (not_lt.1 hhigh))
        obtain ⟨hlo, hhi, hle, hge, hlt⟩ := bracket_some hrising hbracket
        rw [hbracket]
        have := le_interpolated (hmtc lo hlo) (hmtc hi hhi) (x := deq - lo.d) (d := hi.d - lo.d) (by omega) (by omega)
          (by omega)
        exact ⟨_, rfl, this⟩

/-! ### A figure set forms on a tested image (R77) -/

/-- The length of a tested image is positive (R2). -/
theorem lbp_positive {img : Image} (h : particularsFault img = none) : 0 < img.lbp := by
  obtain ⟨p, hp, hlow, -⟩ := particularsFault_eq_none.1 h
  unfold Image.lbp
  rw [hp]
  dsimp only
  omega

/-- Stage 3 answers on a tested image (R4, R60, R61). -/
theorem hydroAt_tested {img : Image} (h : hydroFault img = none) (deq : Int) :
    (∃ x, hydroAt deq img.rowList = some x ∧ 0 < x.values.mtc) ∧
    ∀ lo hi, bracket deq img.rowList = some (lo, hi) → lo.d < hi.d := by
  obtain ⟨-, hlen, hrows, -, hd⟩ := hydroFault_eq_none.1 h
  have hrising : (img.rowList.map (fun r => r.d)).Pairwise (· < ·) := by
    unfold Image.rowList
    rw [List.map_map]
    exact hd
  refine ⟨hydroAt_positive deq (by rw [Image.rowList, List.length_map]; exact hlen) hrising fun r hr => ?_,
    fun lo hi hb => ?_⟩
  · obtain ⟨e, he, rfl⟩ := List.mem_map.1 hr
    obtain ⟨-, -, -, -, -, -, -, -, -, -, hmtc, -⟩ := hrows e he
    exact hmtc
  · obtain ⟨-, -, -, -, hlt⟩ := bracket_some hrising hb
    exact hlt

/-- Every SP and BP of a tested image is positive (R5). -/
theorem stations_positive {img : Image} (h : stationFault img = none) :
    img.stationList.all (fun st => decide (0 < st.sp) && decide (0 < st.bp)) = true := by
  obtain ⟨-, -, hstations, -⟩ := stationFault_eq_none.1 h
  rw [List.all_eq_true]
  intro st hst
  obtain ⟨e, he, rfl⟩ := List.mem_map.1 hst
  obtain ⟨-, -, -, -, -, -, -, -, hsp, -, hbp, -⟩ := hstations e he
  rw [Bool.and_eq_true, decide_eq_true_eq, decide_eq_true_eq]
  omega

/-- Every max load of a tested image is positive (R6). -/
theorem comps_positive {img : Image} (h : compFault img = none) {e : Nat × CompRecord} (he : e ∈ img.comps) {k : StowKind}
    {m : Int} (huse : e.2.use = .stow k m) : 0 < m := by
  obtain ⟨-, hcomps⟩ := compFault_eq_none.1 h
  obtain ⟨-, -, -, -, -, -, -, -, -, hstow, -⟩ := hcomps e he
  obtain ⟨hlow, -⟩ := hstow k m huse
  omega

/-- On a tested image every divisor of R77 is positive where the displacement and the density of the capture are. -/
theorem divisorsPositive_tested {img : Image} {cap : Capture} (h : img.fault = none) (hdensity : 0 < cap.density)
    (hdelta : 0 < (totalsOf cap).delta) : divisorsPositive img cap = true := by
  obtain ⟨hparticulars, -, hhydro, hstation, hcomp, -⟩ := fault_eq_none.1 h
  obtain ⟨⟨x, hx, hmtc⟩, hbracket⟩ := hydroAt_tested hhydro (totalsOf cap).deq
  unfold divisorsPositive
  rw [stations_positive hstation, decide_eq_true hdelta, decide_eq_true hdensity,
    decide_eq_true (lbp_positive hparticulars), hx]
  dsimp only
  rw [decide_eq_true hmtc]
  refine Bool.and_eq_true_iff.2 ⟨?_, List.all_eq_true.2 fun e he => ?_⟩
  · cases hb : bracket (totalsOf cap).deq img.rowList with
    | none => rfl
    | some rows => simpa using hbracket rows.1 rows.2 hb
  · cases huse : e.2.use with
    | stow k m => exact decide_eq_true (comps_positive hcomp he huse)
    | tank m cx cy fsm => rfl

/-- On a tested image a figure set forms from every capture with a positive displacement and density (R57, R77). -/
theorem figureSet_isSome {img : Image} {cap : Capture} (h : img.fault = none) (hdensity : 0 < cap.density)
    (hdelta : 0 < (totalsOf cap).delta) : (figureSet img cap).isSome = true := by
  obtain ⟨-, -, hhydro, -⟩ := fault_eq_none.1 h
  obtain ⟨⟨x, hx, -⟩, -⟩ := hydroAt_tested hhydro (totalsOf cap).deq
  unfold figureSet
  rw [if_pos (divisorsPositive_tested h hdensity hdelta), hx]
  rfl

/-! ### Captures of a safe state (R54 to R56, R86 to R90, R173) -/

/-- No weight of a list has a negative mass. -/
def NoneNegative (ws : List Weight) : Prop := ∀ w ∈ ws, 0 ≤ w.m

theorem noneNegative_nil : NoneNegative [] := fun _ h => (nomatch h)

theorem noneNegative_single {w : Weight} (h : 0 ≤ w.m) : NoneNegative [w] := fun _ hx => by
  rw [List.mem_singleton.1 hx]
  exact h

theorem NoneNegative.append {a b : List Weight} (ha : NoneNegative a) (hb : NoneNegative b) : NoneNegative (a ++ b) :=
  fun w hw => (List.mem_append.1 hw).elim (ha w) (hb w)

theorem noneNegative_flatMap {α : Type} {l : List α} {f : α → List Weight} (h : ∀ x ∈ l, NoneNegative (f x)) :
    NoneNegative (l.flatMap f) := fun w hw => by
  obtain ⟨x, hx, hwx⟩ := List.mem_flatMap.1 hw
  exact h x hx w hwx

/-- The masses of such a list do not sum to less than 0. -/
theorem NoneNegative.sum {ws : List Weight} (h : NoneNegative ws) : 0 ≤ sumOver (fun w => w.m) ws :=
  List.sum_nonneg fun x hx => by
    obtain ⟨w, hw, rfl⟩ := List.mem_map.1 hx
    exact h w hw

theorem sumOver_append (f : Weight → Int) (a b : List Weight) : sumOver f (a ++ b) = sumOver f a + sumOver f b := by
  unfold sumOver
  rw [List.map_append, List.sum_append]

/-- The lightship of a tested image has mass (R3, R13). -/
theorem lightship_positive {img : Image} (h : lightshipFault img = none) :
    0 < sumOver (fun w => w.m) img.lightshipWeights := by
  obtain ⟨-, -, hblocks, hne⟩ := lightshipFault_eq_none.1 h
  have hsum : sumOver (fun w => w.m) img.lightshipWeights = (img.blocks.map (fun e => e.2.mass)).sum := by
    unfold sumOver Image.lightshipWeights
    rw [List.map_map]
    rfl
  have hnonneg : 0 ≤ (img.blocks.map (fun e => e.2.mass)).sum := List.sum_nonneg fun x hx => by
    obtain ⟨e, he, rfl⟩ := List.mem_map.1 hx
    obtain ⟨hmass, -⟩ := hblocks e he
    exact hmass
  rw [hsum]
  omega

/-- The tanks of a tested image have no negative content (R6, R153). -/
theorem tanks_noneNegative {img : Image} (h : compFault img = none) (fills : Table Nat) :
    NoneNegative (img.tankWeights fills) := by
  obtain ⟨-, hcomps⟩ := compFault_eq_none.1 h
  refine noneNegative_flatMap fun e he => ?_
  obtain ⟨-, -, -, -, -, -, -, -, -, -, htank⟩ := hcomps e he
  unfold tankWeight
  cases huse : e.2.use with
  | stow k m => exact noneNegative_nil
  | tank m cx cy fsm =>
    obtain ⟨hlow, -⟩ := htank m cx cy fsm huse
    dsimp only
    split
    · exact noneNegative_nil
    · exact noneNegative_single (roundDiv_nonneg (mul_nonneg (by omega) (by omega)) (by omega))

/-- A capture on a tested image has a positive displacement where its items have no negative mass. -/
theorem captureOf_delta {s : State} (h : s.ship.image.fault = none) (fills : Table Nat) {items : List Weight}
    (hitems : NoneNegative items) : 0 < (totalsOf (captureOf s fills items)).delta := by
  obtain ⟨-, hlightship, -, -, hcomp, -⟩ := fault_eq_none.1 h
  show 0 < sumOver (fun w => w.m) (_ ++ items ++ _)
  rw [sumOver_append, sumOver_append]
  have := lightship_positive hlightship
  have := hitems.sum
  have := (tanks_noneNegative hcomp fills).sum
  omega

/-- A figure set forms from a capture of a safe state on a tested image. -/
theorem figureSet_captureOf {s : State} (h : s.ship.image.fault = none) (hs : CaptureSafe s) (fills : Table Nat)
    {items : List Weight} (hitems : NoneNegative items) :
    (figureSet s.ship.image (captureOf s fills items)).isSome = true :=
  figureSet_isSome h hs.density (captureOf_delta h fills hitems)

/-- The items placed have no negative mass where each of them has none. -/
theorem noneNegative_placeItems {s : State} (hs : CaptureSafe s) {f : Nat → ItemRecord → List Weight}
    (hf : ∀ tag it, 0 ≤ it.mass → NoneNegative (f tag it)) : NoneNegative (placeItems s f) :=
  noneNegative_flatMap fun e he => hf e.1 e.2 (hs.masses e he)

theorem noneNegative_itemAtGoal (tag : Nat) {m : Int} (h : 0 ≤ m) (g : Goal) : NoneNegative (itemAtGoal tag m g) := by
  cases g with
  | ashore => exact noneNegative_nil
  | place pl => exact noneNegative_single h

theorem noneNegative_hookAtMaybe (tag : Nat) {m : Int} (h : 0 ≤ m) (q : Option Point) :
    NoneNegative (hookAtMaybe tag m q) := by
  cases q with
  | none => exact noneNegative_nil
  | some q => exact noneNegative_single h

/-- The lead weight of a tandem load is a part of the load (R55). -/
theorem leadMass_bounds {m : Int} (h : 0 ≤ m) {share : Nat} (hshare : share ≤ 1000) :
    0 ≤ leadMass m share ∧ leadMass m share ≤ m :=
  ⟨roundDiv_nonneg (mul_nonneg h (by omega)) (by omega),
    roundDiv_le (by omega) h (mul_le_mul_of_nonneg_left (by omega) h)⟩

theorem noneNegative_hookWeights (tag : Nat) {m : Int} (h : 0 ≤ m) {l : Lift} (hshare : ∀ n, l.share = some n → n ≤ 1000)
    (own other : Option Point) : NoneNegative (hookWeights tag m l own other) := by
  have hpart : l.share.getD 0 ≤ 1000 := by
    cases hl : l.share with
    | none => exact Nat.zero_le _
    | some n => exact hshare n hl
  obtain ⟨hlow, hhigh⟩ := leadMass_bounds h hpart
  unfold hookWeights
  split
  · exact noneNegative_hookAtMaybe tag h own
  · exact (noneNegative_hookAtMaybe tag hlow own).append (noneNegative_hookAtMaybe tag (by omega) other)

theorem noneNegative_routineItem {s : State} (hs : CaptureSafe s) (tag : Nat) {it : ItemRecord} (h : 0 ≤ it.mass) :
    NoneNegative (routineItem s tag it) := by
  unfold routineItem
  split
  · exact noneNegative_nil
  · split
    · exact noneNegative_nil
    · exact noneNegative_single h
  · split
    · exact noneNegative_nil
    · next c _ =>
      split
      · exact noneNegative_nil
      · next l hl => exact noneNegative_hookWeights tag h (fun n hn => hs.shares c l n hl hn) _ _

theorem noneNegative_otherItem {s : State} (hs : CaptureSafe s) (lead : Crane) (tag : Nat) {it : ItemRecord}
    (h : 0 ≤ it.mass) : NoneNegative (otherItem s lead tag it) := by
  unfold otherItem
  dsimp only
  split
  · exact noneNegative_hookAtMaybe tag h _
  · exact noneNegative_routineItem hs tag h

theorem noneNegative_baseItem {s : State} (hs : CaptureSafe s) (scope : Scope) (tag : Nat) {it : ItemRecord}
    (h : 0 ≤ it.mass) : NoneNegative (baseItem s scope tag it) := by
  unfold baseItem
  split
  · exact noneNegative_routineItem hs tag h
  · split
    · split
      · exact noneNegative_nil
      · exact noneNegative_itemAtGoal tag h _
    · split
      · exact noneNegative_nil
      · exact noneNegative_itemAtGoal tag h _
    · split
      · exact noneNegative_itemAtGoal tag h _
      · split
        · exact noneNegative_nil
        · exact noneNegative_single h

/-- A layer taken leaves no negative mass in the set (R173). -/
theorem noneNegative_takeLayer {s : State} (hs : CaptureSafe s) {q : ProspectSet} (hq : ∀ e ∈ q.items, NoneNegative e.2)
    (l : Layer) : ∀ e ∈ (takeLayer s q l).items, NoneNegative e.2 := by
  unfold takeLayer
  split
  · exact hq
  · split
    · next tag g _ =>
      intro e he
      rcases Table.mem_put he with rfl | hold
      · refine noneNegative_itemAtGoal tag ?_ g
        cases hit : s.item tag with
        | none => exact le_rfl
        | some it => exact hs.item_mass hit
      · exact hq e hold
    · exact hq

theorem noneNegative_layers {s : State} (hs : CaptureSafe s) (layers : List Layer) {q : ProspectSet}
    (hq : ∀ e ∈ q.items, NoneNegative e.2) : ∀ e ∈ (layers.foldl (takeLayer s) q).items, NoneNegative e.2 := by
  induction layers generalizing q with
  | nil => exact hq
  | cons l layers ih => exact ih (noneNegative_takeLayer hs hq l)

theorem figureSet_routineCapture {s : State} (h : s.ship.image.fault = none) (hs : CaptureSafe s) :
    (figureSet s.ship.image (routineCapture s)).isSome = true :=
  figureSet_captureOf h hs _ (noneNegative_placeItems hs fun tag _ hm => noneNegative_routineItem hs tag hm)

theorem figureSet_pathCapture {s : State} (h : s.ship.image.fault = none) (hs : CaptureSafe s) {lead : Crane} {l : Lift}
    (hl : (s.record lead).lift = some l) : (figureSet s.ship.image (pathCapture s lead l)).isSome = true :=
  figureSet_captureOf h hs _ (noneNegative_placeItems hs fun tag it hm => by
    split
    · exact noneNegative_hookWeights tag hm (fun n hn => hs.shares lead l n hl hn) _ _
    · exact noneNegative_otherItem hs lead tag hm)

theorem figureSet_finalCapture {s : State} (h : s.ship.image.fault = none) (hs : CaptureSafe s) (lead : Crane) (l : Lift) :
    (figureSet s.ship.image (finalCapture s lead l)).isSome = true :=
  figureSet_captureOf h hs _ (noneNegative_placeItems hs fun tag it hm => by
    split
    · exact noneNegative_itemAtGoal tag hm _
    · exact noneNegative_otherItem hs lead tag hm)

theorem figureSet_prospectCapture {s : State} (h : s.ship.image.fault = none) (hs : CaptureSafe s) (scope : Scope) :
    (figureSet s.ship.image (prospectCapture s scope)).isSome = true := by
  refine figureSet_captureOf h hs _ (noneNegative_flatMap (noneNegative_layers hs _ fun e he => ?_))
  obtain ⟨x, hx, rfl⟩ := List.mem_map.1 he
  exact noneNegative_baseItem hs scope x.1 (hs.masses x hx)

/-! ### The engine stays sound -/

/-- What the absence of a stop rests on: a sound engine, a tested image and safe captures. -/
structure Unstopped (s : State) : Prop where
  engine : EngineSound s
  image : ImageChecked s
  safe : CaptureSafe s

/-- A free engine is sound. -/
theorem engineSound_free {s : State} (h : s.eval.engine = none) : EngineSound s := fun j hj => by rw [h] at hj; cases hj

/-- The engine stays sound while the mode, the image and the job are the same. -/
theorem EngineSound.of_same {s t : State} (h : EngineSound s) (hmode : t.ship.mode = s.ship.mode)
    (himage : t.ship.image = s.ship.image) (hengine : t.eval.engine = s.eval.engine) : EngineSound t := by
  unfold EngineSound
  rw [hmode, himage, hengine]
  exact h

/-- Outside IN SERVICE a sound engine is free (R15). -/
theorem EngineSound.free_outside {s : State} (h : EngineSound s) (hmode : s.ship.mode ≠ .inService) :
    s.eval.engine = none := by
  cases hj : s.eval.engine with
  | none => rfl
  | some j => exact absurd (h j hj).1 hmode

/-- A job's stage has no part in the soundness of the engine. -/
theorem EngineSound.of_stage {s t : State} (h : EngineSound s) {j : Job} {stage : Stage} (hj : s.eval.engine = some j)
    (hship : t.ship = s.ship) (ht : t.eval.engine = some { j with stage := stage }) : EngineSound t := by
  intro k hk
  obtain rfl : { j with stage := stage } = k := Option.some.inj (ht.symm.trans hk)
  rw [hship]
  exact h j hj

/-- A lift check started on a tested image and a safe state is sound. -/
theorem engineSound_startLiftCheck {s : State} (h : Unstopped s) (hmode : s.ship.mode = .inService)
    (himage : s.ship.image.fault = none) (c : Crane) : EngineSound (startLiftCheck c s) := by
  unfold startLiftCheck
  cases hl : (s.record c).lift with
  | none => exact h.engine.of_same (by cases c <;> rfl) (by cases c <;> rfl) (by cases c <;> rfl)
  | some l =>
    intro j hj
    obtain rfl := Option.some.inj hj
    cases c with
    | crane1 => exact ⟨hmode, figureSet_pathCapture himage h.safe hl, figureSet_finalCapture himage h.safe _ l⟩
    | crane2 => exact ⟨hmode, figureSet_pathCapture himage h.safe hl, figureSet_finalCapture himage h.safe _ l⟩

/-- A job that the arbiter starts is sound (R79, R80). -/
theorem engineSound_startJob {s : State} (h : Unstopped s) : EngineSound (startJob s) := by
  unfold startJob
  split
  · next hserve =>
    obtain ⟨hmode, -⟩ := hserve
    obtain ⟨hpresent, -, hservice⟩ := h.image
    have himage := hpresent (hservice hmode)
    split
    · exact engineSound_startLiftCheck h hmode himage _
    · intro j hj
      obtain rfl := Option.some.inj hj
      exact ⟨hmode, figureSet_prospectCapture himage h.safe _⟩
    · split
      · intro j hj
        obtain rfl := Option.some.inj hj
        have hset := figureSet_routineCapture himage h.safe
        exact ⟨hmode, hset⟩
      · exact h.engine
  · exact h.engine

/-- Work on the monitor keeps what the absence of a stop rests on. -/
theorem Unstopped.of_tunes {s t : State} (h : Unstopped s) (k : Tunes s t) : Unstopped t :=
  ⟨h.engine.of_same (by rw [k.ship]) (by rw [k.ship]) k.engine, h.image.of_ship k.ship, k.safe h.safe⟩

theorem Unstopped.of_carries {s t : State} (h : Unstopped s) (k : Carries s t) : Unstopped t :=
  ⟨h.engine.of_same (by rw [k.ship]) (by rw [k.ship]) k.engine, h.image.of_ship k.ship, k.safe h.safe⟩

/-- The engine freed keeps what the absence of a stop rests on. -/
theorem Unstopped.of_freed {s t : State} (h : Unstopped s) (hship : t.ship = s.ship) (hcond : t.cond = s.cond)
    (hlifts : t.lifts = s.lifts) (hengine : t.eval.engine = none) : Unstopped t :=
  ⟨engineSound_free hengine, h.image.of_ship hship, h.safe.of_same (by rw [hcond]) (by rw [hcond]) (by rw [hlifts])⟩

theorem carries_abortSlung (c : Crane) (s : State) : Carries s (abortSlung c s) := by
  unfold abortSlung
  split
  · exact carries_finishLift ..
  · exact .refl s

/-- An accepted OPEN DATA leaves the engine free and its captures safe (R10, R11). -/
theorem unstopped_takeOpenData {q : Caller} {s : State} (h : Unstopped s) : Unstopped (takeOpenData q s) := by
  refine ⟨?_, imageChecked_takeOpenData h.image, ?_⟩
  · unfold takeOpenData
    split
    · exact h.engine.of_same rfl rfl rfl
    · refine engineSound_free ?_
      rw [answer_eval, openLoad_eq]
  · unfold takeOpenData
    split
    · exact h.safe.of_same rfl rfl rfl
    · have haborted := ((carries_abortSlung .crane1 s).trans (carries_abortSlung .crane2 _)).safe h.safe
      refine CaptureSafe.of_same (s := openLoad s) ?_ (by rw [answer_cond]) (by rw [answer_cond]) (by rw [answer_lifts])
      rw [openLoad_eq]
      exact ⟨(by decide : (0 : Int) < 1025), fun e he => (nomatch he), haborted.shares⟩

theorem unstopped_takeWriteData {kind index : Nat} {fields : List FieldWord} {q : Caller} {s : State} (h : Unstopped s) :
    Unstopped (takeWriteData kind index fields q s) := by
  refine ⟨?_, imageChecked_takeWriteData h.image, ?_⟩
  · unfold takeWriteData
    split
    · exact h.engine.of_same rfl rfl rfl
    · split <;> exact h.engine.of_same rfl rfl rfl
  · unfold takeWriteData
    split
    · exact h.safe.of_same rfl rfl rfl
    · split <;> exact h.safe.of_same rfl rfl rfl

/-- A CLOSE DATA acts in DATA LOADING alone, where the engine is free (R13, R15). -/
theorem unstopped_takeCloseData {w : CheckWord} {q : Caller} {s : State} (h : Unstopped s) :
    Unstopped (takeCloseData w q s) := by
  refine ⟨?_, imageChecked_takeCloseData h.image, ?_⟩
  · unfold takeCloseData
    split
    · exact h.engine.of_same rfl rfl rfl
    · next hl =>
      obtain ⟨hmode, -⟩ := not_or.1 hl
      have hfree := h.engine.free_outside (by rw [not_not.1 hmode]; decide)
      split
      · refine engineSound_free ?_
        rw [answer_eval, changeMode_eval]
        exact hfree
      · exact h.engine.of_same rfl rfl rfl
  · unfold takeCloseData
    split
    · exact h.safe.of_same rfl rfl rfl
    · split
      · refine h.safe.of_same ?_ ?_ ?_
        · rw [answer_cond, changeMode_cond]; rfl
        · rw [answer_cond, changeMode_cond]; rfl
        · rw [answer_lifts, changeMode_lifts]; rfl
      · exact h.safe.of_same rfl rfl rfl

/-- The requests that write the store or the monitor keep what the absence of a stop rests on. -/
theorem unstopped_serve {r : Request} (hr : writesStoreOrMonitor r = true) (q : Caller) {s : State} (h : Unstopped s) :
    Unstopped (serve r q s) := by
  by_cases hw : writesStore r = true
  · cases r with
    | openData => exact unstopped_takeOpenData h
    | writeData k i fs => exact unstopped_takeWriteData h
    | closeData w => exact unstopped_takeCloseData h
    | _ => cases hw
  · exact h.of_tunes (tunes_serve hr (Bool.eq_false_iff.2 hw) q s)

/-- Capture complete leaves the job's captures as they were (R84). -/
theorem unstopped_capturesComplete {s : State} (h : Unstopped s) : Unstopped (capturesComplete s) := by
  rcases capturesComplete_cases s with hsame | ⟨j, u, hj, hu, heq⟩
  · rwa [hsame]
  · rw [heq]
    exact ⟨h.engine.of_stage hj hu.ship rfl, h.image.of_ship hu.ship, (hu.safe h.safe).of_same rfl rfl rfl⟩

/-- The adjustment of a WARM restart leaves each record its lift, or none (R148). -/
theorem shareOk_adjustRecord {r : LiftRecord} (h : ShareOk r) : ShareOk (adjustRecord r) := by
  unfold adjustRecord
  split
  · exact h
  · exact h
  · exact shareOk_none rfl
  · exact shareOk_none rfl
  · exact fun l n hl hn => h l n hl hn
  · exact fun l n hl hn => h l n hl hn

/-- A verification ends with the engine free, as it began (R15, R16). -/
theorem unstopped_verifyEnds {s : State} (h : Unstopped s) : Unstopped (verifyEnds s) := by
  refine ⟨?_, imageChecked_verifyEnds h.image, ?_⟩
  · by_cases hm : s.ship.mode = .verify
    · refine engineSound_free ?_
      have hfree := h.engine.free_outside (by rw [hm]; decide)
      unfold verifyEnds
      split_ifs
      · exact hfree
      · rw [changeMode_eval]; exact hfree
      · rw [changeMode_eval]; exact hfree
      · rw [enterService_eq, loadSlots_eq]; exact hfree
      · rw [enterService_eq]; exact hfree
    · unfold verifyEnds
      rw [if_pos hm]
      exact h.engine
  · unfold verifyEnds
    split_ifs
    · exact h.safe
    · exact h.safe.of_same (by rw [changeMode_cond]) (by rw [changeMode_cond]) (by rw [changeMode_lifts])
    · exact h.safe.of_same (by rw [changeMode_cond]) (by rw [changeMode_cond]) (by rw [changeMode_lifts])
    · rw [enterService_eq, loadSlots_eq]
      exact h.safe.of_same rfl rfl rfl
    · rw [enterService_eq]
      exact h.safe.of_same rfl rfl rfl

/-- A commit ends with the engine free, as it ran in DATA LOADING (R14, R15). -/
theorem unstopped_commitEnds {s : State} (h : Unstopped s) : Unstopped (commitEnds s) := by
  cases hc : s.ship.committing with
  | none => rwa [commitEnds_idle hc]
  | some q =>
    refine ⟨?_, imageChecked_commitEnds h.image, ?_⟩
    · obtain ⟨-, hcommit, -⟩ := h.image
      obtain ⟨-, hmode⟩ := hcommit (by rw [hc]; rfl)
      refine engineSound_free ?_
      rw [commitEnds_eq hc]
      exact h.engine.free_outside (by rw [hmode]; decide)
    · rw [commitEnds_eq hc]
      exact h.safe.of_same rfl rfl rfl

/-- Every step keeps what the absence of a stop rests on. -/
theorem stepKeeps_unstopped : StepKeeps Unstopped where
  carries h k := h.of_carries k
  writes _ q _ hr h := unstopped_serve hr q h
  startJob s h :=
    ⟨engineSound_startJob h, stepKeeps_imageChecked.startJob s h.image, by rw [startJob_eq]; exact h.safe.of_same rfl rfl rfl⟩
  capturesComplete _ h := unstopped_capturesComplete h
  completeRoutine v slung f dis s h := by
    obtain ⟨u, hu, heq⟩ := completeRoutine_tunes v slung f dis s
    rw [heq]
    exact (h.of_tunes hu).of_freed rfl rfl rfl rfl
  completeLift lead v path final s h := by
    obtain ⟨u, hu, heq⟩ := completeLift_carries lead v path final s
    rw [heq]
    exact (h.of_carries hu).of_freed rfl rfl rfl rfl
  completeProspect q r s h := by
    have hfreed : Unstopped (s.withEval { s.eval with
        prospect := some r, lastProspectSeq := r.header.seq, engine := none }) := h.of_freed rfl rfl rfl rfl
    exact hfreed.of_carries (completeProspect_carries q r s)
  coldRestart straps s h := by
    refine ⟨?_, stepKeeps_imageChecked.coldRestart straps s h.image, ?_⟩
    · exact engineSound_free (by rw [coldRestart_eq])
    · rw [coldRestart_eq]
      exact ⟨(by decide : (0 : Int) < 1025), fun e he => (nomatch he), fun c => by cases c <;> exact shareOk_none rfl⟩
  warmRestart cause straps s h := by
    refine ⟨?_, stepKeeps_imageChecked.warmRestart cause straps s h.image, ?_⟩
    · exact engineSound_free (by rw [warmRestart_eq])
    · rw [warmRestart_eq]
      refine ⟨h.safe.density, h.safe.masses, fun c => ?_⟩
      cases c with
      | crane1 => exact shareOk_adjustRecord (h.safe.shares .crane1)
      | crane2 => exact shareOk_adjustRecord (h.safe.shares .crane2)
  verifyEnds _ h := unstopped_verifyEnds h
  commitEnds _ h := unstopped_commitEnds h

/-! ### No step stops -/

/-- A routine completion answers a next state where the engine is sound. -/
theorem routineCompletes_next {s : State} (h : EngineSound s) : ∃ t, routineCompletes s = .next t := by
  unfold routineCompletes
  split
  · next v cap slung d hj =>
    obtain ⟨-, hset⟩ := h _ hj
    obtain ⟨f, hf⟩ := Option.isSome_iff_exists.1 hset
    rw [hf]
    exact ⟨_, rfl⟩
  · exact ⟨s, rfl⟩

/-- A lift check completion answers a next state where the engine is sound. -/
theorem liftCompletes_next {s : State} (h : EngineSound s) : ∃ t, liftCompletes s = .next t := by
  unfold liftCompletes
  split
  · next v lead path final hj =>
    obtain ⟨-, hpath, hfinal⟩ := h _ hj
    obtain ⟨p, hp⟩ := Option.isSome_iff_exists.1 hpath
    obtain ⟨f, hf⟩ := Option.isSome_iff_exists.1 hfinal
    rw [hp, hf]
    exact ⟨_, rfl⟩
  · exact ⟨s, rfl⟩

/-- A prospect completion answers a next state where the engine is sound. -/
theorem prospectCompletes_next {s : State} (h : EngineSound s) : ∃ t, prospectCompletes s = .next t := by
  unfold prospectCompletes
  split
  · next v sc cap depth applied skipped lost q hj =>
    obtain ⟨-, hset⟩ := h _ hj
    obtain ⟨f, hf⟩ := Option.isSome_iff_exists.1 hset
    rw [hf]
    exact ⟨_, rfl⟩
  · exact ⟨s, rfl⟩

/-- Every command answers a next state where the engine is sound: the three completions alone form figure sets. -/
theorem exec_next {i : Instr} {s : State} (h : EngineSound s) : ∃ t, exec i s = .next t := by
  cases i with
  | routineCompletion => exact routineCompletes_next h
  | liftCheckCompletion => exact liftCompletes_next h
  | prospectCompletion => exact prospectCompletes_next h
  | _ => exact ⟨_, rfl⟩

/-- Every step answers a next state where the engine is sound. -/
theorem step_next {s : State} (h : EngineSound s) : ∃ t, step s = .next t := by
  unfold step
  split
  · exact ⟨_, rfl⟩
  · exact exec_next (h.of_same (t := s.withPending _) rfl rfl rfl)

/-- Settles O59: a sound engine answers every step, and on a tested image the jobs a step starts are sound. -/
theorem noStepStopsOnACheckedImage : Obligations.NoStepStopsOnACheckedImage := by
  intro s hE hI hV hItems hLifts
  obtain ⟨t, hst⟩ := step_next hE
  have hkept := stepKeeps_unstopped.step ⟨hE, hI, captureSafe_of_shaped hV hItems hLifts⟩ hst
  exact ⟨t, hst, hkept.engine⟩

end Sys2Proof.Machine
end

section
namespace Sys2Proof.Machine
open Sys2Proof

/-! ### No change of the condition reads or writes the ports -/

/-- A change's application carried over to other ports. -/
def Applied.withPorts (r : Applied) (x : PerPort PortState) : Applied := (r.1.withPorts x, r.2)

theorem entryFault_withPorts (s : State) (x : PerPort PortState) (e : Entry) :
    entryFault (s.withPorts x) e = entryFault s e := rfl

theorem applyEntry_withPorts (s : State) (x : PerPort PortState) (e : Entry) :
    applyEntry (s.withPorts x) e = (applyEntry s e).withPorts x := by
  unfold applyEntry
  split <;> rfl

theorem addEntries_withPorts (x : PerPort PortState) (es : List Entry) (k : Nat) (s : State) :
    addEntries k (s.withPorts x) es = (addEntries k s es).map (fun t => t.withPorts x) := by
  induction es generalizing k s with
  | nil => rfl
  | cons e es ih =>
    unfold addEntries
    rw [entryFault_withPorts]
    cases entryFault s e with
    | some st => rfl
    | none =>
      dsimp only
      rw [applyEntry_withPorts, ih]

theorem entryWarnings_withPorts (s : State) (x : PerPort PortState) (es : List Entry) (k : Nat) :
    entryWarnings (s.withPorts x) k es = entryWarnings s k es := by
  induction es generalizing k with
  | nil => rfl
  | cons e es ih =>
    unfold entryWarnings
    rw [ih]
    rfl

theorem advance_withPorts (s : State) (x : PerPort PortState) : advance (s.withPorts x) = (advance s).withPorts x := by
  rw [advance_eq, advance_eq]
  rfl

theorem accept_withPorts (st : Status) (s : State) (x : PerPort PortState) :
    accept st (s.withPorts x) = (accept st s).withPorts x := by
  rw [accept_eq, accept_eq]
  rfl

theorem acceptWarned_withPorts (ws : List (Nat × List Warning)) (s : State) (x : PerPort PortState) :
    acceptWarned ws (s.withPorts x) = (acceptWarned ws s).withPorts x := by
  cases ws with
  | nil => exact accept_withPorts ..
  | cons w ws =>
    unfold acceptWarned
    dsimp only
    rw [advance_withPorts]
    rfl

theorem applyAddItems_withPorts (es : List Entry) (s : State) (x : PerPort PortState) :
    applyAddItems es (s.withPorts x) = (applyAddItems es s).withPorts x := by
  unfold applyAddItems
  rw [addEntries_withPorts]
  split
  · rfl
  · cases addEntries 1 s es with
    | error e => rfl
    | ok t =>
      dsimp only [Except.map]
      rw [entryWarnings_withPorts, acceptWarned_withPorts]

theorem leaveComp_withPorts (tag : Nat) (it : ItemRecord) (s : State) (x : PerPort PortState) :
    leaveComp tag it (s.withPorts x) = (leaveComp tag it s).withPorts x := by
  unfold leaveComp
  split <;> rfl

theorem deleteItem_withPorts (tag : Nat) (s : State) (x : PerPort PortState) :
    deleteItem tag (s.withPorts x) = (deleteItem tag s).withPorts x := by
  unfold deleteItem
  rw [show (s.withPorts x).item tag = s.item tag from rfl]
  cases s.item tag with
  | none => rfl
  | some it =>
    dsimp only
    rw [leaveComp_withPorts]
    rfl

theorem shiftLoad_withPorts (it : ItemRecord) (d : Int) (s : State) (x : PerPort PortState) :
    shiftLoad it d (s.withPorts x) = (shiftLoad it d s).withPorts x := by
  unfold shiftLoad
  split <;> rfl

theorem applyAmendItem_withPorts (tag : Nat) (m d : Option Int) (s : State) (x : PerPort PortState) :
    applyAmendItem tag m d (s.withPorts x) = (applyAmendItem tag m d s).withPorts x := by
  unfold applyAmendItem
  rw [show (s.withPorts x).item tag = s.item tag from rfl]
  split
  · rfl
  · cases s.item tag with
    | none => rfl
    | some it =>
      dsimp only
      rw [show (s.withPorts x).itemBusy tag it = s.itemBusy tag it from rfl]
      split
      · rfl
      · rw [← accept_withPorts, ← shiftLoad_withPorts]
        rfl

theorem applyPlanMove_withPorts (tag : Nat) (g : Option Goal) (s : State) (x : PerPort PortState) :
    applyPlanMove tag g (s.withPorts x) = (applyPlanMove tag g s).withPorts x := by
  unfold applyPlanMove
  rw [show (s.withPorts x).item tag = s.item tag from rfl]
  cases g with
  | none => rfl
  | some g =>
    dsimp only
    split
    · rfl
    · cases s.item tag with
      | none => rfl
      | some it =>
        dsimp only
        rw [show (s.withPorts x).itemBusy tag it = s.itemBusy tag it from rfl,
          show planInvalid (s.withPorts x) tag g = planInvalid s tag g by cases g <;> rfl]
        split_ifs
        · rfl
        · rfl
        · rfl
        · rfl
        · rw [← acceptWarned_withPorts]
          cases g <;> rfl

theorem applyCancelPlan_withPorts (tag : Nat) (s : State) (x : PerPort PortState) :
    applyCancelPlan tag (s.withPorts x) = (applyCancelPlan tag s).withPorts x := by
  unfold applyCancelPlan
  rw [show (s.withPorts x).item tag = s.item tag from rfl]
  cases s.item tag with
  | none => rfl
  | some it =>
    dsimp only
    rw [show (s.withPorts x).itemBusy tag it = s.itemBusy tag it from rfl]
    split_ifs
    · rfl
    · rfl
    · rfl
    · rw [← accept_withPorts]
      rfl

theorem applyRemoveItem_withPorts (tag : Nat) (s : State) (x : PerPort PortState) :
    applyRemoveItem tag (s.withPorts x) = (applyRemoveItem tag s).withPorts x := by
  unfold applyRemoveItem
  rw [show (s.withPorts x).item tag = s.item tag from rfl, deleteItem_withPorts, accept_withPorts]
  cases s.item tag with
  | none => rfl
  | some it =>
    dsimp only
    rw [show (s.withPorts x).itemBusy tag it = s.itemBusy tag it from rfl,
      show (s.withPorts x).overstowed tag = s.overstowed tag from rfl]
    split_ifs <;> rfl

theorem applySetCompartment_withPorts (n : Nat) (f : Option OpenFlag) (s : State) (x : PerPort PortState) :
    applySetCompartment n f (s.withPorts x) = (applySetCompartment n f s).withPorts x := by
  unfold applySetCompartment
  rw [withPorts_ship]
  split
  · rw [← accept_withPorts]
    rfl
  · rfl

theorem applyClearCondition_withPorts (s : State) (x : PerPort PortState) :
    applyClearCondition (s.withPorts x) = (applyClearCondition s).withPorts x := by
  unfold applyClearCondition
  rw [show (s.withPorts x).liftsActive = s.liftsActive from rfl]
  split
  · rfl
  · rw [← accept_withPorts]
    rfl

theorem applySetDensity_withPorts (d : Int) (s : State) (x : PerPort PortState) :
    applySetDensity d (s.withPorts x) = (applySetDensity d s).withPorts x := by
  dsimp only [applySetDensity]
  rw [advance_eq, advance_eq]
  rfl

theorem applySoundings_withPorts (ps : List (Nat × Nat)) (s : State) (x : PerPort PortState) :
    applySoundings ps (s.withPorts x) = (applySoundings ps s).withPorts x := by
  unfold applySoundings
  rw [withPorts_ship, withPorts_tanks]
  dsimp only
  split
  · rfl
  · rw [advance_eq, advance_eq]
    rfl

theorem slingRecord_withPorts (c : Crane) (q : Point) (s : State) (x : PerPort PortState) :
    slingRecord c q (s.withPorts x) = (slingRecord c q s).withPorts x := rfl

theorem slingItem_withPorts (tag : Nat) (c : Crane) (s : State) (x : PerPort PortState) :
    slingItem tag c (s.withPorts x) = (slingItem tag c s).withPorts x := by
  unfold slingItem
  rw [show (s.withPorts x).item tag = s.item tag from rfl]
  cases s.item tag with
  | none => rfl
  | some it =>
    dsimp only
    rw [leaveComp_withPorts]
    rfl

theorem slingPartner_withPorts (c : Crane) (s : State) (x : PerPort PortState) :
    slingPartner c (s.withPorts x) = (slingPartner c s).withPorts x := by
  unfold slingPartner
  rw [show (s.withPorts x).record c = s.record c from rfl]
  split <;> rfl

theorem applyHookOn_withPorts (c : Crane) (q : Point) (s : State) (x : PerPort PortState) :
    applyHookOn c q (s.withPorts x) = (applyHookOn c q s).withPorts x := by
  unfold applyHookOn
  rw [show (s.withPorts x).record c = s.record c from rfl, show (s.withPorts x).ledTandem c = s.ledTandem c from rfl]
  split
  · rfl
  · split
    · dsimp only
      rw [slingItem_withPorts, slingPartner_withPorts, ← accept_withPorts, ← slingRecord_withPorts]
      split <;> rfl
    · rfl

theorem applyHookAt_withPorts (c : Crane) (q : Point) (s : State) (x : PerPort PortState) :
    applyHookAt c q (s.withPorts x) = (applyHookAt c q s).withPorts x := by
  unfold applyHookAt
  rw [show (s.withPorts x).record c = s.record c from rfl]
  split
  · rw [← accept_withPorts]
    rfl
  · rfl

theorem endSilence_withPorts (b s : State) (x : PerPort PortState) :
    endSilence (b.withPorts x) (s.withPorts x) = (endSilence b s).withPorts x := by
  rw [endSilence_eq, endSilence_eq]
  rfl

theorem finishOne_withPorts (code : OutcomeCode) (final : Option Goal) (mass : Int) (c : Crane) (s : State)
    (x : PerPort PortState) : finishOne code final mass c (s.withPorts x) = (finishOne code final mass c s).withPorts x := by
  unfold finishOne
  rw [show (s.withPorts x).record c = s.record c from rfl]
  split <;> rfl

theorem finishLift_withPorts (code : OutcomeCode) (final : Option Goal) (mass : Int) (cs : List Crane) (s : State)
    (x : PerPort PortState) : finishLift code final mass cs (s.withPorts x) = (finishLift code final mass cs s).withPorts x := by
  have hfold (t : State) : cs.foldl (fun t c => finishOne code final mass c t) (t.withPorts x) =
      (cs.foldl (fun t c => finishOne code final mass c t) t).withPorts x := by
    induction cs generalizing t with
    | nil => rfl
    | cons c cs ih =>
      rw [List.foldl_cons, List.foldl_cons, finishOne_withPorts, ih]
  unfold finishLift
  rw [hfold, endSilence_withPorts]

theorem setDown_withPorts (tag : Nat) (g : Goal) (s : State) (x : PerPort PortState) :
    setDown tag g (s.withPorts x) = (setDown tag g s).withPorts x := by
  cases g with
  | ashore => exact deleteItem_withPorts ..
  | place pl =>
    unfold setDown
    rw [show (s.withPorts x).item tag = s.item tag from rfl]
    dsimp only
    split <;> rfl

theorem landingOutcome_withPorts (s : State) (x : PerPort PortState) (l : Lift) (g : Goal) :
    landingOutcome (s.withPorts x) l g = landingOutcome s l g := by
  cases g <;> rfl

theorem applyLanded_withPorts (c : Crane) (g : Goal) (s : State) (x : PerPort PortState) :
    applyLanded c g (s.withPorts x) = (applyLanded c g s).withPorts x := by
  unfold applyLanded
  rw [show (s.withPorts x).record c = s.record c from rfl, show (s.withPorts x).crew c = s.crew c from rfl]
  split
  · rfl
  · split
    · dsimp only
      rw [landingOutcome_withPorts, setDown_withPorts, show ∀ tag, (s.withPorts x).massOf tag = s.massOf tag from fun _ => rfl,
        finishLift_withPorts, advance_withPorts]
      rfl
    · rfl

/-- A change has the same effect and the same answer whatever the ports hold. -/
theorem applyChange_withPorts (p : Port) (ch : Change) (s : State) (x : PerPort PortState) :
    applyChange p ch (s.withPorts x) = (applyChange p ch s).withPorts x := by
  cases ch with
  | addItems es => exact applyAddItems_withPorts es s x
  | amendItem tag m d => exact applyAmendItem_withPorts tag m d s x
  | planMove tag g => exact applyPlanMove_withPorts tag g s x
  | cancelPlan tag => exact applyCancelPlan_withPorts tag s x
  | removeItem tag => exact applyRemoveItem_withPorts tag s x
  | setCompartment n f => exact applySetCompartment_withPorts n f s x
  | clearCondition => exact applyClearCondition_withPorts s x
  | setDensity d => exact applySetDensity_withPorts d s x
  | soundings ps => exact applySoundings_withPorts ps s x
  | hookOn q =>
    unfold applyChange
    cases craneOf p with
    | none => rfl
    | some c => exact applyHookOn_withPorts c q s x
  | hookAt q =>
    unfold applyChange
    cases craneOf p with
    | none => rfl
    | some c => exact applyHookAt_withPorts c q s x
  | landed g =>
    unfold applyChange
    cases craneOf p with
    | none => cases g <;> rfl
    | some c =>
      cases g with
      | none => rfl
      | some g => exact applyLanded_withPorts c g s x

theorem hookArrives_withPorts (c : Crane) (s : State) (x : PerPort PortState) :
    hookArrives c (s.withPorts x) = (hookArrives c s).withPorts x := by
  unfold hookArrives
  rw [show (s.withPorts x).record c = s.record c from rfl]
  split <;> rfl

theorem reportArrives_withPorts (c : Crane) (s : State) (x : PerPort PortState) :
    reportArrives c (s.withPorts x) = (reportArrives c s).withPorts x := by
  unfold reportArrives
  rw [show (s.withPorts x).record c = s.record c from rfl]
  split
  · rw [← endSilence_withPorts]
    rfl
  · rfl

/-- A report arrives in the same way whatever the ports hold. -/
theorem changeArrives_withPorts (p : Port) (ch : Change) (s : State) (x : PerPort PortState) :
    changeArrives p ch (s.withPorts x) = (changeArrives p ch s).withPorts x := by
  unfold changeArrives
  split
  · exact hookArrives_withPorts ..
  · exact reportArrives_withPorts ..
  · exact reportArrives_withPorts ..
  · rfl

end Sys2Proof.Machine
end

section
namespace Sys2Proof.Machine
open Sys2Proof

/-! ### What a change of the condition can do (R36)

Every change is refused and leaves the state, or does one of the works below and then advances the version. -/

/-- The work of a change that is applied, before the version advances: one constructor for each kind of change that has an
effect, with what its tests have found. -/
inductive ChangeWork (s : State) : State → Prop
  | added {es : List Entry} {t : State} (h : addEntries 1 s es = .ok t) : ChangeWork s t
  | amended {tag : Nat} {it : ItemRecord} {mass dport : Option Int} (hit : s.item tag = some it)
      (hfree : s.itemBusy tag it = false) (hmass : mass.elim true (within 1 60000) = true)
      (hdport : dport.elim true (within 0 15) = true) :
      ChangeWork s (shiftLoad it (mass.getD it.mass - it.mass)
        (s.setItem tag { it with mass := mass.getD it.mass, dport := dport.getD it.dport }))
  | replanned {tag : Nat} {it : ItemRecord} {plan : Option Goal} (hit : s.item tag = some it)
      (hfree : s.itemBusy tag it = false) (hset : plan ≠ none → it.kind ≠ .constant)
      (hunset : plan = none → it.state ≠ .pending) : ChangeWork s (s.setItem tag { it with plan := plan })
  | removed {tag : Nat} {it : ItemRecord} (hit : s.item tag = some it) (hfree : s.itemBusy tag it = false) :
      ChangeWork s (deleteItem tag s)
  | flagged (n : Nat) (f : OpenFlag) : ChangeWork s (s.setComp n { s.comp n with flag := f })
  | emptied (h : s.liftsActive = false) :
      ChangeWork s (((emptyStows s).withTanks { (emptyStows s).tanks with fills := [] }).withTrials ⟨[], false⟩)
  | weighed (d : Int) : ChangeWork s (s.withCond { s.cond with density := bringInto 990 1030 d })
  | sounded (pairs : List (Nat × Nat)) : ChangeWork s (s.withTanks { s.tanks with
      fills := (pairs.foldl (soundPair s.ship.image) ⟨s.tanks.fills, 0, 0, 0, none⟩).fills })
  | hooked {c : Crane} {q : Point} {l : Lift} (hrole : liftRole (s.record c) ≠ some .partner)
      (hstate : (s.record c).state = .granted) (hlift : (s.record c).lift = some l) :
      ChangeWork s (slingRecord c q
        (if s.ledTandem c then slingPartner (otherCrane c) (slingItem l.tag c s) else slingItem l.tag c s))
  | moved {c : Crane} {q : Point} (hstate : (s.record c).state = .slung) : ChangeWork s
      (s.setRecord c { s.record c with lift := (s.record c).lift.map (fun l => { l with hook := some q }) })
  | landed {c : Crane} {l : Lift} {g : Goal} (hrole : liftRole (s.record c) ≠ some .partner)
      (hstate : (s.record c).state = .slung) (hlift : (s.record c).lift = some l) :
      ChangeWork s (finishLift (landingOutcome s l g).1 (some (landingOutcome s l g).2) (s.massOf l.tag) (s.crew c)
        (setDown l.tag (landingOutcome s l g).2 s))

/-- What a change leaves a state as: the same, or its work done and the version advanced. -/
def ChangeDone (s t : State) : Prop := t = s ∨ ∃ u, ChangeWork s u ∧ t = advance u

theorem changeDone_refuse (st : Status) (s : State) : ChangeDone s (refuse st s).1 := .inl rfl

theorem changeDone_accept {s u : State} (st : Status) (h : ChangeWork s u) : ChangeDone s (accept st u).1 :=
  .inr ⟨u, h, rfl⟩

theorem changeDone_acceptWarned {s u : State} (ws : List (Nat × List Warning)) (h : ChangeWork s u) :
    ChangeDone s (acceptWarned ws u).1 := by
  cases ws with
  | nil => exact changeDone_accept _ h
  | cons w ws => exact .inr ⟨u, h, rfl⟩

theorem changeDone_addItems (es : List Entry) (s : State) : ChangeDone s (applyAddItems es s).1 := by
  unfold applyAddItems
  split
  · exact .inl rfl
  · split
    · exact .inl rfl
    · next h => exact changeDone_acceptWarned _ (.added h)

theorem changeDone_amendItem (tag : Nat) (mass dport : Option Int) (s : State) :
    ChangeDone s (applyAmendItem tag mass dport s).1 := by
  unfold applyAmendItem
  split
  · exact .inl rfl
  · next hform =>
    simp only [Bool.or_eq_true, Bool.not_eq_true', not_or, Bool.not_eq_false] at hform
    obtain ⟨⟨-, hmass⟩, hdport⟩ := hform
    split
    · exact .inl rfl
    · next hit =>
      split
      · exact .inl rfl
      · next hbusy => exact changeDone_accept _ (.amended hit (Bool.eq_false_iff.2 hbusy) hmass hdport)

theorem changeDone_planMove (tag : Nat) (plan : Option Goal) (s : State) : ChangeDone s (applyPlanMove tag plan s).1 := by
  unfold applyPlanMove
  split
  · exact .inl rfl
  · split
    · exact .inl rfl
    · split
      · exact .inl rfl
      · next hit =>
        split_ifs with hkind hbusy
        · exact .inl rfl
        · exact .inl rfl
        · exact .inl rfl
        · exact .inl rfl
        · exact changeDone_acceptWarned _ (.replanned hit (Bool.eq_false_iff.2 hbusy) (fun _ => hkind) (fun h => nomatch h))

theorem changeDone_cancelPlan (tag : Nat) (s : State) : ChangeDone s (applyCancelPlan tag s).1 := by
  unfold applyCancelPlan
  split
  · exact .inl rfl
  · next hit =>
    split_ifs with hbusy hpending
    · exact .inl rfl
    · exact .inl rfl
    · exact .inl rfl
    · exact changeDone_accept _ (.replanned hit (Bool.eq_false_iff.2 hbusy) (fun h => absurd rfl h) (fun _ => hpending))

theorem changeDone_removeItem (tag : Nat) (s : State) : ChangeDone s (applyRemoveItem tag s).1 := by
  unfold applyRemoveItem
  split
  · exact .inl rfl
  · next hit =>
    split_ifs with hbusy
    · exact .inl rfl
    · exact .inl rfl
    · exact changeDone_accept _ (.removed hit (Bool.eq_false_iff.2 hbusy))

theorem changeDone_setCompartment (n : Nat) (f : Option OpenFlag) (s : State) :
    ChangeDone s (applySetCompartment n f s).1 := by
  unfold applySetCompartment
  split
  · exact changeDone_accept _ (.flagged ..)
  · exact .inl rfl

theorem changeDone_clearCondition (s : State) : ChangeDone s (applyClearCondition s).1 := by
  unfold applyClearCondition
  split
  · exact .inl rfl
  · next h => exact changeDone_accept _ (.emptied (Bool.eq_false_iff.2 h))

theorem changeDone_soundings (pairs : List (Nat × Nat)) (s : State) : ChangeDone s (applySoundings pairs s).1 := by
  unfold applySoundings
  dsimp only
  split
  · exact .inl rfl
  · exact .inr ⟨_, .sounded pairs, rfl⟩

theorem changeDone_hookOn (c : Crane) (q : Point) (s : State) : ChangeDone s (applyHookOn c q s).1 := by
  unfold applyHookOn
  split
  · exact .inl rfl
  · next hrole =>
    split
    · next hstate hlift => exact changeDone_accept _ (.hooked hrole hstate hlift)
    · exact .inl rfl

theorem changeDone_hookAt (c : Crane) (q : Point) (s : State) : ChangeDone s (applyHookAt c q s).1 := by
  unfold applyHookAt
  split
  · next hstate => exact changeDone_accept _ (.moved hstate)
  · exact .inl rfl

theorem changeDone_landed (c : Crane) (g : Goal) (s : State) : ChangeDone s (applyLanded c g s).1 := by
  unfold applyLanded
  split
  · exact .inl rfl
  · next hrole =>
    split
    · next hstate hlift => exact .inr ⟨_, .landed hrole hstate hlift, rfl⟩
    · exact .inl rfl

/-- Every change leaves the state, or does its work and advances the version. -/
theorem applyChange_done (p : Port) (ch : Change) (s : State) : ChangeDone s (applyChange p ch s).1 := by
  cases ch with
  | addItems es => exact changeDone_addItems es s
  | amendItem tag m d => exact changeDone_amendItem tag m d s
  | planMove tag g => exact changeDone_planMove tag g s
  | cancelPlan tag => exact changeDone_cancelPlan tag s
  | removeItem tag => exact changeDone_removeItem tag s
  | setCompartment n f => exact changeDone_setCompartment n f s
  | clearCondition => exact changeDone_clearCondition s
  | setDensity d => exact .inr ⟨_, .weighed d, rfl⟩
  | soundings ps => exact changeDone_soundings ps s
  | hookOn q =>
    unfold applyChange
    cases craneOf p with
    | none => exact changeDone_refuse ..
    | some c => exact changeDone_hookOn c q s
  | hookAt q =>
    unfold applyChange
    cases craneOf p with
    | none => exact changeDone_refuse ..
    | some c => exact changeDone_hookAt c q s
  | landed g =>
    unfold applyChange
    cases craneOf p with
    | none => cases g <;> exact changeDone_refuse ..
    | some c =>
      cases g with
      | none => exact changeDone_refuse ..
      | some g => exact changeDone_landed c g s

/-! ### What a change leaves alone -/

/-- `t` comes from `s` by work on the items, the compartments, the density, the fills, the trials, the lifts and the
attention unit: the ship data store, the evaluation unit, the ports, the version and the hold list are the same. -/
structure Stows (s t : State) : Prop where
  ship : t.ship = s.ship
  eval : t.eval = s.eval
  ports : t.ports = s.ports
  version : t.cond.version = s.cond.version
  hold : t.cond.hold = s.cond.hold

theorem Stows.refl (s : State) : Stows s s := ⟨rfl, rfl, rfl, rfl, rfl⟩

theorem Stows.trans {s t u : State} (h : Stows s t) (k : Stows t u) : Stows s u :=
  ⟨k.ship.trans h.ship, k.eval.trans h.eval, k.ports.trans h.ports, k.version.trans h.version, k.hold.trans h.hold⟩

theorem stows_setItem (tag : Nat) (it : ItemRecord) (s : State) : Stows s (s.setItem tag it) := ⟨rfl, rfl, rfl, rfl, rfl⟩

theorem stows_setComp (n : Nat) (cs : CompState) (s : State) : Stows s (s.setComp n cs) := ⟨rfl, rfl, rfl, rfl, rfl⟩

theorem stows_setRecord (c : Crane) (r : LiftRecord) (s : State) : Stows s (s.setRecord c r) := ⟨rfl, rfl, rfl, rfl, rfl⟩

theorem stows_leaveComp (tag : Nat) (it : ItemRecord) (s : State) : Stows s (leaveComp tag it s) := by
  unfold leaveComp
  split
  · exact stows_setComp ..
  · exact .refl s

theorem stows_deleteItem (tag : Nat) (s : State) : Stows s (deleteItem tag s) := by
  unfold deleteItem
  split
  · exact .refl s
  · exact (stows_leaveComp ..).trans ⟨rfl, rfl, rfl, rfl, rfl⟩

theorem stows_applyEntry (s : State) (e : Entry) : Stows s (applyEntry s e) := by
  unfold applyEntry
  split
  · exact (stows_setItem ..).trans (stows_setComp ..)
  · exact stows_setItem ..

theorem stows_addEntries {es : List Entry} {k : Nat} {s t : State} (h : addEntries k s es = .ok t) : Stows s t := by
  induction es generalizing k s with
  | nil =>
    obtain rfl : s = t := Except.ok.inj h
    exact .refl s
  | cons e es ih =>
    unfold addEntries at h
    split at h
    · cases h
    · exact (stows_applyEntry s e).trans (ih h)

theorem stows_shiftLoad (it : ItemRecord) (d : Int) (s : State) : Stows s (shiftLoad it d s) := by
  unfold shiftLoad
  split
  · exact stows_setComp ..
  · exact .refl s

theorem stows_slingItem (tag : Nat) (c : Crane) (s : State) : Stows s (slingItem tag c s) := by
  unfold slingItem
  split
  · exact .refl s
  · exact (stows_leaveComp ..).trans (stows_setItem ..)

theorem stows_slingPartner (c : Crane) (s : State) : Stows s (slingPartner c s) := by
  unfold slingPartner
  split
  · exact .refl s
  · exact stows_setRecord ..

theorem stows_setDown (tag : Nat) (g : Goal) (s : State) : Stows s (setDown tag g s) := by
  unfold setDown
  split
  · exact stows_deleteItem ..
  · split
    · exact .refl s
    · exact (stows_setItem ..).trans (stows_setComp ..)

theorem stows_endSilence (b s : State) : Stows s (endSilence b s) := by
  rw [endSilence_eq]
  exact ⟨rfl, rfl, rfl, rfl, rfl⟩

theorem stows_finishOne (code : OutcomeCode) (final : Option Goal) (mass : Int) (c : Crane) (s : State) :
    Stows s (finishOne code final mass c s) := by
  unfold finishOne
  split
  · exact .refl s
  · exact ⟨rfl, rfl, rfl, rfl, rfl⟩

theorem stows_finishLift (code : OutcomeCode) (final : Option Goal) (mass : Int) (cs : List Crane) (s : State) :
    Stows s (finishLift code final mass cs s) := by
  refine .trans ?_ (stows_endSilence s _)
  induction cs generalizing s with
  | nil => exact .refl s
  | cons c cs ih => exact (stows_finishOne ..).trans (ih _)

/-- The work of a change stands in the condition, the tanks, the trials, the lifts and the attention unit. -/
theorem ChangeWork.stows {s u : State} (h : ChangeWork s u) : Stows s u := by
  cases h with
  | added h => exact stows_addEntries h
  | amended => exact (stows_setItem ..).trans (stows_shiftLoad ..)
  | replanned => exact stows_setItem ..
  | removed => exact stows_deleteItem ..
  | flagged => exact stows_setComp ..
  | emptied => exact ⟨rfl, rfl, rfl, rfl, rfl⟩
  | weighed => exact ⟨rfl, rfl, rfl, rfl, rfl⟩
  | sounded => exact ⟨rfl, rfl, rfl, rfl, rfl⟩
  | hooked =>
    refine .trans ?_ (stows_setRecord ..)
    split
    · exact (stows_slingItem ..).trans (stows_slingPartner ..)
    · exact stows_slingItem ..
  | moved => exact stows_setRecord ..
  | landed => exact (stows_setDown ..).trans (stows_finishLift ..)

theorem stows_reportArrives (c : Crane) (s : State) : Stows s (reportArrives c s) := by
  unfold reportArrives
  split
  · exact (stows_setRecord ..).trans (stows_endSilence ..)
  · exact .refl s

theorem stows_hookArrives (c : Crane) (s : State) : Stows s (hookArrives c s) := by
  unfold hookArrives
  split
  · exact stows_setRecord ..
  · exact .refl s

/-- The arrival of a report leaves all but the lifts and the attention unit. -/
theorem stows_changeArrives (p : Port) (ch : Change) (s : State) : Stows s (changeArrives p ch s) := by
  unfold changeArrives
  split
  · exact stows_hookArrives ..
  · exact stows_reportArrives ..
  · exact stows_reportArrives ..
  · exact .refl s

theorem applyChange_ports (p : Port) (ch : Change) (s : State) : (applyChange p ch s).1.ports = s.ports := by
  rcases applyChange_done p ch s with h | ⟨u, hu, h⟩
  · rw [h]
  · rw [h, advance_eq]
    exact hu.stows.ports

theorem applyChange_hold (p : Port) (ch : Change) (s : State) : (applyChange p ch s).1.cond.hold = s.cond.hold := by
  rcases applyChange_done p ch s with h | ⟨u, hu, h⟩
  · rw [h]
  · rw [h, advance_eq]
    exact hu.stows.hold

/-- A change advances the version by one, with the routine trigger of R91, or leaves the version and the evaluation unit
(R35). -/
theorem applyChange_version (p : Port) (ch : Change) (s : State) :
    (applyChange p ch s).1.cond.version = s.cond.version ∧ (applyChange p ch s).1.eval = s.eval ∨
    (applyChange p ch s).1.cond.version = s.cond.version + 1 ∧ (applyChange p ch s).1.eval = routineRaised s := by
  rcases applyChange_done p ch s with h | ⟨u, hu, h⟩
  · exact .inl (by rw [h]; exact ⟨rfl, rfl⟩)
  · refine .inr ?_
    rw [h, advance_eq]
    refine ⟨by rw [← hu.stows.version], ?_⟩
    unfold routineRaised
    rw [hu.stows.eval]

end Sys2Proof.Machine
end

section
namespace Sys2Proof.Machine
open Sys2Proof

/-! ### A change taken by the condition store (R36, R37, R83) -/

/-- A state with the ports of an opened request, answered. -/
theorem answer_opened (u s : State) (p : Port) (k : ReqKind) (tag : Byte) (a : Answer) :
    answer (nextCaller s p (kindByte k) tag) a (u.withPorts (openRequest (nextCaller s p (kindByte k) tag) s).ports) =
      { u with ports := answeredPorts s p k tag a } := by
  cases p <;> rfl

/-- A state with the ports of an opened request, whose reply is deferred. -/
theorem defer_opened (u s : State) (p : Port) (k : ReqKind) (tag : Byte) :
    defer (nextCaller s p (kindByte k) tag) (u.withPorts (openRequest (nextCaller s p (kindByte k) tag) s).ports) =
      { u with ports := deferredPorts s p k tag } := by
  cases p <;> rfl

/-- IN SERVICE every change is accepted (R15). -/
theorem modeAnswer_change (ch : Change) : modeAnswer .inService (Request.change ch).kind = none := by
  cases ch <;> rfl

/-- A change on a port that takes it goes to the condition store, and the arbiter acts on what it raised. -/
theorem exec_change {i : Instr} {p : Port} {tag : Byte} {ch : Change} {s : State}
    (hi : requestRow i = some (p, tag, .change ch)) (hs : Serving s p)
    (hr : roleAllows (Request.change ch).kind (portRole p) = true) :
    exec i s = .next (arbitrate s.eval (takeChange ch (nextCaller s p (kindByte (Request.change ch).kind) tag)
      (openRequest (nextCaller s p (kindByte (Request.change ch).kind) tag) s))) := by
  rw [exec_requestRow s hi, request_serving hs hr (modeAnswer_change ch)]
  rfl

/-- A change refused for its form has no effect and leaves its record's timers (R36, log 20). -/
theorem exec_change_malformed {i : Instr} {p : Port} {tag : Byte} {ch : Change} {s : State}
    (hi : requestRow i = some (p, tag, .change ch)) (hs : Serving s p)
    (hr : roleAllows (Request.change ch).kind (portRole p) = true) (hform : changeMalformed ch = true) :
    exec i s = refusesOnly s p (Request.change ch).kind tag .badArgument := by
  rw [exec_change hi hs hr, takeChange, if_pos hform]
  exact congrArg Host.Outcome.next ((arbitrate_same rfl rfl rfl rfl rfl).trans
    (answer_opened s s p (Request.change ch).kind tag _))

/-- The state in which a change that is not malformed is taken: a report has arrived, and the request is open. -/
theorem changeArrives_opened (ch : Change) (s : State) (q : Caller) :
    changeArrives q.port ch (openRequest q s) = (changeArrives q.port ch s).withPorts (openRequest q s).ports :=
  changeArrives_withPorts q.port ch s _

theorem capturing_changeArrives (p : Port) (ch : Change) (s : State) : (changeArrives p ch s).capturing = s.capturing := by
  unfold State.capturing
  rw [(stows_changeArrives p ch s).eval]

/-- What taking a change does to an opened request when its form is in order: held or BUSY during a capture, and otherwise
applied to the state its arrival leaves (R36, R37). -/
theorem takeChange_opened {ch : Change} (hform : changeMalformed ch = false) (p : Port) (k : ReqKind) (tag : Byte) (s : State) :
    takeChange ch (nextCaller s p (kindByte k) tag) (openRequest (nextCaller s p (kindByte k) tag) s) =
      (let a := changeArrives p ch s
       if s.capturing = true then
         if a.cond.hold.any (fun h => h.caller.port == p) = true then
           { a with ports := answeredPorts s p k tag ⟨.busy, .statusOnly⟩ }
         else { a with cond := { a.cond with hold := a.cond.hold ++ [⟨nextCaller s p (kindByte k) tag, ch⟩] }
                       ports := deferredPorts s p k tag }
       else { (applyChange p ch a).1 with ports := answeredPorts s p k tag (applyChange p ch a).2 }) := by
  have harrive := changeArrives_opened ch s (nextCaller s p (kindByte k) tag)
  rw [takeChange, if_neg (by simp [hform]), harrive, ← capturing_changeArrives p ch s]
  dsimp only
  by_cases hcap : (changeArrives p ch s).capturing = true
  · refine (if_pos hcap).trans (.trans ?_ (if_pos hcap).symm)
    by_cases hany : (changeArrives p ch s).cond.hold.any (fun h => h.caller.port == p) = true
    · exact (if_pos hany).trans ((answer_opened _ s p k tag _).trans (if_pos hany).symm)
    · exact (if_neg hany).trans ((defer_opened ((changeArrives p ch s).withCond { (changeArrives p ch s).cond with
        hold := (changeArrives p ch s).cond.hold ++ [⟨nextCaller s p (kindByte k) tag, ch⟩] }) s p k tag).trans
        (if_neg hany).symm)
  · refine (if_neg hcap).trans (.trans ?_ (if_neg hcap).symm)
    rw [applyChange_withPorts]
    exact answer_opened _ s p k tag _

/-- A second change from a port during a capture is answered BUSY; a report has arrived all the same (R37, log 20). -/
theorem exec_change_busy {i : Instr} {p : Port} {tag : Byte} {ch : Change} {s : State}
    (hi : requestRow i = some (p, tag, .change ch)) (hs : Serving s p)
    (hr : roleAllows (Request.change ch).kind (portRole p) = true) (hform : changeMalformed ch = false)
    (hcap : s.capturing = true) (hheld : ∃ h ∈ s.cond.hold, h.caller.port = p) :
    exec i s = answersOnly (changeArrives p ch s) p (Request.change ch).kind tag ⟨.busy, .statusOnly⟩ := by
  have hwork := stows_changeArrives p ch s
  have hany : (changeArrives p ch s).cond.hold.any (fun h => h.caller.port == p) = true := by
    obtain ⟨h, hmem, hport⟩ := hheld
    rw [hwork.hold]
    exact List.any_eq_true.2 ⟨h, hmem, beq_iff_eq.2 hport⟩
  rw [exec_change hi hs hr, takeChange_opened hform, if_pos hcap, if_pos hany, arbitrate_same]
  · unfold answersOnly answeredPorts nextCaller
    rw [hwork.ports]
  all_goals exact congrArg _ hwork.eval

/-- The first change from a port during a capture is held, with its reply deferred (R37, R83). -/
theorem exec_change_held {i : Instr} {p : Port} {tag : Byte} {ch : Change} {s : State}
    (hi : requestRow i = some (p, tag, .change ch)) (hs : Serving s p)
    (hr : roleAllows (Request.change ch).kind (portRole p) = true) (hform : changeMalformed ch = false)
    (hcap : s.capturing = true) (hheld : ∀ h ∈ s.cond.hold, h.caller.port ≠ p) :
    exec i s = .next { changeArrives p ch s with
      cond := { (changeArrives p ch s).cond with
        hold := s.cond.hold ++ [⟨nextCaller s p (kindByte (Request.change ch).kind) tag, ch⟩] }
      ports := deferredPorts s p (Request.change ch).kind tag } := by
  have hwork := stows_changeArrives p ch s
  have hany : ¬ (changeArrives p ch s).cond.hold.any (fun h => h.caller.port == p) = true := by
    rw [hwork.hold, List.any_eq_true]
    rintro ⟨h, hmem, hport⟩
    exact hheld h hmem (beq_iff_eq.1 hport)
  rw [exec_change hi hs hr, takeChange_opened hform, if_pos hcap, if_neg hany, arbitrate_same, ← hwork.hold]
  all_goals exact congrArg _ hwork.eval

/-- With no capture in progress a change is applied at once to the state its arrival leaves, and answered (R36). -/
theorem exec_change_applied {i : Instr} {p : Port} {tag : Byte} {ch : Change} {s : State}
    (hi : requestRow i = some (p, tag, .change ch)) (hs : Applying s p)
    (hr : roleAllows (Request.change ch).kind (portRole p) = true) (hform : changeMalformed ch = false) :
    exec i s = .next (arbitrate s.eval { (applyChange p ch (changeArrives p ch s)).1 with
      ports := answeredPorts s p (Request.change ch).kind tag (applyChange p ch (changeArrives p ch s)).2 }) := by
  obtain ⟨hserve, hcap⟩ := hs
  rw [exec_change hi hserve hr, takeChange_opened hform, if_neg (by simp [hcap])]

/-- The arrival of a change leaves the condition. -/
theorem changeArrives_cond (p : Port) (ch : Change) (s : State) : (changeArrives p ch s).cond = s.cond := by
  have hsilence (c : Crane) : (reportArrives c s).cond = s.cond := by
    unfold reportArrives
    split
    · exact endSilence_cond ..
    · rfl
  unfold changeArrives
  split
  · unfold hookArrives
    split <;> rfl
  · exact hsilence _
  · exact hsilence _
  · rfl

/-! ### The form of a change (R137, R139, R141, R151) -/

/-- A point in the ranges of the opening file. -/
theorem pointOk_iff (q : Point) :
    pointOk q = true ↔ -500 ≤ q.x ∧ q.x ≤ 19500 ∧ -2500 ≤ q.y ∧ q.y ≤ 2500 ∧ 0 ≤ q.z ∧ q.z ≤ 5000 := by
  simp only [pointOk, Bool.and_eq_true, within_iff]
  tauto

/-- A placement with its coordinates in the ranges of the opening file. -/
theorem placementOk_iff (pl : Placement) : placementOk pl = true ↔ -500 ≤ pl.xAft ∧ pl.xAft ≤ 19500 ∧ -500 ≤ pl.xFore ∧
    pl.xFore ≤ 19500 ∧ -2500 ≤ pl.y ∧ pl.y ≤ 2500 ∧ 0 ≤ pl.z ∧ pl.z ≤ 5000 := by
  simp only [placementOk, Bool.and_eq_true, within_iff]
  tauto

/-- The coordinates of a placement are those of its two ends. -/
theorem placementOk_iff_ends (pl : Placement) :
    placementOk pl = true ↔ pointOk ⟨pl.xAft, pl.y, pl.z⟩ = true ∧ pointOk ⟨pl.xFore, pl.y, pl.z⟩ = true := by
  rw [placementOk_iff, pointOk_iff, pointOk_iff]
  tauto

/-- Which changes are refused for their form at arrival; no planning change is (log 19). -/
theorem changeMalformed_iff (ch : Change) : changeMalformed ch = true ↔
    (∃ pairs, ch = .soundings pairs ∧ (pairs = [] ∨ 12 < pairs.length)) ∨
    (∃ q, (ch = .hookOn q ∨ ch = .hookAt q) ∧ ¬ pointOk q = true) ∨ ch = .landed none ∨
    (∃ pl, ch = .landed (some (.place pl)) ∧ ¬ placementOk pl = true) := by
  cases ch with
  | soundings pairs => simp [changeMalformed, show Config.maxPairs = 12 from rfl]
  | hookOn q => simp [changeMalformed]
  | hookAt q => simp [changeMalformed]
  | landed g =>
    cases g with
    | none => simp [changeMalformed]
    | some g => cases g <;> simp [changeMalformed, goalOk]
  | _ => simp [changeMalformed]

/-- Settles O19: the four ways in which a change is taken, and the form of a change. -/
theorem changeDuringCaptureIsHeld : Obligations.ChangeDuringCaptureIsHeld := by
  refine ⟨fun i p tag ch s hi hs hr => ⟨exec_change_malformed hi hs hr, exec_change_busy hi hs hr, fun hform hcap hheld => ?_⟩,
    fun ch => ?_⟩
  · rw [exec_change_held hi hs hr hform hcap hheld, changeArrives_cond]
  · simp only [changeMalformed_iff, placementOk_iff_ends, pointOk_iff]

/-! ### Capture complete (R84) -/

/-- What a held change does at its turn: it is applied, and answered on its port if its reply is still deferred. -/
theorem applyHeld_eq (t : State) (h : Held) : applyHeld t h =
    (let r := applyChange h.caller.port h.change t
     if (r.1.ports.get h.caller.port).deferred = some h.caller then
        { r.1 with ports := r.1.ports.modify h.caller.port (fun x => { x with
            deferred := none, tx := x.tx ++ [⟨⟨replyKind h.caller.kind, h.caller.tag, r.2⟩, some h.caller.mark⟩] }) }
      else r.1) := deliver_eq ..

/-- The held changes at their turns leave the hold list and the running job. -/
theorem applyHeld_foldl_keeps (l : List Held) (s : State) :
    (l.foldl applyHeld s).cond.hold = s.cond.hold ∧ (l.foldl applyHeld s).eval.engine = s.eval.engine := by
  refine ⟨?_, (carries_foldl carries_applyHeld l s).engine⟩
  induction l generalizing s with
  | nil => rfl
  | cons h l ih =>
    rw [List.foldl_cons, ih, applyHeld, deliver_cond, applyChange_hold]

/-- Settles O30: the turns are `applyHeld` one after another, and a change taken at once is `exec_change_applied`. -/
theorem captureCompleteAppliesHeldChanges : Obligations.CaptureCompleteAppliesHeldChanges := by
  refine ⟨fun s j hj hstage => ?_, fun s hcap => ?_, fun i p tag ch s hi hs hr hform => exec_change_applied hi hs hr hform,
    fun p ch s => ⟨applyChange_ports p ch s, ?_, fun hmode hversion => ?_⟩⟩
  · obtain ⟨hhold, hengine⟩ := applyHeld_foldl_keeps s.cond.hold { s with cond := { s.cond with hold := [] } }
    dsimp only
    simp only [← applyHeld_eq]
    refine ⟨?_, hhold, hengine.trans hj⟩
    show Host.Outcome.next (capturesComplete s) = _
    unfold capturesComplete
    rw [hj]
    dsimp only
    rw [if_pos hstage]
    rfl
  · show Host.Outcome.next (capturesComplete s) = _
    unfold capturesComplete State.capturing at *
    cases hj : s.eval.engine with
    | none => rfl
    | some j =>
      rw [hj] at hcap
      dsimp only
      rw [if_neg (by simpa using hcap)]
  · rcases applyChange_version p ch s with ⟨h, -⟩ | ⟨h, -⟩
    · exact .inl h
    · exact .inr h
  · rcases applyChange_version p ch s with ⟨h, -⟩ | ⟨-, h⟩
    · rw [h] at hversion
      exact absurd hversion (by simp)
    · rw [h]
      simp [routineRaised, hmode]

end Sys2Proof.Machine
end

section
namespace Sys2Proof.Machine
open Sys2Proof

/-! ### Changes taken at once (R36) -/

/-- A change that is answered at once and changes nothing. -/
theorem exec_change_unchanged {i : Instr} {p : Port} {tag : Byte} {ch : Change} {s : State} {a : Answer}
    (hi : requestRow i = some (p, tag, .change ch)) (hs : Applying s p)
    (hr : roleAllows (Request.change ch).kind (portRole p) = true) (hform : changeMalformed ch = false)
    (h : applyChange p ch (changeArrives p ch s) = (s, a)) :
    exec i s = answersOnly s p (Request.change ch).kind tag a := by
  rw [exec_change_applied hi hs hr hform, h]
  exact congrArg Host.Outcome.next (arbitrate_same rfl rfl rfl rfl rfl)

/-- A change that is refused at once. -/
theorem exec_change_refused {i : Instr} {p : Port} {tag : Byte} {ch : Change} {s : State} {st : Status}
    (hi : requestRow i = some (p, tag, .change ch)) (hs : Applying s p)
    (hr : roleAllows (Request.change ch).kind (portRole p) = true) (hform : changeMalformed ch = false)
    (h : applyChange p ch (changeArrives p ch s) = refuse st s) :
    exec i s = refusesOnly s p (Request.change ch).kind tag st := exec_change_unchanged hi hs hr hform h

/-- A change that leaves the condition as `c`, with the version advanced and the answer `a`. -/
theorem exec_change_changes {i : Instr} {p : Port} {tag : Byte} {ch : Change} {s : State} {c : Condition} {a : Answer}
    (hi : requestRow i = some (p, tag, .change ch)) (hs : Applying s p)
    (hr : roleAllows (Request.change ch).kind (portRole p) = true) (hform : changeMalformed ch = false)
    (h : applyChange p ch (changeArrives p ch s) =
      ({ s with cond := { c with version := s.cond.version + 1 }, eval := routineRaised s }, a)) :
    exec i s = changesCond s p (Request.change ch).kind tag c a := by
  rw [exec_change_applied hi hs hr hform, h]
  rfl

/-- A change applied DONE on a condition whose version is the old one. -/
theorem accept_withCond {s : State} {c : Condition} (st : Status) (h : c.version = s.cond.version) :
    accept st (s.withCond c) = ({ s with cond := { c with version := s.cond.version + 1 }, eval := routineRaised s },
      ⟨st, .version (s.cond.version + 1)⟩) := by
  rw [accept_eq, ← h]
  rfl

/-- When an item is busy: SLUNG, or named by a lift record (R25). -/
theorem itemBusy_iff (s : State) (tag : Nat) (it : ItemRecord) :
    s.itemBusy tag it = true ↔ it.state = .slung ∨ s.named tag = true := by
  simp [State.itemBusy]

/-- When an item is free. -/
theorem itemBusy_eq_false {s : State} {tag : Nat} {it : ItemRecord} (hstate : it.state ≠ .slung) (hn : s.named tag = false) :
    s.itemBusy tag it = false := by
  simp [State.itemBusy, hstate, hn]

/-- What shifting a load does: an ABOARD item's compartment changes, and no other. -/
theorem shiftLoad_eq (it : ItemRecord) (d : Int) (s : State) : shiftLoad it d s = s.withCond { s.cond with
    comps := match it.state, it.actual with
      | .aboard, some pl => s.cond.comps.store .empty pl.comp { s.comp pl.comp with load := (s.comp pl.comp).load + d }
      | _, _ => s.cond.comps } := by
  unfold shiftLoad
  cases it.state <;> cases it.actual <;> rfl

/-- What leaving its compartment does for an item: an ABOARD one is out of its stow list and load (R31, R32). -/
theorem leaveComp_eq (tag : Nat) (it : ItemRecord) (s : State) : leaveComp tag it s = s.withCond { s.cond with
    comps := match it.state, it.actual with
      | .aboard, some pl => s.cond.comps.store .empty pl.comp
          ⟨(s.comp pl.comp).flag, (s.comp pl.comp).load - it.mass, (s.comp pl.comp).stow.filter (fun t => t != tag)⟩
      | _, _ => s.cond.comps } := by
  unfold leaveComp
  cases it.state <;> cases it.actual <;> rfl

/-! ### AMEND ITEM and CANCEL PLAN (R40, R42) -/

/-- When an AMEND ITEM is malformed (R40). -/
theorem amendMalformed_iff (mass dport : Option Int) :
    ((mass.isNone && dport.isNone) || !(mass.elim true (within 1 60000)) || !(dport.elim true (within 0 15))) = true ↔
      (mass = none ∧ dport = none) ∨ (∃ m, mass = some m ∧ (m < 1 ∨ 60000 < m)) ∨
        (∃ d, dport = some d ∧ (d < 0 ∨ 15 < d)) := by
  have houtside (lo hi v : Int) : (!within lo hi v) = true ↔ v < lo ∨ hi < v := by
    rw [Bool.not_eq_true', ← Bool.not_eq_true, within_iff]
    omega
  cases mass <;> cases dport <;> simp [houtside]

/-- AMEND ITEM on an item that is free (R40). -/
theorem applyAmendItem_free {s : State} {tag : Nat} {it : ItemRecord} {mass dport : Option Int}
    (hform : ¬ ((mass.isNone && dport.isNone) || !(mass.elim true (within 1 60000)) || !(dport.elim true (within 0 15))) = true)
    (hit : s.item tag = some it) (hfree : s.itemBusy tag it = false) :
    applyAmendItem tag mass dport s =
      accept .done (shiftLoad it (mass.getD it.mass - it.mass)
        (s.setItem tag { it with mass := mass.getD it.mass, dport := dport.getD it.dport })) := by
  unfold applyAmendItem
  rw [if_neg hform, hit]
  dsimp only
  rw [if_neg (by simp [hfree])]

/-- Settles O21: the tests of AMEND ITEM and CANCEL PLAN in their order, and the item record written. -/
theorem amendItemAndCancelPlanApply : Obligations.AmendItemAndCancelPlanApply := by
  refine ⟨fun tag item mass dport s hs => ?_, fun tag item s hs => ?_⟩
  · have hrefused {st : Status} (h : applyAmendItem item mass dport s = refuse st s) :=
      exec_change_refused (i := .amendItem .portP tag item mass dport) (ch := .amendItem item mass dport) rfl hs rfl rfl h
    dsimp only
    rw [← amendMalformed_iff]
    refine ⟨fun hbad => hrefused ?_, fun hok hitem => hrefused ?_, fun it hok hit hbusy => hrefused ?_,
      fun it hok hit hstate hnamed =>
        exec_change_changes (ch := .amendItem item mass dport) rfl hs rfl rfl ?_⟩
    · rw [applyAmendItem, if_pos hbad]
    · rw [applyAmendItem, if_neg hok, hitem]
    · rw [applyAmendItem, if_neg hok, hit]
      exact if_pos ((itemBusy_iff s item it).2 hbusy)
    · refine (applyAmendItem_free hok hit (itemBusy_eq_false hstate hnamed)).trans ?_
      rw [shiftLoad_eq]
      exact accept_withCond (s := s.setItem item _) .done rfl
  · have hrefused {st : Status} (h : applyCancelPlan item s = refuse st s) :=
      exec_change_refused (i := .cancelPlan .portP tag item) (ch := .cancelPlan item) rfl hs rfl rfl h
    refine ⟨fun hitem => hrefused ?_, fun it hit hbusy => hrefused ?_, fun it hit hstate hnamed hnone => hrefused ?_,
      fun it g hit hstate hnamed hplan => exec_change_changes (ch := .cancelPlan item) rfl hs rfl rfl ?_⟩
    · rw [applyCancelPlan, hitem]
    · rw [applyCancelPlan, hit]
      exact if_pos ((itemBusy_iff s item it).2 hbusy)
    · rw [applyCancelPlan, hit]
      dsimp only
      rw [if_neg (by simp [itemBusy_eq_false hstate hnamed])]
      rcases hnone with hpending | hplan
      · rw [if_pos hpending]
      · rw [if_pos (show it.plan.isNone = true by rw [hplan]; rfl), ite_self]
    · show applyCancelPlan item s = _
      rw [applyCancelPlan, hit]
      dsimp only
      rw [if_neg (by simp [itemBusy_eq_false (s := s) (tag := item) (it := it) (by simp [hstate]) hnamed]),
        if_neg (by simp [hstate]), if_neg (by simp [hplan])]
      exact accept_withCond .done rfl

/-! ### REMOVE ITEM (R44, R45) -/

/-- What dropping the rests-on field of a plan does (R45). -/
theorem dropPlanRest_eq (tag : Nat) (x : ItemRecord) : dropPlanRest tag x = (match x.plan with
    | some (.place pl) => if pl.restsOn = some tag then { x with plan := some (.place { pl with restsOn := none }) } else x
    | _ => x) := by
  unfold dropPlanRest restsOn
  cases x.plan with
  | none => rfl
  | some g =>
    cases g with
    | ashore => rfl
    | place pl => simp only [beq_iff_eq]

/-- What deleting an item does to the condition (R45). -/
theorem deleteItem_eq {s : State} {tag : Nat} {it : ItemRecord} (hit : s.item tag = some it) :
    deleteItem tag s = s.withCond { s.cond with
      items := (s.cond.items.drop tag).mapVals (fun _ x => dropPlanRest tag x)
      comps := (leaveComp tag it s).cond.comps } := by
  unfold deleteItem
  rw [hit]
  dsimp only
  rw [leaveComp_eq]
  rfl

/-- When an item is overstowed (R44, R127). -/
theorem overstowed_iff (s : State) (item : Nat) : s.overstowed item = true ↔
    (∃ e ∈ s.cond.items, e.2.state = .aboard ∧ ∃ pl, e.2.actual = some pl ∧ pl.restsOn = some item) ∨
    (∃ c l pl, (s.record c).state ∈ [LiftState.joining, .checking, .granted, .slung] ∧ (s.record c).lift = some l ∧
      l.dest = .place pl ∧ pl.restsOn = some item) := by
  have hitem (it : ItemRecord) : itemRestsOn it item = true ↔
      it.state = .aboard ∧ ∃ pl, it.actual = some pl ∧ pl.restsOn = some item := by
    unfold itemRestsOn restsOn
    cases it.actual <;> simp
  have hrecord (r : LiftRecord) : recordRestsOn r item = true ↔ ∃ l pl,
      r.state ∈ [LiftState.joining, .checking, .granted, .slung] ∧ r.lift = some l ∧ l.dest = .place pl ∧
        pl.restsOn = some item := by
    have hactive : liftActive r = true ↔ r.state ∈ [LiftState.joining, .checking, .granted, .slung] := by
      unfold liftActive
      cases r.state <;> decide
    unfold recordRestsOn
    rw [Bool.and_eq_true, hactive]
    cases r.lift with
    | none => simp
    | some l => cases hd : l.dest <;> simp [goalRestsOn, restsOn, hd]
  have hcranes (P : LiftRecord → Prop) : P s.lifts.records.c1 ∨ P s.lifts.records.c2 ↔ ∃ c, P (s.record c) :=
    ⟨fun h => h.elim (fun h => ⟨.crane1, h⟩) (fun h => ⟨.crane2, h⟩), fun ⟨c, h⟩ => by cases c; exacts [.inl h, .inr h]⟩
  rw [State.overstowed, Bool.or_eq_true, Bool.or_eq_true, or_assoc, hcranes (recordRestsOn · item = true)]
  simp only [List.any_eq_true, hitem, hrecord]

/-- Settles O23: the tests of REMOVE ITEM in their order, and the deletion. -/
theorem removeItemApplies : Obligations.RemoveItemApplies := by
  refine ⟨fun tag item s hs => ?_, overstowed_iff⟩
  have hrefused {st : Status} (h : applyRemoveItem item s = refuse st s) :=
    exec_change_refused (i := .removeItem .portP tag item) (ch := .removeItem item) rfl hs rfl rfl h
  refine ⟨fun hitem => hrefused ?_, fun it hit hbusy => hrefused ?_, fun it hit hstate hnamed hover => hrefused ?_,
    fun it hit hstate hnamed hover => exec_change_changes (ch := .removeItem item) rfl hs rfl rfl ?_⟩
  · rw [applyRemoveItem, hitem]
  · rw [applyRemoveItem, hit]
    exact if_pos ((itemBusy_iff s item it).2 hbusy)
  · rw [applyRemoveItem, hit]
    dsimp only
    rw [if_neg (by simp [itemBusy_eq_false hstate hnamed]), if_pos hover]
  · show applyRemoveItem item s = _
    rw [applyRemoveItem, hit]
    dsimp only
    rw [if_neg (by simp [itemBusy_eq_false hstate hnamed]), if_neg (by simp [hover]), deleteItem_eq hit, leaveComp_eq]
    simp only [dropPlanRest_eq]
    exact accept_withCond .done rfl

end Sys2Proof.Machine
end

section
namespace Sys2Proof.Machine
open Sys2Proof

/-! ### SET COMPARTMENT, CLEAR CONDITION and SET DENSITY (R34, R46, R47) -/

theorem stowComp_stow {img : Image} {n : Nat} {r : CompRecord} {k : StowKind} {m : Int} (h : img.comp n = some r)
    (hu : r.use = .stow k m) : img.stowComp n = some (r, k, m) := by
  unfold Image.stowComp
  rw [h]
  dsimp only
  rw [hu]

/-- A record is active in JOINING, CHECKING, GRANTED and SLUNG. -/
theorem liftActive_iff (r : LiftRecord) :
    liftActive r = true ↔ r.state ∈ [LiftState.joining, .checking, .granted, .slung] := by
  unfold liftActive
  cases r.state <;> decide

/-- A record is not active in IDLE and DONE. -/
theorem liftActive_eq_false_iff (r : LiftRecord) : liftActive r = false ↔ r.state ∈ [LiftState.idle, .done] := by
  unfold liftActive
  cases r.state <;> decide

theorem liftsActive_iff (s : State) : s.liftsActive = true ↔ ∃ c, liftActive (s.record c) = true := by
  unfold State.liftsActive
  rw [Bool.or_eq_true]
  exact ⟨fun h => h.elim (fun h => ⟨.crane1, h⟩) (fun h => ⟨.crane2, h⟩), fun ⟨c, h⟩ => by cases c; exacts [.inl h, .inr h]⟩

theorem liftsActive_eq_false_iff (s : State) : s.liftsActive = false ↔ ∀ c, liftActive (s.record c) = false := by
  rw [← Bool.not_eq_true, liftsActive_iff]
  simp

/-- CLEAR CONDITION with no active record (R47). -/
theorem applyClearCondition_inactive {s : State} (h : s.liftsActive = false) : applyClearCondition s =
    ({ s with
      cond := { (emptyStows s).cond with version := s.cond.version + 1 }
      eval := routineRaised s
      tanks := { s.tanks with fills := [] }
      trials := ⟨[], false⟩ }, ⟨.done, .version (s.cond.version + 1)⟩) := by
  rw [applyClearCondition, if_neg (by simp [h])]
  exact accept_eq ..

/-- Settles O24: the three changes one by one. -/
theorem setCompartmentClearAndDensityApply : Obligations.SetCompartmentClearAndDensityApply := by
  intro tag s hs
  have hinactive (h : ∀ c, (s.record c).state ∈ [LiftState.idle, .done]) : s.liftsActive = false :=
    (liftsActive_eq_false_iff s).2 (by simpa only [liftActive_eq_false_iff] using h)
  refine ⟨fun n f r k m hr hu => exec_change_changes (ch := .setCompartment n (some f)) rfl hs rfl rfl ?_,
    fun n f hbad => exec_change_refused (ch := .setCompartment n f) rfl hs rfl rfl ?_,
    fun hactive => exec_change_refused (ch := .clearCondition) rfl hs rfl rfl ?_,
    fun hidle hrising => ⟨_, exec_change_applied (ch := .clearCondition) rfl hs rfl rfl, ?_, ?_⟩,
    fun d => exec_change_changes (ch := .setDensity d) rfl hs rfl rfl ?_⟩
  · show applySetCompartment n (some f) s = _
    unfold applySetCompartment
    rw [stowComp_stow hr hu]
    exact accept_withCond .done rfl
  · show applySetCompartment n f s = _
    unfold applySetCompartment
    rcases hbad with rfl | hnone
    · cases s.ship.image.stowComp n <;> rfl
    · rw [hnone]
  · show applyClearCondition s = _
    rw [applyClearCondition, if_pos ((liftsActive_iff s).2 (by simpa only [liftActive_iff] using hactive))]
  · show ({ (applyClearCondition s).1 with
      ports := answeredPorts s .portP .clearCondition tag (applyClearCondition s).2 } : State) = _
    rw [applyClearCondition_inactive (hinactive hidle)]
    simp only [changeArrives, applyChange, applyClearCondition_inactive (hinactive hidle)]
    rfl
  · intro n
    show Table.value _ n (applyClearCondition s).1.cond.comps = _
    rw [applyClearCondition_inactive (hinactive hidle)]
    exact comp_emptied _ hrising n
  · dsimp only
    show applySetDensity d s = _
    dsimp only [applySetDensity]
    rw [advance_eq]
    rfl

/-! ### Reads of the condition (R48, R49) -/

/-- IN SERVICE a request of any role that its block answers at once, changing nothing else. -/
theorem exec_read {i : Instr} {p : Port} {tag : Byte} {r : Request} {s : State} {a : Answer}
    (hi : requestRow i = some (p, tag, r)) (hs : Serving s p) (hr : ∀ role, roleAllows r.kind role = true)
    (hm : modeAnswer .inService r.kind = none) (ha : ∀ q t, t.cond = s.cond → t.ship = s.ship → t.lifts = s.lifts →
      t.tanks = s.tanks → serve r q t = answer q a t) :
    exec i s = answersOnly s p r.kind tag a := by
  obtain ⟨hready, hmode⟩ := hs
  rw [exec_requestRow s hi, request_answered hready (by simp [hmode]) (hr _) (by rw [hmode]; exact hm)
    (ha _ _ rfl rfl rfl rfl)]
  rfl

/-- The presence and link bits of an item record, from bit 3 down (section 8.5, log 28). -/
theorem flagByte_item (it : ItemRecord) :
    flagByte [it.link.isSome, it.plan == some .ashore, it.plan.isSome && it.plan != some .ashore, it.actual.isSome] =
      byteOf ((if it.actual.isSome = true then 1 else 0) + (if it.plan.any (fun g => g != .ashore) = true then 2 else 0) +
        (if (it.plan == some .ashore) = true then 4 else 0) + (if it.link.isSome = true then 8 else 0)) := by
  unfold flagByte
  have hplan : (it.plan.isSome && it.plan != some .ashore) = it.plan.any (fun g => g != .ashore) := by
    cases it.plan with
    | none => rfl
    | some g => cases g <;> rfl
  rw [hplan]
  generalize it.actual.isSome = a
  generalize it.plan.any (fun g => g != .ashore) = b
  generalize (it.plan == some .ashore) = c
  generalize it.link.isSome = d
  cases a <;> cases b <;> cases c <;> cases d <;> rfl

/-- What READ ITEM lays out, from its fields as bytes (section 8.5). -/
theorem itemBytes_eq {tag : Nat} {it : ItemRecord} {v : Version} {kind state link : Byte} {actual plan : List Byte}
    (hkind : itemKindByte it.kind = kind) (hstate : itemStateByte it.state = state) (hlink : linkByte it.link = link)
    (hactual : it.actual.elim noPlacement placementBytes = actual) (hplan : it.plan.elim noPlacement goalBytes = plan) :
    itemBytes tag it v = bytes2 tag ++ ([kind, state] : List Byte) ++ bytes2 it.mass ++
      [byteOf it.dport,
       byteOf ((if it.actual.isSome = true then 1 else 0) + (if it.plan.any (fun g => g != .ashore) = true then 2 else 0) +
        (if (it.plan == some .ashore) = true then 4 else 0) + (if it.link.isSome = true then 8 else 0)), link] ++
      actual ++ plan ++ bytes4 (v.toNat : Int) := by
  subst hkind hstate hlink hactual hplan
  unfold itemBytes
  rw [flagByte_item]
  simp only [List.append_assoc, List.cons_append, List.nil_append]
  cases it.actual <;> cases it.plan <;> rfl

/-- The destination of a SLUNG item is that of its record, where every SLUNG record that names it agrees (R33). -/
theorem slungDest_eq {s : State} {tag : Nat} {c : Crane} {l : Lift} (hstate : (s.record c).state = .slung)
    (hlift : (s.record c).lift = some l) (htag : l.tag = tag)
    (hagree : ∀ d, (s.record d).state = .slung → recordNames (s.record d) tag = true →
      (s.record d).lift.map Lift.dest = some l.dest) : s.slungDest tag = some l.dest := by
  have hnames : recordNames (s.record c) tag = true := by simp [recordNames, liftActive, hstate, hlift, htag]
  have hread (d : Crane) : (if ((s.record d).state == .slung && recordNames (s.record d) tag) = true
      then (s.record d).lift.map Lift.dest else none) = some l.dest ∨
      (if ((s.record d).state == .slung && recordNames (s.record d) tag) = true
        then (s.record d).lift.map Lift.dest else none) = none := by
    split
    · next h =>
      rw [Bool.and_eq_true, beq_iff_eq] at h
      exact .inl (hagree d h.1 h.2)
    · exact .inr rfl
  have hown : (if ((s.record c).state == .slung && recordNames (s.record c) tag) = true
      then (s.record c).lift.map Lift.dest else none) = some l.dest := by
    rw [if_pos (by simp [hstate, hnames]), hlift]
    rfl
  show Option.or _ _ = _
  cases c with
  | crane1 =>
    refine (congrArg (Option.or · _) hown).trans rfl
  | crane2 =>
    rcases hread .crane1 with h | h
    · exact (congrArg (Option.or · _) h).trans rfl
    · exact (congrArg (Option.or · _) h).trans hown

/-- Settles O26: what each read answers, and what the intended compartment of an item is. -/
theorem conditionReads : Obligations.ConditionReads := by
  refine ⟨fun p tag s hs => ⟨fun item hitem => ?_, fun item it hit => ?_, fun start => ?_, fun n start hn => ?_,
    fun n start r k m hr hu => ?_, fun n start r m cx cy fsm hr hu => ?_⟩, fun s n => ⟨rfl, fun tag it => ?_⟩⟩
  · refine exec_read (r := .readItem item) rfl hs (fun role => by cases role <;> rfl) rfl fun q t hc _ _ _ => ?_
    simp only [serve, takeReadItem, State.item, hc] at hitem ⊢
    rw [hitem]
    rfl
  · refine Eq.trans ?_ (congrArg (fun b => answersOnly s p .readItem tag ⟨.done, .layout b⟩)
      (itemBytes_eq (it := it) ?_ ?_ ?_ ?_ ?_))
    · refine exec_read (r := .readItem item) rfl hs (fun role => by cases role <;> rfl) rfl fun q t hc _ _ _ => ?_
      simp only [serve, takeReadItem, State.item, hc] at hit ⊢
      rw [hit]
    · cases it.kind <;> rfl
    · cases it.state <;> rfl
    · rcases it.link with _ | _ | _ <;> rfl
    · cases it.actual <;> rfl
    · rcases it.plan with _ | _ | _ <;> rfl
  · refine exec_read (r := .listItems start) rfl hs (fun role => by cases role <;> rfl) rfl fun q t hc _ _ _ => ?_
    simp only [serve, takeListItems, listedTags, hc, Table.keys]
    rfl
  · refine exec_read (r := .readCompartment n start) rfl hs (fun role => by cases role <;> rfl) rfl fun q t _ hship _ _ => ?_
    simp only [serve, takeReadCompartment, hship, hn]
    rfl
  · refine exec_read (r := .readCompartment n start) rfl hs (fun role => by cases role <;> rfl) rfl
      fun q t hc hship hlifts _ => ?_
    have hplanned : t.plannedLoad n = s.plannedLoad n := by
      unfold State.plannedLoad State.intended State.slungDest
      rw [hc, hlifts]
    simp only [serve, takeReadCompartment, hship, hr, compReport, hu, State.comp, hc, hplanned]
    rfl
  · refine exec_read (r := .readCompartment n start) rfl hs (fun role => by cases role <;> rfl) rfl
      fun q t hc hship _ htanks => ?_
    simp only [serve, takeReadCompartment, hship, hr, compReport, hu, State.fill, hc, htanks]
    rfl
  · refine ⟨fun pl h => ?_, fun h => ?_, fun pl hplan hstate hactual => ?_, fun c l hplan hstate hslung hlift htag hagree => ?_,
      fun hplan hstate => ?_⟩
    all_goals unfold State.intended
    · rw [h]; rfl
    · rw [h]; rfl
    · simp only [hplan, hstate, hactual]
      rfl
    · simp only [hplan, hstate, slungDest_eq hslung hlift htag hagree]
      cases l.dest <;> rfl
    · simp only [hplan, hstate]

end Sys2Proof.Machine
end

section
namespace Sys2Proof.Machine
open Sys2Proof

/-! ### Placements and their uses (R26, R27) -/

theorem stowComp_eq_some {img : Image} {n : Nat} {r : CompRecord} {k : StowKind} {m : Int} :
    img.stowComp n = some (r, k, m) ↔ img.comp n = some r ∧ r.use = .stow k m := by
  unfold Image.stowComp
  cases img.comp n with
  | none => simp
  | some r' =>
    cases hu : r'.use with
    | stow k' m' =>
      simp only [hu, Option.some.injEq, Prod.mk.injEq]
      constructor
      · rintro ⟨rfl, rfl, rfl⟩
        exact ⟨rfl, hu⟩
      · rintro ⟨rfl, h⟩
        rw [hu] at h
        cases h
        exact ⟨rfl, rfl, rfl⟩
    | tank a b c d =>
      simp only [hu, reduceCtorEq, Option.some.injEq, false_iff, not_and]
      rintro rfl h
      rw [hu] at h
      cases h

/-- When a placement is geometrically sound (R26). -/
theorem geometrySound_iff (img : Image) (pl : Placement) : geometrySound img pl = true ↔
    ∃ r k m, img.comp pl.comp = some r ∧ r.use = .stow k m ∧ r.xAft ≤ pl.xAft ∧ pl.xAft ≤ pl.xFore ∧
      pl.xFore ≤ r.xFore ∧ pl.xFore - pl.xAft ≤ 4000 ∧ r.yMin ≤ pl.y ∧ pl.y ≤ r.yMax ∧ r.zFloor ≤ pl.z ∧ pl.z ≤ r.zTop := by
  unfold geometrySound
  constructor
  · intro h
    split at h
    · cases h
    · next r k m hs =>
      obtain ⟨hr, hu⟩ := stowComp_eq_some.1 hs
      simp only [Bool.and_eq_true, decide_eq_true_eq, within_iff] at h
      exact ⟨r, k, m, hr, hu, by tauto⟩
  · rintro ⟨r, k, m, hr, hu, h⟩
    rw [stowComp_eq_some.2 ⟨hr, hu⟩]
    simp only [Bool.and_eq_true, decide_eq_true_eq, within_iff]
    tauto

/-- When a placement's compartment passes the open test of its use (R27). -/
theorem openOk_iff (s : State) (u : PlacementUse) (pl : Placement) :
    openOk s u pl = true ↔ (u = .newPlan ∨ u = .liftDest → (s.comp pl.comp).flag = .opened) := by
  cases u <;> simp [openOk]

/-- When an item is ABOARD in a compartment. -/
theorem aboardIn_iff (it : ItemRecord) (n : Nat) :
    aboardIn it n = true ↔ it.state = .aboard ∧ ∃ q, it.actual = some q ∧ q.comp = n := by
  unfold aboardIn
  cases it.actual <;> simp

/-- When an item is planned in a compartment. -/
theorem plannedIn_iff (it : ItemRecord) (n : Nat) : plannedIn it n = true ↔ ∃ q, it.plan = some (.place q) ∧ q.comp = n := by
  unfold plannedIn
  rcases it.plan with _ | _ | _ <;> simp

/-- When a placement passes the rests-on tests of its use (R27). -/
theorem restsOnOk_iff (s : State) (u : PlacementUse) (tag : Nat) (pl : Placement) : restsOnOk s u tag pl = true ↔
    ∀ x, pl.restsOn = some x → x ≠ tag ∧
      (∃ it, s.item x = some it ∧
        ((it.state = .aboard ∧ ∃ q, it.actual = some q ∧ q.comp = pl.comp) ∨
         (u = .newPlan ∧ ∃ q, it.plan = some (.place q) ∧ q.comp = pl.comp))) ∧
      (u ≠ .newPlan → s.named x = false) := by
  unfold restsOnOk
  cases pl.restsOn with
  | none => simp
  | some r =>
    have hnamed : (u == .newPlan || !s.named r) = true ↔ (u ≠ .newPlan → s.named r = false) := by
      cases u <;> simp
    simp only [Option.some.injEq, forall_eq', Bool.and_eq_true, bne_iff_ne, and_assoc, hnamed]
    refine and_congr_right fun _ => and_congr ?_ Iff.rfl
    cases s.item r with
    | none => simp
    | some it =>
      simp only [Bool.or_eq_true, Bool.and_eq_true, beq_iff_eq, aboardIn_iff, plannedIn_iff, Option.some.injEq, exists_eq_left']

/-- When a placement is valid for its use (R26, R27). -/
theorem placementValid_iff (s : State) (u : PlacementUse) (tag : Nat) (pl : Placement) : placementValid s u tag pl = true ↔
    geometrySound s.ship.image pl = true ∧ openOk s u pl = true ∧ restsOnOk s u tag pl = true := by
  rw [placementValid, Bool.and_eq_true, Bool.and_eq_true, and_assoc]

/-! ### PLAN MOVE (R41, R166, R167) -/

/-- Which warnings a plan has (R166). -/
theorem mem_planWarnings (s : State) (dport : Int) (pl : Placement) (w : Warning) : w ∈ planWarnings s dport pl ↔
    (∃ r it, pl.restsOn = some r ∧ s.item r = some it ∧ it.dport ≠ 0 ∧ dport ≠ 0 ∧ it.dport < dport ∧ w = .portOrder r it.dport) ∨
    (∃ r k m, s.ship.image.stowComp pl.comp = some (r, k, m) ∧ m < s.plannedLoad pl.comp ∧
      w = .overLoad pl.comp (s.plannedLoad pl.comp) m) := by
  unfold planWarnings
  rw [List.mem_append]
  refine or_congr ?_ ?_
  · cases pl.restsOn with
    | none => simp
    | some r =>
      dsimp only
      cases hit : s.item r with
      | none => simp [hit]
      | some it =>
        dsimp only
        split <;> simp_all
  · cases s.ship.image.stowComp pl.comp with
    | none => simp
    | some x =>
      obtain ⟨r, k, m⟩ := x
      dsimp only
      split <;> simp_all

/-- When a goal is malformed: a placement with a coordinate out of range (R126, log 36). -/
theorem goalOk_eq_false_iff (g : Goal) : goalOk g = false ↔ ∃ pl, g = .place pl ∧ ¬ placementOk pl = true := by
  cases g <;> simp [goalOk]

/-- When a plan is invalid as a new plan of an item. -/
theorem planInvalid_iff (s : State) (tag : Nat) (g : Goal) :
    planInvalid s tag g = true ↔ ∃ pl, g = .place pl ∧ placementValid s .newPlan tag pl = false := by
  cases g <;> simp [planInvalid]

/-- DONE or WARNING on a condition whose version is the old one (R39, R41). -/
theorem acceptWarned_withCond {s : State} {c : Condition} (ws : List (Nat × List Warning)) (h : c.version = s.cond.version) :
    acceptWarned ws (s.withCond c) = ({ s with cond := { c with version := s.cond.version + 1 }, eval := routineRaised s },
      if ws = [] then ⟨.done, .version (s.cond.version + 1)⟩ else ⟨.warning, .warnings ws (s.cond.version + 1)⟩) := by
  cases ws with
  | nil => exact accept_withCond .done h
  | cons w ws =>
    unfold acceptWarned
    dsimp only
    rw [advance_eq, ← h]
    rfl

/-- The tests of PLAN MOVE in their order, for a plan that is not malformed (R41). -/
theorem applyPlanMove_eq {s : State} {tag : Nat} {g : Goal} {it : ItemRecord} (hform : goalOk g = true)
    (hit : s.item tag = some it) : applyPlanMove tag (some g) s =
      if it.kind = .constant then refuse .notLiftable s
      else if s.itemBusy tag it then refuse .itemBusy s
      else if it.state = .pending ∧ g = .ashore then refuse .badArgument s
      else if planInvalid s tag g then refuse .badPlacement s
      else acceptWarned (moveWarnings (s.setItem tag { it with plan := some g }) it.dport g)
        (s.setItem tag { it with plan := some g }) := by
  unfold applyPlanMove
  dsimp only
  rw [if_neg (by simp [hform]), hit]

/-- A PLAN MOVE to a placement lists its warnings as entry 1 (R41). -/
theorem moveWarnings_place (s : State) (dport : Int) (pl : Placement) : moveWarnings s dport (.place pl) =
    if planWarnings s dport pl = [] then [] else [(1, planWarnings s dport pl)] := by
  unfold moveWarnings
  dsimp only
  split
  · next h => rw [if_pos h]
  · next h => rw [if_neg h]

/-- The answer with the one entry of a PLAN MOVE. -/
theorem answer_moveWarnings (a : Answer) (ws : List Warning) (v : Version) :
    (if (if ws = [] then ([] : List (Nat × List Warning)) else [(1, ws)]) = [] then a
      else ⟨.warning, .warnings (if ws = [] then [] else [(1, ws)]) v⟩) =
    if ws = [] then a else ⟨.warning, .warnings [(1, ws)] v⟩ := by
  by_cases h : ws = [] <;> simp [h]

/-- Settles O22: the tests of PLAN MOVE in their order, its warnings, and the tests of a placement by its use. -/
theorem planMoveAppliesWithItsWarnings : Obligations.PlanMoveAppliesWithItsWarnings := by
  refine ⟨⟨fun tag item plan s hs => ?_, mem_planWarnings⟩, fun s u tag pl => ?_⟩
  · have hrefused {st : Status} (h : applyPlanMove item plan s = refuse st s) :=
      exec_change_refused (i := .planMove .portP tag item plan) (ch := .planMove item plan) rfl hs rfl rfl h
    simp only [← placementOk_iff]
    refine ⟨fun hbad => hrefused ?_, fun g hg hin hitem => hrefused ?_, fun g it hg hin hit => ?_⟩
    · rcases hbad with rfl | ⟨pl, rfl, hout⟩
      · rfl
      · exact if_pos ((goalOk_eq_false_iff _).2 ⟨pl, rfl, hout⟩)
    all_goals
      subst hg
      have hform : goalOk g = true := by
        rw [← Bool.not_eq_false, goalOk_eq_false_iff]
        rintro ⟨pl, rfl, hout⟩
        exact hin ⟨pl, rfl, hout⟩
    · unfold applyPlanMove
      dsimp only
      rw [if_neg (by simp [hform]), hitem]
    · rw [applyPlanMove_eq hform hit] at hrefused
      rw [← itemBusy_iff, ← planInvalid_iff]
      refine ⟨fun hkind => hrefused (if_pos hkind), fun hkind hbusy => hrefused ?_, fun hkind hfree hpend hash => hrefused ?_,
        fun hkind hfree hp hinv => hrefused ?_, fun hkind hfree hp hvalid => ?_⟩
      · rw [if_neg (by simp [hkind]), if_pos hbusy]
      · rw [if_neg (by simp [hkind]), if_neg hfree, if_pos ⟨hpend, hash⟩]
      · rw [if_neg (by simp [hkind]), if_neg hfree, if_neg hp, if_pos hinv]
      · have happly : applyPlanMove item (some g) s = _ :=
          (applyPlanMove_eq hform hit).trans ((if_neg (by simp [hkind])).trans ((if_neg hfree).trans ((if_neg hp).trans
            ((if_neg hvalid).trans (acceptWarned_withCond _ rfl)))))
        have hchanges := exec_change_changes (i := .planMove .portP tag item (some g)) (ch := .planMove item (some g))
          rfl hs rfl rfl happly
        refine ⟨fun hg => ?_, fun pl hg => ?_⟩
        · subst hg
          exact hchanges
        · subst hg
          refine hchanges.trans (congrArg _ ?_)
          rw [moveWarnings_place]
          exact answer_moveWarnings ..
  · rw [placementValid_iff, geometrySound_iff, openOk_iff, restsOnOk_iff]

end Sys2Proof.Machine
end

section
namespace Sys2Proof.Machine
open Sys2Proof

/-! ### ADD ITEMS (R38, R39) -/

/-- Which entries are malformed (R38, test 1). -/
theorem entryMalformed_iff (e : Entry) : entryMalformed e = true ↔
    e.tag = 0 ∨ e.kind = none ∨ e.state = none ∨ e.mass < 1 ∨ 60000 < e.mass ∨ e.dport < 0 ∨ 15 < e.dport ∨
      (e.kind = some .constant ∧ (e.state = some .pending ∨ e.plan ≠ none)) ∨
      (e.state = some .pending ∧ (e.place = .ashore ∨ e.plan ≠ none)) ∨ (e.state = some .aboard ∧ e.place = .ashore) := by
  have houtside (lo hi v : Int) : (!within lo hi v) = true ↔ v < lo ∨ hi < v := by
    rw [Bool.not_eq_true', ← Bool.not_eq_true, within_iff]
    omega
  unfold entryMalformed
  simp only [Bool.or_eq_true, Bool.and_eq_true, beq_iff_eq, houtside, Option.isNone_iff_eq_none, Option.isSome_iff_ne_none,
    or_assoc]

/-- The tests of an entry in the order of R38. -/
theorem entryFault_eq (s : State) (e : Entry) {placed planned : Bool}
    (hplaced : entryPlaceInvalid s e = !placed) (hplanned : entryPlanInvalid s e = !planned) :
    entryFault s e =
      if e.tag = 0 ∨ e.kind = none ∨ e.state = none ∨ e.mass < 1 ∨ 60000 < e.mass ∨ e.dport < 0 ∨ 15 < e.dport ∨
          (e.kind = some .constant ∧ (e.state = some .pending ∨ e.plan ≠ none)) ∨
          (e.state = some .pending ∧ (e.place = .ashore ∨ e.plan ≠ none)) ∨ (e.state = some .aboard ∧ e.place = .ashore)
      then some .badArgument
      else if s.item e.tag ≠ none then some .tagInUse
      else if placed = false then some .badPlacement
      else if planned = false then some .badPlacement
      else if 384 ≤ s.cond.items.length then some .tableFull
      else none := by
  unfold entryFault
  rw [hplaced, hplanned]
  exact if_congr (entryMalformed_iff e) rfl (if_congr Option.isSome_iff_ne_none rfl
    (if_congr (by simp) rfl (if_congr (by simp) rfl rfl)))

/-- Entries in two parts: the second is tested with the first applied. -/
theorem addEntries_append (before after : List Entry) (k : Nat) (s : State) :
    addEntries k s (before ++ after) = (addEntries k s before).bind (fun t => addEntries (k + before.length) t after) := by
  induction before generalizing k s with
  | nil => rfl
  | cons e es ih =>
    simp only [List.cons_append, addEntries]
    cases entryFault s e with
    | some st => rfl
    | none =>
      dsimp only
      rw [ih, List.length_cons, Nat.add_assoc, Nat.add_comm 1]

/-- The entries are applied exactly when each passes its tests with those before it applied, one after another (R38). -/
theorem addEntries_eq_ok (es : List Entry) (k : Nat) (s t : State) : addEntries k s es = .ok t ↔
    t = es.foldl applyEntry s ∧
    ∀ before e after, es = before ++ e :: after → entryFault (before.foldl applyEntry s) e = none := by
  induction es generalizing k s with
  | nil =>
    simp only [addEntries, List.foldl_nil, Except.ok.injEq]
    refine ⟨fun h => ⟨h.symm, fun before e after h => ?_⟩, fun h => h.1.symm⟩
    simp at h
  | cons x es ih =>
    simp only [addEntries, List.foldl_cons]
    cases hx : entryFault s x with
    | some st =>
      refine ⟨fun h => (nomatch h), fun h => ?_⟩
      have := h.2 [] x es rfl
      rw [List.foldl_nil, hx] at this
      cases this
    | none =>
      dsimp only
      rw [ih]
      refine and_congr_right fun _ => ⟨fun h before e after heq => ?_, fun h before e after heq => ?_⟩
      · cases before with
        | nil =>
          obtain ⟨rfl, -⟩ := List.cons.inj heq
          exact hx
        | cons y ys =>
          obtain ⟨rfl, htail⟩ := List.cons.inj heq
          exact h ys e after htail
      · exact h (x :: before) e after (by rw [heq]; rfl)

/-- Entries are applied to the condition alone. -/
theorem addEntries_withCond {es : List Entry} {k : Nat} {s t : State} (h : addEntries k s es = .ok t) :
    t = s.withCond t.cond := by
  induction es generalizing k s with
  | nil =>
    obtain rfl : s = t := Except.ok.inj h
    rfl
  | cons e es ih =>
    unfold addEntries at h
    split at h
    · cases h
    · have hentry : applyEntry s e = s.withCond (applyEntry s e).cond := by
        unfold applyEntry
        split <;> rfl
      have := ih h
      rw [hentry] at this
      exact this

/-- The entries with warnings, under their numbers (R39). -/
theorem entryWarnings_eq (s : State) (es : List Entry) (k : Nat) : entryWarnings s k es =
    (es.zipIdx k).filterMap (fun x => match entryPlan x.1 with
      | none => none
      | some pl => if planWarnings s x.1.dport pl = [] then none else some (x.2, planWarnings s x.1.dport pl)) := by
  induction es generalizing k with
  | nil => rfl
  | cons e es ih =>
    rw [entryWarnings, List.zipIdx_cons, List.filterMap_cons, ih]
    cases entryPlan e with
    | none => rfl
    | some pl =>
      dsimp only [Option.elim]
      split
      · next h => rw [if_pos h]
      · next h => rw [if_neg h]

/-- The planned placement of an entry: a PENDING entry's place and an ABOARD one's plan, where that is a placement. -/
theorem entryPlan_eq (e : Entry) : entryPlan e = ((if e.state = some .pending then some e.place else e.plan).bind
    (fun g => match g with | .place pl => some pl | .ashore => none)) := by
  unfold entryPlan
  simp only [beq_iff_eq]
  rcases (if e.state = some .pending then some e.place else e.plan) with _ | _ | _ <;> rfl

/-- ADD ITEMS whose entries all pass (R39). -/
theorem applyAddItems_ok {es : List Entry} {s t : State} (hne : es ≠ []) (hlen : es.length ≤ 4)
    (h : addEntries 1 s es = .ok t) : applyAddItems es s =
      ({ s with cond := { t.cond with version := s.cond.version + 1 }, eval := routineRaised s },
        if entryWarnings t 1 es = [] then ⟨.done, .version (s.cond.version + 1)⟩
        else ⟨.warning, .warnings (entryWarnings t 1 es) (s.cond.version + 1)⟩) := by
  have hcount : ¬ (es.length = 0 ∨ Config.maxEntries < es.length) := by
    rw [List.length_eq_zero_iff]
    exact not_or.2 ⟨hne, Nat.not_lt.2 hlen⟩
  unfold applyAddItems
  rw [if_neg hcount, h]
  dsimp only
  conv_lhs => rw [addEntries_withCond h]
  rw [acceptWarned_withCond _ (stows_addEntries h).version, ← addEntries_withCond h]

/-- ADD ITEMS at an entry that fails (R38). -/
theorem applyAddItems_fails {before after : List Entry} {e : Entry} {s t : State} {st : Status}
    (hlen : (before ++ e :: after).length ≤ 4) (h : addEntries 1 s before = .ok t) (hfault : entryFault t e = some st) :
    applyAddItems (before ++ e :: after) s = (s, ⟨st, .entryRefused (before.length + 1) s.cond.version⟩) := by
  have hcount : ¬ ((before ++ e :: after).length = 0 ∨ Config.maxEntries < (before ++ e :: after).length) :=
    not_or.2 ⟨by simp, Nat.not_lt.2 hlen⟩
  unfold applyAddItems
  rw [if_neg hcount, addEntries_append, h]
  simp only [Except.bind, addEntries, hfault]
  rw [Nat.add_comm]

/-- Settles O20: all or none, the tests of an entry in their order, what an entry writes, and the warnings. -/
theorem addItemsAppliesAllOrNone : Obligations.AddItemsAppliesAllOrNone := by
  refine ⟨⟨fun tag es s hs => ⟨fun hcount => ?_, fun before e after t st hlen hes h hfault => ?_, fun t hne hlen h => ?_⟩,
    fun e s => ?_, fun e k pl s hk hpl => ⟨fun hstate => ?_, fun hstate => ?_⟩⟩, fun es s t => addEntries_eq_ok es 1 s t,
    fun es s => ?_⟩
  · refine exec_change_unchanged (ch := .addItems es) rfl hs rfl rfl ?_
    exact if_pos (hcount.imp_left (fun h => by rw [h]; rfl))
  · subst hes
    exact exec_change_unchanged (ch := .addItems _) rfl hs rfl rfl (applyAddItems_fails hlen h hfault)
  · exact exec_change_changes (ch := .addItems es) rfl hs rfl rfl (applyAddItems_ok hne hlen h)
  · refine entryFault_eq s e ?_ ?_
    · unfold entryPlaceInvalid
      cases e.place with
      | place pl => simp only [beq_iff_eq]
      | ashore => rfl
    · unfold entryPlanInvalid
      rcases e.plan with _ | _ | _ <;> rfl
  · unfold applyEntry entryRecord
    rw [hk, hpl, hstate]
    rfl
  · unfold applyEntry entryRecord
    rw [hk, hpl, hstate]
    rfl
  · dsimp only
    rw [entryWarnings_eq]
    refine congrArg (fun f => List.filterMap f _) (funext fun x => ?_)
    rw [entryPlan_eq]
    rcases (if x.1.state = some .pending then some x.1.place else x.1.plan) with _ | _ | _ <;> rfl

end Sys2Proof.Machine
end

section
namespace Sys2Proof.Machine
open Sys2Proof

/-! ### The arrival of a report (R137, R140) -/

theorem record_setRecord_same (s : State) (c : Crane) (r : LiftRecord) : (s.setRecord c r).record c = r := by
  rw [record_setRecord, if_pos rfl]

theorem record_setRecord_other (s : State) (c : Crane) (r : LiftRecord) :
    (s.setRecord c r).record (otherCrane c) = s.record (otherCrane c) := by
  rw [record_setRecord, if_neg (otherCrane_ne c)]

/-- Some record is SILENT after one has been written when that one or the other is. -/
theorem anySilent_setRecord (s : State) (c : Crane) (r : LiftRecord) :
    (s.setRecord c r).anySilent = (r.silent || (s.record (otherCrane c)).silent) := by
  rw [anySilent_eq _ c, record_setRecord_same, record_setRecord_other]

/-- A HOOK ON stops the grant lapse timer of a single or lead record in GRANTED (R137). -/
theorem hookArrives_granted {s : State} {c : Crane} (hstate : (s.record c).state = .granted)
    (hrole : liftRole (s.record c) ≠ some .partner) :
    hookArrives c s = s.setRecord c { s.record c with timer := none } := if_pos ⟨hstate, hrole⟩

/-- A HOOK ON does nothing at its arrival to a partner or to a record that is not GRANTED. -/
theorem hookArrives_other {s : State} {c : Crane}
    (h : (s.record c).state ≠ .granted ∨ liftRole (s.record c) = some .partner) : hookArrives c s = s :=
  if_neg fun ⟨hstate, hrole⟩ => h.elim (absurd hstate) hrole

/-- A SLUNG record after a report: its report timer runs again and it is not SILENT (R140). -/
def heardRecord (s : State) (c : Crane) : LiftRecord := { s.record c with timer := some (freshTimer s .report), silent := false }

/-- The attention unit after a report from a SLUNG record: SILENT LIFT ends with the last mark (R140, R188). -/
def heardAttn (s : State) (c : Crane) : PerPort AttnPort :=
  if (s.record c).silent = true ∧ (s.record (otherCrane c)).silent = false then s.attn.map (AttnPort.remove .silentLift)
  else s.attn

/-- A report from a SLUNG record starts its report timer again and clears its SILENT mark (R140). -/
theorem reportArrives_slung {s : State} {c : Crane} (hstate : (s.record c).state = .slung) :
    reportArrives c s = { s with
      lifts := { s.lifts with records := s.lifts.records.set c (heardRecord s c) }
      attn := heardAttn s c } := by
  unfold reportArrives
  rw [if_pos hstate, endSilence_eq, anySilent_setRecord, anySilent_eq s c]
  unfold heardAttn
  cases (s.record c).silent <;> cases (s.record (otherCrane c)).silent <;> rfl

/-- A report from any other record does nothing at its arrival. -/
theorem reportArrives_other {s : State} {c : Crane} (h : (s.record c).state ≠ .slung) : reportArrives c s = s := if_neg h

/-- What the arrival of a change from a crane does. -/
theorem changeArrives_crane (c : Crane) (ch : Change) (s : State) : changeArrives (cranePort c) ch s = (match ch with
    | .hookOn _ => hookArrives c s
    | .hookAt _ => reportArrives c s
    | .landed _ => reportArrives c s
    | _ => s) := by
  unfold changeArrives
  rw [craneOf_cranePort]
  cases ch <;> rfl

theorem changeArrives_hookOn (c : Crane) (q : Point) (s : State) :
    changeArrives (cranePort c) (.hookOn q) s = hookArrives c s := changeArrives_crane c _ s

theorem changeArrives_hookAt (c : Crane) (q : Point) (s : State) :
    changeArrives (cranePort c) (.hookAt q) s = reportArrives c s := changeArrives_crane c _ s

theorem changeArrives_landed (c : Crane) (g : Option Goal) (s : State) :
    changeArrives (cranePort c) (.landed g) s = reportArrives c s := changeArrives_crane c _ s

/-- Every change that is no report does nothing at its arrival. -/
theorem changeArrives_planning {ch : Change} (hon : ∀ q, ch ≠ .hookOn q) (hat : ∀ q, ch ≠ .hookAt q)
    (hland : ∀ g, ch ≠ .landed g) (p : Port) (s : State) : changeArrives p ch s = s := by
  cases ch with
  | hookOn q => exact absurd rfl (hon q)
  | hookAt q => exact absurd rfl (hat q)
  | landed g => exact absurd rfl (hland g)
  | _ => rfl

/-- What the arrival of a hook report or a landing does to its record (the second part of HookReportsApply). -/
theorem reports_arrive (c : Crane) (ch : Change) (s : State) :
    let r := s.record c
    let again : RunningTimer := ⟨.report, s.ship.image.timerLengths.report.toNat⟩
    let others := (s.record (otherCrane c)).silent
    let reported := (∃ q, ch = .hookAt q) ∨ (∃ g, ch = .landed g)
    (∀ q, ch = .hookOn q → r.state = .granted → liftRole r ≠ some .partner →
      changeArrives (cranePort c) ch s = { s with
        lifts := { s.lifts with records := s.lifts.records.set c { r with timer := none } } }) ∧
    (∀ q, ch = .hookOn q → r.state ≠ .granted ∨ liftRole r = some .partner → changeArrives (cranePort c) ch s = s) ∧
    (reported → r.state = .slung →
      changeArrives (cranePort c) ch s = { s with
        lifts := { s.lifts with records := s.lifts.records.set c { r with timer := some again, silent := false } }
        attn := if r.silent = true ∧ others = false then s.attn.map (AttnPort.remove .silentLift) else s.attn }) ∧
    (reported → r.state ≠ .slung → changeArrives (cranePort c) ch s = s) ∧
    (¬ reported → (∀ q, ch ≠ .hookOn q) → changeArrives (cranePort c) ch s = s) := by
  have hreport (h : (∃ q, ch = .hookAt q) ∨ (∃ g, ch = .landed g)) :
      changeArrives (cranePort c) ch s = reportArrives c s := by
    rcases h with ⟨q, rfl⟩ | ⟨g, rfl⟩
    · exact changeArrives_hookAt c q s
    · exact changeArrives_landed c g s
  refine ⟨fun q hch hstate hrole => ?_, fun q hch hother => ?_, fun hrep hstate => ?_, fun hrep hstate => ?_, fun hnot hon => ?_⟩
  · rw [hch, changeArrives_hookOn, hookArrives_granted hstate hrole]
    rfl
  · rw [hch, changeArrives_hookOn, hookArrives_other hother]
  · rw [hreport hrep, reportArrives_slung hstate]
    rfl
  · rw [hreport hrep, reportArrives_other hstate]
  · obtain ⟨hat, hland⟩ := not_or.1 hnot
    exact changeArrives_planning hon (not_exists.1 hat) (not_exists.1 hland) _ s

/-! ### HOOK ON and HOOK AT (R137 to R139) -/

theorem applyChange_hookOn (c : Crane) (q : Point) (s : State) :
    applyChange (cranePort c) (.hookOn q) s = applyHookOn c q s := by
  unfold applyChange
  rw [craneOf_cranePort]

theorem applyChange_hookAt (c : Crane) (q : Point) (s : State) :
    applyChange (cranePort c) (.hookAt q) s = applyHookAt c q s := by
  unfold applyChange
  rw [craneOf_cranePort]

theorem applyChange_landed (c : Crane) (g : Goal) (s : State) :
    applyChange (cranePort c) (.landed (some g)) s = applyLanded c g s := by
  unfold applyChange
  rw [craneOf_cranePort]

theorem roleAllows_crane (c : Crane) {k : ReqKind} (h : roleAllows k .crane = true) :
    roleAllows k (portRole (cranePort c)) = true := by
  cases c <;> exact h

/-- A record SLUNG at a hook point, with its report timer (R138). -/
def slungRecord (s : State) (r : LiftRecord) (q : Point) : LiftRecord :=
  { r with state := .slung, lift := r.lift.map (fun l => { l with hook := some q }), timer := some (freshTimer s .report) }

/-- Putting an item on the hook writes the items and the compartments: the item is SLUNG and in no compartment (R138). -/
theorem slingItem_eq {s : State} {tag : Nat} {it : ItemRecord} (c : Crane) (hit : s.item tag = some it) :
    slingItem tag c s = s.withCond { s.cond with
      items := s.cond.items.put tag { it with state := .slung, actual := none, link := some c }
      comps := (leaveComp tag it s).cond.comps } := by
  unfold slingItem
  rw [hit]
  dsimp only
  rw [leaveComp_eq]
  rfl

/-- HOOK ON applied to a single or lead record in GRANTED (R138). -/
theorem applyHookOn_granted {s : State} {c : Crane} {q : Point} {l : Lift} {it : ItemRecord}
    (hstate : (s.record c).state = .granted) (hlift : (s.record c).lift = some l) (hrole : l.role ≠ .partner)
    (hit : s.item l.tag = some it) : applyHookOn c q s =
      accept .done { s with
        cond := (slingItem l.tag c s).cond
        lifts := { s.lifts with records :=
          (match s.ledTandem c, recordOutreach (s.record (otherCrane c)) with
            | true, some o => s.lifts.records.set (otherCrane c) (slungRecord s (s.record (otherCrane c)) o)
            | _, _ => s.lifts.records).set c (slungRecord s (s.record c) q) } } := by
  have hnotPartner : liftRole (s.record c) ≠ some .partner := by
    simpa [liftRole, hlift] using hrole
  unfold applyHookOn
  rw [if_neg hnotPartner, hstate, hlift]
  dsimp only
  rw [slingItem_eq c hit]
  cases s.ledTandem c with
  | false => rfl
  | true =>
    unfold slingPartner
    have hout : recordOutreach ((s.withCond { s.cond with
        items := s.cond.items.put l.tag { it with state := .slung, actual := none, link := some c }
        comps := (leaveComp l.tag it s).cond.comps }).record (otherCrane c)) = recordOutreach (s.record (otherCrane c)) := rfl
    rw [hout]
    cases recordOutreach (s.record (otherCrane c)) with
    | none => rfl
    | some o =>
      cases c <;> rfl

/-- When a record leads a tandem whose partner is beside it in the same state (R132). -/
theorem ledTandem_iff (s : State) (c : Crane) : s.ledTandem c = true ↔ liftRole (s.record c) = some .lead ∧
    liftRole (s.record (otherCrane c)) = some .partner ∧ (s.record (otherCrane c)).state = (s.record c).state := by
  simp only [State.ledTandem, Bool.and_eq_true, beq_iff_eq, and_assoc]

/-- The records after a HOOK ON, with a tandem partner SLUNG at its own outreach point (R138). -/
theorem slung_records {s : State} {c : Crane} {q : Point} {l : Lift} (hstate : (s.record c).state = .granted)
    (hlift : (s.record c).lift = some l) :
    (match s.ledTandem c, recordOutreach (s.record (otherCrane c)) with
      | true, some o => s.lifts.records.set (otherCrane c) (slungRecord s (s.record (otherCrane c)) o)
      | _, _ => s.lifts.records).set c (slungRecord s (s.record c) q) =
    (let x := s.record (otherCrane c)
     let own := slungRecord s (s.record c) q
     if l.role = .lead ∧ liftRole x = some .partner ∧ x.state = .granted then
       (s.lifts.records.set (otherCrane c) (match x.lift with
         | some k => { x with state := .slung, lift := some { k with hook := some k.outreach }, timer := some (freshTimer s .report) }
         | none => x)).set c own
     else s.lifts.records.set c own) := by
  have hiff : s.ledTandem c = true ↔ l.role = .lead ∧ liftRole (s.record (otherCrane c)) = some .partner ∧
      (s.record (otherCrane c)).state = .granted := by
    rw [ledTandem_iff, hstate]
    simp [liftRole, hlift]
  by_cases htandem : s.ledTandem c = true
  · dsimp only
    rw [if_pos (hiff.1 htandem), htandem]
    obtain ⟨-, hrole, -⟩ := hiff.1 htandem
    unfold liftRole at hrole
    obtain ⟨k, hk, -⟩ := Option.map_eq_some_iff.1 hrole
    unfold recordOutreach slungRecord
    rw [hk]
    rfl
  · dsimp only
    rw [if_neg (fun h => htandem (hiff.2 h)), Bool.eq_false_iff.2 htandem]

/-- HOOK ON at once on a single or lead record in GRANTED (R137, R138). -/
theorem exec_hookOn_granted {c : Crane} {tag : Byte} {q : Point} {s : State} {l : Lift} {it : ItemRecord}
    (hs : Applying s (cranePort c)) (hq : pointOk q = true) (hstate : (s.record c).state = .granted)
    (hlift : (s.record c).lift = some l) (hrole : l.role ≠ .partner) (hit : s.item l.tag = some it) :
    exec (.hookOn (cranePort c) tag q) s = .next (arbitrate s.eval { s with
      cond := { (slingItem l.tag c s).cond with version := s.cond.version + 1 }
      eval := routineRaised s
      lifts := { s.lifts with records :=
        (match s.ledTandem c, recordOutreach (s.record (otherCrane c)) with
          | true, some o => s.lifts.records.set (otherCrane c) (slungRecord s (s.record (otherCrane c)) o)
          | _, _ => s.lifts.records).set c (slungRecord s (s.record c) q) }
      ports := answeredPorts s (cranePort c) .hookOn tag ⟨.done, .version (s.cond.version + 1)⟩ }) := by
  have hnotPartner : liftRole (s.record c) ≠ some .partner := by
    simpa [liftRole, hlift] using hrole
  have hversion : (slingItem l.tag c s).cond.version = s.cond.version := (stows_slingItem ..).version
  rw [exec_change_applied (ch := .hookOn q) rfl hs (roleAllows_crane c rfl) (by simp [changeMalformed, hq]),
    changeArrives_hookOn, hookArrives_granted hstate hnotPartner, applyChange_hookOn,
    applyHookOn_granted (s := s.setRecord c { s.record c with timer := none }) (l := l) (it := it) (by rw [record_setRecord_same]; exact hstate)
      (by rw [record_setRecord_same]; exact hlift) hrole hit, accept_eq, record_setRecord_same, record_setRecord_other]
  have hled : (s.setRecord c { s.record c with timer := none }).ledTandem c = s.ledTandem c := by
    unfold State.ledTandem
    rw [record_setRecord_same, record_setRecord_other]
    rfl
  have hitem : (slingItem l.tag c (s.setRecord c { s.record c with timer := none })).cond = (slingItem l.tag c s).cond := by
    rw [slingItem_eq c hit, slingItem_eq (s := s.setRecord c { s.record c with timer := none }) c hit, leaveComp_eq,
      leaveComp_eq]
    rfl
  rw [hled, hitem]
  dsimp only
  rw [hversion]
  cases s.ledTandem c with
  | false => cases c <;> rfl
  | true =>
    cases recordOutreach (s.record (otherCrane c)) with
    | none => cases c <;> rfl
    | some o => cases c <;> rfl

/-- HOOK AT at once on a SLUNG record: a report has arrived, and the hook point moves (R139, R140). -/
theorem exec_hookAt_slung {c : Crane} {tag : Byte} {q : Point} {s : State} {l : Lift} (hs : Applying s (cranePort c))
    (hq : pointOk q = true) (hstate : (s.record c).state = .slung) (hlift : (s.record c).lift = some l) :
    exec (.hookAt (cranePort c) tag q) s = .next (arbitrate s.eval { s with
      cond := { s.cond with version := s.cond.version + 1 }
      eval := routineRaised s
      lifts := { s.lifts with
        records := s.lifts.records.set c { heardRecord s c with lift := some { l with hook := some q } } }
      attn := heardAttn s c
      ports := answeredPorts s (cranePort c) .hookAt tag ⟨.done, .version (s.cond.version + 1)⟩ }) := by
  rw [exec_change_applied (ch := .hookAt q) rfl hs (roleAllows_crane c rfl) (by simp [changeMalformed, hq]),
    changeArrives_hookAt, reportArrives_slung hstate, applyChange_hookAt]
  have hrecord : State.record { s with
      lifts := { s.lifts with records := s.lifts.records.set c (heardRecord s c) }
      attn := heardAttn s c } c = heardRecord s c := PerCrane.get_set_same ..
  unfold applyHookAt
  rw [if_pos (by rw [hrecord]; exact hstate), hrecord, show (heardRecord s c).lift = some l from hlift, accept_eq]
  cases c <;> rfl

/-- Settles O46: the tests of the two hook reports, their effects, their arrivals and their form. -/
theorem hookReportsApply : Obligations.HookReportsApply := by
  refine ⟨fun c tag q s hs hq => ?_, reports_arrive, fun c tag q s hs => ⟨pointOk_iff q, fun hout => ?_⟩⟩
  · have honRefused {st : Status} (harrive : hookArrives c s = s) (h : applyHookOn c q s = refuse st s) :=
      exec_change_refused (i := .hookOn (cranePort c) tag q) (ch := .hookOn q) (st := st) rfl hs (roleAllows_crane c rfl)
        (by simp [changeMalformed, hq]) (by rw [changeArrives_hookOn, harrive, applyChange_hookOn, h])
    refine ⟨fun hpartner => honRefused (hookArrives_other (.inr hpartner)) (if_pos hpartner),
      fun hrole hstate => honRefused (hookArrives_other (.inl hstate)) ?_, fun l it hstate hlift hrole hit => ?_,
      fun hstate => ?_, fun l hstate hlift => ?_⟩
    · unfold applyHookOn
      rw [if_neg hrole]
      split
      · next h _ => exact absurd h hstate
      · rfl
    · rw [exec_hookOn_granted hs hq hstate hlift hrole hit, slung_records hstate hlift, slingItem_eq c hit, leaveComp_eq]
      unfold slungRecord
      rw [hlift]
      rfl
    · exact exec_change_refused (ch := .hookAt q) rfl hs (roleAllows_crane c rfl) (by simp [changeMalformed, hq])
        (by rw [changeArrives_hookAt, reportArrives_other hstate, applyChange_hookAt, applyHookAt, if_neg hstate])
    · exact exec_hookAt_slung hs hq hstate hlift
  · rw [← pointOk_iff, Bool.not_eq_true] at hout
    exact ⟨exec_change_malformed (ch := .hookOn q) rfl hs (roleAllows_crane c rfl) (by simp [changeMalformed, hout]),
      exec_change_malformed (ch := .hookAt q) rfl hs (roleAllows_crane c rfl) (by simp [changeMalformed, hout])⟩

end Sys2Proof.Machine
end

section
namespace Sys2Proof.Machine
open Sys2Proof

/-! ### The end of a lift (R124, R132, R188) -/

/-- A record at its entry to DONE: no timer, not SILENT, and its outcome (R124). -/
def finishedRecord (code : OutcomeCode) (r : LiftRecord) : LiftRecord :=
  { r with state := .done, timer := none, silent := false, outcome := some code }

/-- A lift of one record ends: the record is DONE, its outcome record kept and OUTCOME READY raised, and SILENT LIFT goes
when its mark was the last. -/
theorem finishLift_single {s : State} {c : Crane} {l : Lift} (code : OutcomeCode) (final : Option Goal) (mass : Int)
    (h : (s.record c).lift = some l) : finishLift code final mass [c] s = { s with
      lifts := { s.lifts with
        records := s.lifts.records.set c (finishedRecord code (s.record c))
        ended := s.lifts.ended.set c (some ⟨mass, final.getD l.origin⟩) }
      attn := (
        let raised := s.attn.modify (cranePort c) (AttnPort.raise .outcomeReady)
        if (s.record c).silent = true ∧ (s.record (otherCrane c)).silent = false then
          raised.map (AttnPort.remove .silentLift) else raised) } := by
  have hafter : (finishOne code final mass c s).anySilent = (s.record (otherCrane c)).silent := by
    rw [finishOne_eq code final mass h, anySilent_eq _ c]
    cases c <;> rfl
  unfold finishLift
  rw [List.foldl_cons, List.foldl_nil, endSilence_eq, hafter, anySilent_eq s c, finishOne_eq code final mass h]
  unfold finishedRecord
  cases (s.record c).silent <;> cases (s.record (otherCrane c)).silent <;> rfl

/-- A tandem lift ends: both records are DONE together, and SILENT LIFT goes when either was SILENT (R132). -/
theorem finishLift_pair {s : State} {c : Crane} {l k : Lift} (code : OutcomeCode) (final : Option Goal) (mass : Int)
    (h : (s.record c).lift = some l) (hk : (s.record (otherCrane c)).lift = some k) :
    finishLift code final mass [c, otherCrane c] s = { s with
      lifts := { s.lifts with
        records := (s.lifts.records.set c (finishedRecord code (s.record c))).set (otherCrane c)
          (finishedRecord code (s.record (otherCrane c)))
        ended := (s.lifts.ended.set c (some ⟨mass, final.getD l.origin⟩)).set (otherCrane c)
          (some ⟨mass, final.getD k.origin⟩) }
      attn := (
        let raised := (s.attn.modify (cranePort c) (AttnPort.raise .outcomeReady)).modify (cranePort (otherCrane c))
          (AttnPort.raise .outcomeReady)
        if s.anySilent = true then raised.map (AttnPort.remove .silentLift) else raised) } := by
  have hother : ((finishOne code final mass c s).record (otherCrane c)) = s.record (otherCrane c) := by
    rw [finishOne_eq code final mass h]
    cases c <;> rfl
  have hboth : finishOne code final mass (otherCrane c) (finishOne code final mass c s) = { s with
      lifts := { s.lifts with
        records := (s.lifts.records.set c (finishedRecord code (s.record c))).set (otherCrane c)
          (finishedRecord code (s.record (otherCrane c)))
        ended := (s.lifts.ended.set c (some ⟨mass, final.getD l.origin⟩)).set (otherCrane c)
          (some ⟨mass, final.getD k.origin⟩) }
      attn := (s.attn.modify (cranePort c) (AttnPort.raise .outcomeReady)).modify (cranePort (otherCrane c))
          (AttnPort.raise .outcomeReady) } := by
    rw [finishOne_eq code final mass (hother ▸ hk), hother, finishOne_eq code final mass h]
    rfl
  unfold finishLift
  rw [List.foldl_cons, List.foldl_cons, List.foldl_nil, endSilence_eq, hboth]
  have hafter : State.anySilent { s with
      lifts := { s.lifts with
        records := (s.lifts.records.set c (finishedRecord code (s.record c))).set (otherCrane c)
          (finishedRecord code (s.record (otherCrane c)))
        ended := (s.lifts.ended.set c (some ⟨mass, final.getD l.origin⟩)).set (otherCrane c)
          (some ⟨mass, final.getD k.origin⟩) }
      attn := (s.attn.modify (cranePort c) (AttnPort.raise .outcomeReady)).modify (cranePort (otherCrane c))
          (AttnPort.raise .outcomeReady) } = false := by
    cases c <;> rfl
  rw [hafter]
  cases s.anySilent <;> rfl

/-! ### LANDED (R141 to R144) -/

/-- Setting an item on the hook down ASHORE deletes it (R144, R45). -/
theorem setDown_ashore {s : State} {tag : Nat} {it : ItemRecord} (hit : s.item tag = some it) (hstate : it.state = .slung) :
    setDown tag .ashore s = s.withCond { s.cond with
      items := (s.cond.items.drop tag).mapVals (fun _ x => dropPlanRest tag x) } := by
  show deleteItem tag s = _
  rw [deleteItem_eq hit, leaveComp_eq, hstate]
  rfl

/-- Setting an item down at a placement: it is ABOARD there, and in the stow list and load of the compartment (R144). -/
theorem setDown_place {s : State} {tag : Nat} {it : ItemRecord} (hit : s.item tag = some it) (pl : Placement) :
    setDown tag (.place pl) s = s.withCond { s.cond with
      items := s.cond.items.put tag { it with
        state := .aboard, actual := some pl, link := none, plan := if it.plan = some (.place pl) then none else it.plan }
      comps := s.cond.comps.store .empty pl.comp
        ⟨(s.comp pl.comp).flag, (s.comp pl.comp).load + it.mass, (s.comp pl.comp).stow ++ [tag]⟩ } := by
  unfold setDown
  dsimp only
  rw [hit]
  rfl

/-- Setting an item down reads and writes the condition alone. -/
theorem setDown_withLifts (tag : Nat) (g : Goal) (s : State) (x : LiftUnit) (y : PerPort AttnPort) :
    setDown tag g { s with lifts := x, attn := y } = { setDown tag g s with lifts := x, attn := y } := by
  cases g with
  | ashore =>
    show deleteItem tag _ = ({ deleteItem tag s with lifts := x, attn := y } : State)
    cases hit : s.item tag with
    | none =>
      unfold deleteItem
      rw [hit, show State.item { s with lifts := x, attn := y } tag = none from hit]
    | some it =>
      rw [deleteItem_eq hit, deleteItem_eq (s := { s with lifts := x, attn := y }) hit, leaveComp_eq, leaveComp_eq]
      rfl
  | place pl =>
    cases hit : s.item tag with
    | none =>
      unfold setDown
      dsimp only
      rw [hit, show State.item { s with lifts := x, attn := y } tag = none from hit]
    | some it =>
      rw [setDown_place hit, setDown_place (s := { s with lifts := x, attn := y }) hit]
      rfl

/-- The outcome of a landing rests on the image, the condition and the names of the records alone (R142, R143). -/
theorem landingOutcome_congr {s t : State} (hship : t.ship = s.ship) (hcond : t.cond = s.cond)
    (hnamed : ∀ tag, t.named tag = s.named tag) (l : Lift) (g : Goal) : landingOutcome t l g = landingOutcome s l g := by
  have hrests (u : PlacementUse) (tag : Nat) (pl : Placement) : restsOnOk t u tag pl = restsOnOk s u tag pl := by
    unfold restsOnOk State.item
    rw [hcond]
    simp only [hnamed]
  have hvalid (u : PlacementUse) (tag : Nat) (pl : Placement) : placementValid t u tag pl = placementValid s u tag pl := by
    unfold placementValid openOk State.comp
    rw [hship, hcond, hrests]
  cases g with
  | ashore => rfl
  | place pl =>
    unfold landingOutcome clampInto
    simp only [hvalid, hrests, hship]

/-- A report heard leaves the names of the records. -/
theorem named_heard (s : State) (c : Crane) (x : PerPort AttnPort) (tag : Nat) :
    State.named { s with
      lifts := { s.lifts with records := s.lifts.records.set c (heardRecord s c) }
      attn := x } tag = s.named tag := by
  cases c <;> rfl

/-- The attention unit after a LANDED, from whether the record led a tandem and which of the two records was SILENT. -/
def landedAttn (a : PerPort AttnPort) (own beside : Port) (led ownSilent besideSilent : Bool) : PerPort AttnPort :=
  let heard := if ownSilent = true ∧ besideSilent = false then a.map (AttnPort.remove .silentLift) else a
  let raised := heard.modify own (AttnPort.raise .outcomeReady)
  if led = true then
    let both := raised.modify beside (AttnPort.raise .outcomeReady)
    if besideSilent = true then both.map (AttnPort.remove .silentLift) else both
  else raised

theorem PerPort.get_modify {α : Type} (m : PerPort α) (p r : Port) (f : α → α) :
    (m.modify p f).get r = if r = p then f (m.get r) else m.get r := by
  by_cases h : r = p
  · subst h
    simp
  · rw [if_neg h, PerPort.get_modify_other _ _ _ _ h]

/-- Which causes are pending after a LANDED: OUTCOME READY on the ports of the records that are DONE, and what was pending,
without SILENT LIFT when the last mark has gone. -/
theorem mem_landedAttn (a : PerPort AttnPort) (own beside : Port) (led ownSilent besideSilent : Bool) (e : Port) (y : Cause) :
    y ∈ ((landedAttn a own beside led ownSilent besideSilent).get e).pending ↔
      (y = .outcomeReady ∧ (e = own ∨ (e = beside ∧ led = true))) ∨
      (y ∈ (a.get e).pending ∧ (y = .silentLift → (ownSilent || besideSilent) = true → (!led && besideSilent) = true)) := by
  have hraise (m : PerPort AttnPort) (p : Port) : y ∈ ((m.modify p (AttnPort.raise .outcomeReady)).get e).pending ↔
      (y = .outcomeReady ∧ e = p) ∨ y ∈ (m.get e).pending := by
    rw [PerPort.get_modify]
    split <;> simp_all
  have hdistinct : y = .outcomeReady → y ≠ .silentLift := by rintro rfl; decide
  unfold landedAttn
  cases led <;> cases ownSilent <;> cases besideSilent <;> simp [hraise] <;> tauto

/-- When a SLUNG record leads a tandem. -/
theorem ledTandem_slung_iff {s : State} {c : Crane} {l : Lift} (hstate : (s.record c).state = .slung)
    (hlift : (s.record c).lift = some l) : s.ledTandem c = true ↔
      l.role = .lead ∧ liftRole (s.record (otherCrane c)) = some .partner ∧ (s.record (otherCrane c)).state = .slung := by
  rw [ledTandem_iff, hstate]
  simp [liftRole, hlift]

/-- The lift unit after a LANDED: the record and a tandem partner are DONE with the same outcome, and their outcome records
are kept (R132, R144). -/
def landedLifts (s : State) (c : Crane) (code : OutcomeCode) (e : Ended) : LiftUnit :=
  if s.ledTandem c = true then { s.lifts with
    records := (s.lifts.records.set c (finishedRecord code (s.record c))).set (otherCrane c)
      (finishedRecord code (s.record (otherCrane c)))
    ended := (s.lifts.ended.set c (some e)).set (otherCrane c) (some e) }
  else { s.lifts with
    records := s.lifts.records.set c (finishedRecord code (s.record c))
    ended := s.lifts.ended.set c (some e) }

/-- The crew of a landing enters DONE from the state in which its report has been heard. -/
theorem finishLift_crew {s : State} {c : Crane} {l : Lift} (hstate : (s.record c).state = .slung)
    (hlift : (s.record c).lift = some l) (cond : Condition) (code : OutcomeCode) (final : Goal) (mass : Int) :
    finishLift code (some final) mass (s.crew c) { s with
      cond := cond
      lifts := { s.lifts with records := s.lifts.records.set c (heardRecord s c) }
      attn := heardAttn s c } = { s with
        cond := cond
        lifts := landedLifts s c code ⟨mass, final⟩
        attn := landedAttn s.attn (cranePort c) (cranePort (otherCrane c)) (s.ledTandem c) (s.record c).silent
          (s.record (otherCrane c)).silent } := by
  have hown : (State.record { s with
      cond := cond
      lifts := { s.lifts with records := s.lifts.records.set c (heardRecord s c) }
      attn := heardAttn s c } c) = heardRecord s c := PerCrane.get_set_same ..
  have hbeside : (State.record { s with
      cond := cond
      lifts := { s.lifts with records := s.lifts.records.set c (heardRecord s c) }
      attn := heardAttn s c } (otherCrane c)) = s.record (otherCrane c) := PerCrane.get_set_other _ _ _ _ (otherCrane_ne c)
  have hownLift : (heardRecord s c).lift = some l := hlift
  unfold landedLifts landedAttn
  by_cases hled : s.ledTandem c = true
  · obtain ⟨-, hrole, -⟩ := (ledTandem_slung_iff hstate hlift).1 hled
    obtain ⟨k, hk, -⟩ := Option.map_eq_some_iff.1 hrole
    rw [crew_eq, if_pos hled, if_pos hled, if_pos hled,
      finishLift_pair code (some final) mass (by rw [hown]; exact hownLift) (by rw [hbeside]; exact hk), hown, hbeside,
      anySilent_eq _ c, hown, hbeside]
    unfold heardAttn
    cases c <;> cases (s.record _).silent <;> rfl
  · rw [crew_eq, if_neg hled, if_neg hled, if_neg hled,
      finishLift_single code (some final) mass (by rw [hown]; exact hownLift), hown, hbeside]
    unfold heardAttn
    cases c <;> rfl

/-- LANDED at once on the SLUNG record of a single or lead lift (R141 to R144). -/
theorem exec_landed_slung {c : Crane} {tag : Byte} {g : Goal} {s : State} {l : Lift} {it : ItemRecord}
    (hs : Applying s (cranePort c)) (hg : goalOk g = true) (hstate : (s.record c).state = .slung)
    (hlift : (s.record c).lift = some l) (hrole : l.role ≠ .partner) (hit : s.item l.tag = some it) :
    exec (.landed (cranePort c) tag (some g)) s = .next (arbitrate s.eval { s with
      cond := { (setDown l.tag (landingOutcome s l g).2 s).cond with version := s.cond.version + 1 }
      eval := routineRaised s
      lifts := landedLifts s c (landingOutcome s l g).1 ⟨it.mass, (landingOutcome s l g).2⟩
      attn := landedAttn s.attn (cranePort c) (cranePort (otherCrane c)) (s.ledTandem c) (s.record c).silent
          (s.record (otherCrane c)).silent
      ports := answeredPorts s (cranePort c) .landed tag ⟨.done, .landed (landingOutcome s l g).1 (landingOutcome s l g).2
        (s.cond.version + 1)⟩ }) := by
  rw [exec_change_applied (ch := .landed (some g)) rfl hs (roleAllows_crane c rfl) (by simp [changeMalformed, hg]),
    changeArrives_landed, applyChange_landed, reportArrives_slung hstate]
  have houtcome := landingOutcome_congr (s := s) (t := { s with
      lifts := { s.lifts with records := s.lifts.records.set c (heardRecord s c) }
      attn := heardAttn s c }) rfl rfl (named_heard s c _) l g
  have hown : (State.record { s with
      lifts := { s.lifts with records := s.lifts.records.set c (heardRecord s c) }
      attn := heardAttn s c } c) = heardRecord s c := PerCrane.get_set_same ..
  have hcrew : (State.crew { s with
      lifts := { s.lifts with records := s.lifts.records.set c (heardRecord s c) }
      attn := heardAttn s c } c) = s.crew c := by
    cases c <;> rfl
  have hmass : (State.massOf { s with
      lifts := { s.lifts with records := s.lifts.records.set c (heardRecord s c) }
      attn := heardAttn s c } l.tag) = it.mass := (congrArg (fun o => o.elim 0 (fun it => it.mass)) hit :)
  have hdown := stows_setDown l.tag (landingOutcome s l g).2 s
  have hcond : setDown l.tag (landingOutcome s l g).2 s = { s with cond := (setDown l.tag (landingOutcome s l g).2 s).cond } := by
    cases (landingOutcome s l g).2 with
    | ashore =>
      show deleteItem l.tag s = { s with cond := (deleteItem l.tag s).cond }
      rw [deleteItem_eq hit]
      rfl
    | place pl =>
      rw [setDown_place hit]
      rfl
  unfold applyLanded
  rw [hown, if_neg (show ¬ liftRole (heardRecord s c) = some .partner by simpa [liftRole, heardRecord, hlift] using hrole),
    show (heardRecord s c).state = .slung from hstate, show (heardRecord s c).lift = some l from hlift]
  dsimp only
  rw [houtcome, hcrew, hmass, setDown_withLifts, hcond, finishLift_crew hstate hlift, advance_eq]
  dsimp only
  rw [hdown.version]
  rfl

/-- The records and the outcome records after a LANDED. -/
theorem landedLifts_finished {s : State} {c d : Crane} (code : OutcomeCode) (e : Ended)
    (hd : d = c ∨ (d = otherCrane c ∧ s.ledTandem c = true)) :
    (landedLifts s c code e).records.get d = finishedRecord code (s.record d) ∧
    (landedLifts s c code e).ended.get d = some e := by
  unfold landedLifts
  rcases hd with rfl | ⟨rfl, hled⟩
  · cases s.ledTandem d <;> cases d <;> exact ⟨rfl, rfl⟩
  · rw [if_pos hled]
    exact ⟨PerCrane.get_set_same .., PerCrane.get_set_same ..⟩

/-- A LANDED that leads no tandem leaves the other record. -/
theorem landedLifts_other {s : State} {c : Crane} (code : OutcomeCode) (e : Ended) (h : ¬ s.ledTandem c = true) :
    (landedLifts s c code e).records.get (otherCrane c) = s.record (otherCrane c) ∧
    (landedLifts s c code e).ended.get (otherCrane c) = s.lifts.ended.get (otherCrane c) := by
  unfold landedLifts
  rw [if_neg h]
  exact ⟨PerCrane.get_set_other _ _ _ _ (otherCrane_ne c), PerCrane.get_set_other _ _ _ _ (otherCrane_ne c)⟩

theorem landedLifts_waiting (s : State) (c : Crane) (code : OutcomeCode) (e : Ended) :
    (landedLifts s c code e).waiting = s.lifts.waiting := by
  unfold landedLifts
  split <;> rfl

/-- After a LANDED only another SLUNG lift may still be SILENT. -/
theorem landedLifts_silent (s : State) (c : Crane) (code : OutcomeCode) (e : Ended) :
    ((landedLifts s c code e).records.c1.silent || (landedLifts s c code e).records.c2.silent) =
      (!s.ledTandem c && (s.record (otherCrane c)).silent) := by
  unfold landedLifts
  cases s.ledTandem c <;> cases c <;> simp [PerCrane.set, finishedRecord, otherCrane, State.record, PerCrane.get]

/-- When the form of a landing is in order (R141). -/
theorem goalOk_iff (g : Goal) : goalOk g = true ↔ g = .ashore ∨ ∃ pl, g = .place pl ∧ placementOk pl = true := by
  cases g <;> simp [goalOk]

/-- Settles O47: the two refusals, the item set down with the records, the outcome records and the causes, and the form. -/
theorem landedSetsDown : Obligations.LandedSetsDown := by
  refine ⟨fun c tag g s hs hg => ⟨fun hrole => ?_, fun hrole hstate => ?_, fun l it hstate hlift hrole hit hslung => ?_⟩,
    fun c tag g s hs => ?_⟩
  · have hwork := stows_changeArrives (cranePort c) (.landed (some g)) s
    have hpartner : liftRole ((changeArrives (cranePort c) (.landed (some g)) s).record c) = some .partner := by
      rw [changeArrives_landed]
      by_cases hstate : (s.record c).state = .slung
      · rw [reportArrives_slung hstate]
        exact (congrArg liftRole (PerCrane.get_set_same ..)).trans hrole
      · rwa [reportArrives_other hstate]
    rw [exec_change_applied (ch := .landed (some g)) rfl hs (roleAllows_crane c rfl) (by simp [changeMalformed, hg]),
      applyChange_landed, applyLanded, if_pos hpartner, arbitrate_same]
    · unfold refusesOnly answersOnly answeredPorts nextCaller
      rw [hwork.ports]
      rfl
    all_goals exact congrArg _ hwork.eval
  · refine exec_change_refused (ch := .landed (some g)) rfl hs (roleAllows_crane c rfl) (by simp [changeMalformed, hg]) ?_
    rw [changeArrives_landed, reportArrives_other hstate, applyChange_landed, applyLanded, if_neg hrole]
    split
    · next h _ => exact absurd h hstate
    · rfl
  · dsimp only
    simp only [← ledTandem_slung_iff hstate hlift]
    refine ⟨_, exec_landed_slung hs hg hstate hlift hrole hit, rfl, fun ho => ?_, fun pl ho => ?_, landedLifts_waiting ..,
      fun d k hd _ => landedLifts_finished _ _ hd, landedLifts_other _ _, rfl, fun e y => ?_⟩
    · rw [ho, setDown_ashore hit hslung]
      rfl
    · rw [ho, setDown_place hit pl]
      rfl
    · refine (mem_landedAttn ..).trans ?_
      rw [← landedLifts_silent s c (landingOutcome s l g).1 ⟨it.mass, (landingOutcome s l g).2⟩, ← anySilent_eq s c]
      rfl
  · simp only [← placementOk_iff]
    refine ⟨fun x hx => ?_, fun hout => exec_change_malformed (ch := .landed g) rfl hs (roleAllows_crane c rfl) ?_⟩
    · subst hx
      simp [goalOk_iff]
    · rw [changeMalformed_iff]
      rcases g with _ | g
      · exact .inr (.inr (.inl rfl))
      · cases g with
        | ashore => exact absurd (.inl rfl) hout
        | place pl => exact .inr (.inr (.inr ⟨pl, rfl, fun h => hout (.inr ⟨pl, rfl, h⟩)⟩))

end Sys2Proof.Machine
end

section
namespace Sys2Proof.Machine
open Sys2Proof

/-! ### What a step can do

Every step is a chain of the moves below, so that a property which each of them keeps is kept by every step. -/

/-- The moves that a step is made of, each with what is known where it happens: work on the ports, the queue and the line
errors; a request that the mode accepts, with the arbiter's part; and the events. -/
inductive Move (s : State) : State → Prop
  | ports (x : PerPort PortState) : Move s (s.withPorts x)
  | lineError (p : Port) : Move s (raiseAt p .lineError s)
  | queue (x : List Instr) : Move s (s.withPending x)
  | request (r : Request) (q : Caller) (h : modeAnswer s.ship.mode r.kind = none) : Move s (arbitrate s.eval (serve r q s))
  | second : Move s (tick s)
  | cold (straps : Straps) : Move s (coldRestart straps s)
  | warm (cause : RestartCause) (straps : Straps) : Move s (warmRestart cause straps s)
  | verified : Move s (arbitrate s.eval (verifyEnds s))
  | committed : Move s (arbitrate s.eval (commitEnds s))
  | job : Move s (startJob s)
  | captured : Move s (capturesComplete s)
  | routine {v : Version} {cap : Capture} {slung : Bool} {d : DraftCapture} (f : FigureSet) (dis : Option Int)
      (h : s.eval.engine = some ⟨.computing, v, .routine cap slung d⟩) :
      Move s (arbitrate s.eval (completeRoutine v slung f dis s))
  | checked {v : Version} {lead : Crane} {path final : Capture} (p f : FigureSet)
      (h : s.eval.engine = some ⟨.computing, v, .lift lead path final⟩) : Move s (arbitrate s.eval (completeLift lead v p f s))
  | prospect {v : Version} {sc : Scope} {cap : Capture} {n a k : Nat} {lost : Bool} {q : Caller} (r : ProspectResult)
      (h : s.eval.engine = some ⟨.computing, v, .prospect sc cap n a k lost q⟩) :
      Move s (arbitrate s.eval (completeProspect q r s))
  | interval (h : s.eval.intervalTimer.isSome = true) : Move s (arbitrate s.eval (startInterval (raiseRoutine s)))
  | joinWindow (c : Crane) : Move s (joinWindowExpires c s)
  | grantLapse (c : Crane) : Move s (grantLapses c s)
  | reportLapse (c : Crane) : Move s (reportLapses c s)
  | stale : Move s (readingStales s)
  | pulse (p : Port) : Move s (pulseEnds p s)

/-- A chain of moves. -/
abbrev Moves : State → State → Prop := Relation.ReflTransGen Move

theorem Moves.keep {P : State → Prop} (hmove : ∀ {s t : State}, P s → Move s t → P t) {s t : State} (h : Moves s t)
    (hs : P s) : P t := by
  induction h with
  | refl => exact hs
  | tail _ hlast ih => exact hmove ih hlast

theorem moves_ports (s : State) (x : PerPort PortState) : Moves s (s.withPorts x) := .single (.ports x)

theorem moves_countError (p : Port) (e : LineErr) (s : State) : Moves s (countError p e s) := by
  unfold countError
  split
  · exact (moves_ports s _).tail (.lineError p)
  · exact .refl

theorem moves_refuseBusy (p : Port) (kind tag : Byte) (s : State) : Moves s (refuseBusy p kind tag s) := by
  unfold refuseBusy
  split
  · exact moves_countError ..
  · exact moves_ports ..

/-- A request that the mode accepts is moved by its owning block, and every other by an answer (R182). -/
theorem moves_receive {p : Port} {kind tag : Byte} {k : Option ReqKind} {body : Caller → State → State} (s : State)
    (hbody : ∀ k' q t, k = some k' → modeAnswer t.ship.mode k' = none → Moves t (arbitrate t.eval (body q t))) :
    Moves s (receive p kind tag k body s) := by
  unfold receive
  split
  · exact .refl
  · split
    · exact moves_refuseBusy ..
    · have hopen : Moves s (openRequest (nextCaller s p kind tag) s) := moves_ports ..
      cases k with
      | none => exact (hopen.trans (moves_countError ..)).trans (moves_ports ..)
      | some k =>
        refine hopen.trans ?_
        show Moves _ (receiveKnown k body _ _)
        unfold receiveKnown
        split
        · exact moves_ports ..
        · split
          · exact (moves_countError ..).trans (moves_ports ..)
          · split
            · exact moves_ports ..
            · next hmode => exact hbody k _ _ rfl hmode

/-- The request that a payload carries is of the payload's kind. -/
theorem requestOf_kind {k : ReqKind} {payload : List Byte} {r : Request} (h : requestOf k payload = some r) : r.kind = k := by
  have hbare {x : Request} (hx : bareRequest x payload = some r) : r.kind = x.kind := by
    unfold bareRequest at hx
    split at hx
    · cases hx; rfl
    · cases hx
  have htag {f : Nat → Request} (hf : ∀ n, (f n).kind = k) (hx : tagRequest f payload = some r) : r.kind = k := by
    unfold tagRequest at hx
    split at hx
    · cases hx; exact hf _
    · cases hx
  have hfree (hx : freeRequest k payload = some r) : r.kind = k := by
    unfold freeRequest at hx
    obtain ⟨-, hkind⟩ := Option.filter_eq_some_iff.1 hx
    exact beq_iff_eq.1 hkind
  cases k with
  | writeData =>
    unfold requestOf at h
    dsimp only at h
    split at h
    · obtain ⟨fs, -, rfl⟩ := Option.map_eq_some_iff.1 h
      rfl
    · cases h
  | closeData =>
    unfold requestOf at h
    dsimp only at h
    split at h
    · cases h; rfl
    · cases h
  | soundings =>
    obtain ⟨l, -, rfl⟩ := Option.map_eq_some_iff.1 h
    rfl
  | readItem => exact htag (f := .readItem) (fun _ => rfl) h
  | listItems => exact htag (f := .listItems) (fun _ => rfl) h
  | cancelPlan => exact htag (f := fun n => .change (.cancelPlan n)) (fun _ => rfl) h
  | removeItem => exact htag (f := fun n => .change (.removeItem n)) (fun _ => rfl) h
  | identify | readLineStatus | attentionQuery | openData | clearCondition | evaluateNow | readAlarms | popTrial
  | clearTrials | readTrials | draftZero | readDrafts | abortLift | collectOutcome => exact hbare h
  | _ => exact hfree h

/-- A payload that does not fit is answered, and any other is its request. -/
theorem moves_servePayload {k : ReqKind} (payload : List Byte) (q : Caller) {s : State}
    (h : modeAnswer s.ship.mode k = none) : Moves s (arbitrate s.eval (servePayload k payload q s)) := by
  unfold servePayload
  split
  · exact (arbitrate_same (s := answer q _ s) rfl rfl rfl rfl rfl).symm ▸ moves_ports ..
  · next r hr => exact .single (.request r q (requestOf_kind hr ▸ h))

theorem moves_handOn (p : Port) (kind tag : Byte) (payload : List Byte) (s : State) : Moves s (handOn p kind tag payload s) := by
  refine moves_receive s fun k q t hk hmode => ?_
  rw [hk]
  exact moves_servePayload payload q hmode

theorem moves_rxChar (p : Port) (c : RxChar) (s : State) : Moves s (rxChar p c s) := by
  have hrx (r : Receiver) : Moves s (s.setRx p r) := moves_ports ..
  have htake (bytes : List Byte) : Moves s (takeChar p bytes s) := by
    unfold takeChar
    split
    · exact hrx _
    · exact (hrx _).trans (moves_countError ..)
    · exact (hrx _).trans (moves_countError ..)
    · exact (hrx _).trans (moves_handOn ..)
  unfold rxChar
  split
  · exact .refl
  · exact .refl
  · split
    · exact htake _
    · exact (hrx _).trans (moves_countError ..)
  · split
    · exact htake _
    · exact (hrx _).trans (moves_countError ..)

theorem moves_rxChars (p : Port) (cs : List RxChar) (s : State) : Moves s (rxChars p cs s) := by
  unfold rxChars
  induction cs generalizing s with
  | nil => exact .refl
  | cons c cs ih => exact (moves_rxChar p c s).trans (ih _)

theorem moves_rxGap (p : Port) (s : State) : Moves s (rxGap p s) := by
  unfold rxGap
  split
  · exact (moves_ports ..).trans (moves_countError ..)
  · exact moves_ports ..
  · exact .refl
  · exact .refl

theorem moves_routineCompletes {s t : State} (h : routineCompletes s = .next t) : Moves s t := by
  unfold routineCompletes at h
  split at h
  · next heng =>
    split at h
    · cases h
    · cases h
      exact .single (.routine _ _ heng)
  · cases h
    exact .refl

theorem moves_liftCompletes {s t : State} (h : liftCompletes s = .next t) : Moves s t := by
  unfold liftCompletes at h
  split at h
  · next heng =>
    split at h
    · cases h
      exact .single (.checked _ _ heng)
    · cases h
  · cases h
    exact .refl

theorem moves_prospectCompletes {s t : State} (h : prospectCompletes s = .next t) : Moves s t := by
  unfold prospectCompletes at h
  split at h
  · next heng =>
    split at h
    · cases h
    · cases h
      exact .single (.prospect _ heng)
  · cases h
    exact .refl

theorem moves_intervalExpires (s : State) : Moves s (intervalExpires s) := by
  unfold intervalExpires
  split
  · exact .refl
  · next htimer => exact .single (.interval (by rw [htimer]; rfl))

theorem moves_supplyRises (retained : Bool) (straps : Straps) (s : State) : Moves s (supplyRises retained straps s) := by
  unfold supplyRises
  split
  · exact .single (.warm ..)
  · exact .single (.cold ..)

/-- Every command is a chain of moves. -/
theorem moves_exec {i : Instr} {s t : State} (h : exec i s = .next t) : Moves s t := by
  cases hi : requestRow i with
  | some row =>
    obtain ⟨p, tag, r⟩ := row
    rw [exec_requestRow s hi] at h
    cases h
    refine moves_receive s fun k q t hk hmode => ?_
    cases hk
    exact .single (.request r q hmode)
  | none =>
    cases i with
    | telegramReceived p chars => cases h; exact moves_rxChars p chars s
    | receiveGapTimeout p => cases h; exact moves_rxGap p s
    | replySent p => cases h; exact moves_ports ..
    | breakLine p => cases h; exact moves_ports ..
    | breakRelease p => cases h; exact moves_ports ..
    | supplyRise retained straps => cases h; exact moves_supplyRises retained straps s
    | resetPin straps => cases h; exact .single (.warm ..)
    | verifyEnd => cases h; exact .single .verified
    | commitEnd => cases h; exact .single .committed
    | jobStart => cases h; exact .single .job
    | captureComplete => cases h; exact .single .captured
    | routineCompletion => exact moves_routineCompletes h
    | liftCheckCompletion => exact moves_liftCompletes h
    | prospectCompletion => exact moves_prospectCompletes h
    | intervalTimerExpiry => cases h; exact moves_intervalExpires s
    | joinWindowExpiry c => cases h; exact .single (.joinWindow c)
    | grantLapseExpiry c => cases h; exact .single (.grantLapse c)
    | reportTimerExpiry c => cases h; exact .single (.reportLapse c)
    | draftReadingStale => cases h; exact .single .stale
    | attentionPulseEnd p => cases h; exact .single (.pulse p)
    | characterReceived p c => cases h; exact moves_rxChar p c s
    | _ => cases hi

/-- Every step is a chain of moves. -/
theorem moves_step {s t : State} (h : step s = .next t) : Moves s t := by
  unfold step at h
  split at h
  · cases h
    exact .single .second
  · exact (Relation.ReflTransGen.single (.queue _)).trans (moves_exec h)

end Sys2Proof.Machine
end

section
namespace Sys2Proof.Machine
open Sys2Proof

/-! ### Work beside the condition, the tanks and the trials

One `spares_` lemma for each operation of the blocks that leaves them; an operation made of others spares by `Spares.trans`. -/

/-- `t` comes from `s` by work that leaves the ship data store, the condition, the tanks, the trials, the routine interval and
the job in the engine. -/
structure Spares (s t : State) : Prop where
  ship : t.ship = s.ship
  cond : t.cond = s.cond
  tanks : t.tanks = s.tanks
  trials : t.trials = s.trials
  interval : t.eval.interval = s.eval.interval
  engine : t.eval.engine = s.eval.engine

theorem Spares.refl (s : State) : Spares s s := ⟨rfl, rfl, rfl, rfl, rfl, rfl⟩

theorem Spares.trans {s t u : State} (h : Spares s t) (k : Spares t u) : Spares s u :=
  ⟨k.ship.trans h.ship, k.cond.trans h.cond, k.tanks.trans h.tanks, k.trials.trans h.trials,
    k.interval.trans h.interval, k.engine.trans h.engine⟩

theorem spares_withPorts (s : State) (x : PerPort PortState) : Spares s (s.withPorts x) := ⟨rfl, rfl, rfl, rfl, rfl, rfl⟩

theorem spares_withAttn (s : State) (x : PerPort AttnPort) : Spares s (s.withAttn x) := ⟨rfl, rfl, rfl, rfl, rfl, rfl⟩

theorem spares_withMon (s : State) (x : Monitor) : Spares s (s.withMon x) := ⟨rfl, rfl, rfl, rfl, rfl, rfl⟩

theorem spares_withLifts (s : State) (x : LiftUnit) : Spares s (s.withLifts x) := ⟨rfl, rfl, rfl, rfl, rfl, rfl⟩

theorem spares_withEval (s : State) {x : EvalUnit} (hi : x.interval = s.eval.interval) (he : x.engine = s.eval.engine) :
    Spares s (s.withEval x) := ⟨rfl, rfl, rfl, rfl, hi, he⟩

theorem spares_answer (q : Caller) (a : Answer) (s : State) : Spares s (answer q a s) := spares_withPorts ..

theorem spares_defer (q : Caller) (s : State) : Spares s (defer q s) := spares_withPorts ..

theorem spares_deliverTo (q : Option Caller) (a : Answer) (s : State) : Spares s (deliverTo q a s) := by
  cases q with
  | none => exact .refl s
  | some q =>
    show Spares s (deliver q a s)
    rw [deliver_eq]
    split
    · exact spares_withPorts ..
    · exact .refl s

theorem spares_triggerRoutine (s : State) : Spares s (triggerRoutine s) := by
  rw [triggerRoutine_eq]
  exact ⟨rfl, rfl, rfl, rfl, rfl, rfl⟩

theorem spares_startInterval (s : State) : Spares s (startInterval s) := by
  rw [startInterval_eq]
  exact ⟨rfl, rfl, rfl, rfl, rfl, rfl⟩

theorem spares_settle (s : State) : Spares s (settle s) := by
  rw [settle_eq]
  exact ⟨rfl, rfl, rfl, rfl, rfl, rfl⟩

theorem spares_settleRise (s : State) : Spares s (settleRise s) := by
  unfold settleRise
  dsimp only
  split
  · exact (spares_settle s).trans (spares_withAttn ..)
  · exact spares_settle s

theorem spares_raiseLiftCheck (c : Crane) (s : State) : Spares s (raiseLiftCheck c s) := by
  cases c <;> exact ⟨rfl, rfl, rfl, rfl, rfl, rfl⟩

theorem spares_finishOne (code : OutcomeCode) (final : Option Goal) (mass : Int) (c : Crane) (s : State) :
    Spares s (finishOne code final mass c s) := by
  unfold finishOne
  split
  · exact .refl s
  · exact ⟨rfl, rfl, rfl, rfl, rfl, rfl⟩

theorem spares_endSilence (b s : State) : Spares s (endSilence b s) := by
  rw [endSilence_eq]
  exact spares_withAttn ..

/-- Work repeated over a list spares as each of its steps does. -/
theorem spares_foldl {α : Type} {f : State → α → State} (h : ∀ t a, Spares t (f t a)) (l : List α) (s : State) :
    Spares s (l.foldl f s) := by
  induction l generalizing s with
  | nil => exact .refl s
  | cons a l ih => exact (h s a).trans (ih (f s a))

theorem spares_finishLift (code : OutcomeCode) (final : Option Goal) (mass : Int) (cs : List Crane) (s : State) :
    Spares s (finishLift code final mass cs s) :=
  (spares_foldl (fun t c => spares_finishOne code final mass c t) cs s).trans (spares_endSilence s _)

theorem spares_reportArrives (c : Crane) (s : State) : Spares s (reportArrives c s) := by
  unfold reportArrives
  split
  · exact (spares_withLifts ..).trans (spares_endSilence ..)
  · exact .refl s

theorem spares_changeArrives (p : Port) (ch : Change) (s : State) : Spares s (changeArrives p ch s) := by
  unfold changeArrives
  split
  · unfold hookArrives
    split
    · exact spares_withLifts ..
    · exact .refl s
  · exact spares_reportArrives ..
  · exact spares_reportArrives ..
  · exact .refl s

/-! ### Requests beside the condition, the tanks and the trials -/

theorem spares_takeLiftRequest (tag : Nat) (dest : Option Goal) (outreach hook : Point) (partner : Option PortRef)
    (share : Option Nat) (q : Caller) (s : State) : Spares s (takeLiftRequest tag dest outreach hook partner share q s) := by
  unfold takeLiftRequest
  split
  · split
    · exact spares_answer ..
    · split
      · exact spares_answer ..
      · unfold startLift
        refine .trans ?_ (spares_defer ..)
        refine .trans ?_ (spares_withLifts ..)
        split
        · exact (spares_withLifts ..).trans (spares_raiseLiftCheck ..)
        · exact spares_withLifts ..
  · exact spares_answer ..

theorem spares_takeJoinLift (lead : PortRef) (tag : Nat) (outreach : Point) (q : Caller) (s : State) :
    Spares s (takeJoinLift lead tag outreach q s) := by
  unfold takeJoinLift
  split
  · exact spares_answer ..
  · split_ifs
    · exact spares_answer ..
    · exact spares_answer ..
    · split
      · exact spares_answer ..
      · exact ((((spares_withLifts ..).trans (spares_withLifts ..)).trans (spares_raiseLiftCheck ..)).trans
          (spares_withLifts ..)).trans (spares_defer ..)
      · exact spares_answer ..

theorem spares_takeAbortLift (q : Caller) (s : State) : Spares s (takeAbortLift q s) := by
  unfold takeAbortLift
  split
  · exact spares_answer ..
  · split_ifs
    · exact spares_answer ..
    · exact spares_answer ..
    · split
      · exact spares_answer ..
      · exact (spares_finishLift ..).trans (spares_answer ..)
      · exact spares_answer ..
      · exact (spares_finishLift ..).trans (spares_answer ..)
      · exact spares_answer ..
      · exact spares_answer ..

theorem spares_takeCollectOutcome (q : Caller) (s : State) : Spares s (takeCollectOutcome q s) := by
  unfold takeCollectOutcome
  split
  · exact spares_answer ..
  · split
    · exact spares_answer ..
    · exact ((spares_withLifts s _).trans (spares_withAttn ..)).trans (spares_answer ..)

theorem spares_queried (p : Port) (c : Option Cause) (s : State) : Spares s (queried p c s) := by
  unfold queried
  split
  · exact .refl s
  · split
    · exact .refl s
    · exact spares_withAttn ..

theorem spares_takeSetAttention (u : List Nat) (m : Option LineMode) (q : Caller) (s : State) :
    Spares s (takeSetAttention u m q s) := by
  unfold takeSetAttention
  split
  · exact spares_answer ..
  · split
    · exact spares_answer ..
    · exact (spares_withAttn ..).trans (spares_answer ..)

theorem spares_takeEvaluateProspect (sc : Option Scope) (q : Caller) (s : State) :
    Spares s (takeEvaluateProspect sc q s) := by
  unfold takeEvaluateProspect
  split
  · exact spares_answer ..
  · refine .trans ?_ (spares_defer ..)
    exact spares_withEval s rfl rfl

theorem spares_takeSetCriterion (i : Nat) (code : Option Code) (l h n : Int) (a : Option Action) (q : Caller) (s : State) :
    Spares s (takeSetCriterion i code l h n a q s) := by
  unfold takeSetCriterion
  split
  · exact spares_answer ..
  · split
    · exact spares_answer ..
    · exact (((spares_withMon ..).trans (spares_settleRise ..)).trans (spares_triggerRoutine ..)).trans (spares_answer ..)

theorem spares_takeSetRange (a b : Nat) (q : Caller) (s : State) : Spares s (takeSetRange a b q s) := by
  unfold takeSetRange
  split
  · exact spares_answer ..
  · exact (((spares_withMon ..).trans (spares_settle ..)).trans (spares_triggerRoutine ..)).trans (spares_answer ..)

theorem spares_takeResetSlot (i : Nat) (q : Caller) (s : State) : Spares s (takeResetSlot i q s) := by
  unfold takeResetSlot
  split
  · exact spares_answer ..
  · exact ((spares_withMon ..).trans (spares_settle ..)).trans (spares_answer ..)

theorem spares_takeInject (i : Nat) (v : Int) (q : Caller) (s : State) : Spares s (takeInject i v q s) := by
  unfold takeInject
  split
  · exact spares_answer ..
  · exact ((spares_withMon ..).trans (spares_triggerRoutine ..)).trans (spares_answer ..)

theorem spares_takeWithdraw (i : Nat) (q : Caller) (s : State) : Spares s (takeWithdraw i q s) := by
  unfold takeWithdraw
  split
  · exact spares_answer ..
  · exact ((spares_withMon ..).trans (spares_triggerRoutine ..)).trans (spares_answer ..)

/-- The requests that only read: they answer, and change nothing else. -/
def onlyReads : Request → Bool
  | .identify | .readItem _ | .listItems _ | .readCompartment .. | .readResult .. | .readProspect _ | .readCriterion _
  | .findSpace .. | .readTrials | .readDrafts | .readLift _ => true
  | _ => false

/-- A request that only reads is answered. -/
theorem serve_reads {r : Request} (h : onlyReads r = true) (q : Caller) (s : State) : ∃ a, serve r q s = answer q a s := by
  cases r with
  | identify => exact ⟨_, rfl⟩
  | listItems t => exact ⟨_, rfl⟩
  | readTrials => exact ⟨_, rfl⟩
  | readDrafts => exact ⟨_, rfl⟩
  | readItem t => unfold serve takeReadItem; dsimp only; split <;> exact ⟨_, rfl⟩
  | readCompartment n i => unfold serve takeReadCompartment; dsimp only; split <;> exact ⟨_, rfl⟩
  | readResult sel part =>
    unfold serve takeReadResult
    dsimp only
    split
    · exact ⟨_, rfl⟩
    · split <;> exact ⟨_, rfl⟩
  | readProspect part =>
    unfold serve takeReadProspect
    dsimp only
    split
    · exact ⟨_, rfl⟩
    · split <;> exact ⟨_, rfl⟩
  | readCriterion i => unfold serve takeReadCriterion; dsimp only; split <;> exact ⟨_, rfl⟩
  | findSpace a b m mode sk ks => unfold serve takeFindSpace; dsimp only; split <;> exact ⟨_, rfl⟩
  | readLift x => unfold serve takeReadLift; dsimp only; split <;> exact ⟨_, rfl⟩
  | _ => cases h

/-- The requests that may write the ship data store, the condition, the tanks, the trials or the interval. -/
def writesValues : Request → Bool
  | .openData | .writeData .. | .closeData _ | .change _ | .setEvaluation .. | .pushTrial _ | .popTrial | .clearTrials
  | .drafts .. | .draftZero => true
  | _ => false

/-- Every other request leaves them. -/
theorem spares_serve {r : Request} (h : writesValues r = false) (q : Caller) (s : State) : Spares s (serve r q s) := by
  by_cases hread : onlyReads r = true
  · obtain ⟨a, ha⟩ := serve_reads hread q s
    rw [ha]
    exact spares_answer ..
  · cases r with
    | readLineStatus => exact (spares_answer ..).trans (spares_withPorts ..)
    | attentionQuery => exact (spares_queried ..).trans (spares_answer ..)
    | setAttention u m => exact spares_takeSetAttention u m q s
    | evaluateNow => exact .trans (t := raiseRoutine s) (spares_withEval s rfl rfl) (spares_answer ..)
    | evaluateProspect sc => exact spares_takeEvaluateProspect sc q s
    | setCriterion i c l hy n a => exact spares_takeSetCriterion i c l hy n a q s
    | setRange a b => exact spares_takeSetRange a b q s
    | resetSlot i => exact spares_takeResetSlot i q s
    | inject i v => exact spares_takeInject i v q s
    | withdraw i => exact spares_takeWithdraw i q s
    | readAlarms => exact (spares_answer ..).trans (spares_withMon ..)
    | liftRequest t d o hk p sh => exact spares_takeLiftRequest t d o hk p sh q s
    | joinLift l t o => exact spares_takeJoinLift l t o q s
    | abortLift => exact spares_takeAbortLift q s
    | collectOutcome => exact spares_takeCollectOutcome q s
    | openData | writeData | closeData | change | setEvaluation | pushTrial | popTrial | clearTrials | drafts | draftZero =>
      cases h
    | _ => exact absurd rfl hread

end Sys2Proof.Machine
end

section
namespace Sys2Proof.Machine
open Sys2Proof

/-! ### The ranges, the canonical tables and the hold list -/

/-- `t` is in order where `s` is: its values in their ranges, its tables canonical, and its hold list kept. -/
structure KeepsOrder (s t : State) : Prop where
  values : ValuesInRange s → ValuesInRange t
  tables : TablesCanonical s → TablesCanonical t
  hold : HoldListKept s → HoldListKept t

theorem KeepsOrder.refl (s : State) : KeepsOrder s s := ⟨id, id, id⟩

theorem KeepsOrder.trans {s t u : State} (h : KeepsOrder s t) (k : KeepsOrder t u) : KeepsOrder s u :=
  ⟨k.values ∘ h.values, k.tables ∘ h.tables, k.hold ∘ h.hold⟩

theorem capturing_of_engine {s t : State} (h : t.eval.engine = s.eval.engine) : t.capturing = s.capturing := by
  unfold State.capturing
  rw [h]

/-- The ranges rest on the density, the fills, the offsets, the trials and the interval. -/
theorem ValuesInRange.of_same {s t : State} (h : ValuesInRange s) (hd : t.cond.density = s.cond.density)
    (hf : t.tanks.fills = s.tanks.fills) (ha : t.tanks.aftOffset = s.tanks.aftOffset)
    (hw : t.tanks.fwdOffset = s.tanks.fwdOffset) (ht : t.trials = s.trials) (hi : t.eval.interval = s.eval.interval) :
    ValuesInRange t := by
  unfold ValuesInRange
  rw [hd, hf, ha, hw, ht, hi]
  exact h

/-- The canonical forms rest on the items, the compartments, the fills and the two images. -/
theorem TablesCanonical.of_same {s t : State} (h : TablesCanonical s) (hi : t.cond.items = s.cond.items)
    (hc : t.cond.comps = s.cond.comps) (hf : t.tanks.fills = s.tanks.fills) (hm : t.ship.image = s.ship.image)
    (hb : t.ship.buffer = s.ship.buffer) : TablesCanonical t := by
  unfold TablesCanonical
  rw [hi, hc, hf, hm, hb]
  exact h

/-- The hold list stays kept where it and the job are the same. -/
theorem HoldListKept.of_same {s t : State} (h : HoldListKept s) (hh : t.cond.hold = s.cond.hold)
    (he : t.eval.engine = s.eval.engine) : HoldListKept t := by
  unfold HoldListKept
  rw [hh, capturing_of_engine he]
  exact h

/-- An empty hold list is kept. -/
theorem holdListKept_nil {s : State} (h : s.cond.hold = []) : HoldListKept s := by
  unfold HoldListKept
  rw [h]
  exact ⟨List.nodup_nil, fun hne => absurd rfl hne⟩

/-- With no capture in progress a kept hold list is empty (R37). -/
theorem HoldListKept.hold_nil {s : State} (h : HoldListKept s) (hcap : s.capturing = false) : s.cond.hold = [] := by
  by_contra hne
  rw [h.2 hne] at hcap
  cases hcap

theorem keepsOrder_of_spares {s t : State} (h : Spares s t) : KeepsOrder s t where
  values hs := hs.of_same (by rw [h.cond]) (by rw [h.tanks]) (by rw [h.tanks]) (by rw [h.tanks]) h.trials h.interval
  tables hs := hs.of_same (by rw [h.cond]) (by rw [h.cond]) (by rw [h.tanks]) (by rw [h.ship]) (by rw [h.ship])
  hold hs := hs.of_same (by rw [h.cond]) h.engine

/-! ### The requests that write values -/

/-- Work on the tanks and the trials alone. -/
theorem keepsOrder_tanks_trials {s t : State} (hv : ValuesInRange s → ValuesInRange t) (hship : t.ship = s.ship)
    (hcond : t.cond = s.cond) (heval : t.eval = s.eval) (hfills : t.tanks.fills = s.tanks.fills) : KeepsOrder s t where
  values := hv
  tables hs := hs.of_same (by rw [hcond]) (by rw [hcond]) hfills (by rw [hship]) (by rw [hship])
  hold hs := hs.of_same (by rw [hcond]) (by rw [heval])

/-- A stack of trials within its bounds (R168). -/
def TrialsInRange (t : Trials) : Prop := t.layers.length ≤ Config.maxLayers ∧ (t.layers = [] → t.baseLost = false)

/-- Another trial stack within its bounds. -/
theorem keepsOrder_withTrials {s : State} {x : Trials} (h : TrialsInRange s.trials → TrialsInRange x) :
    KeepsOrder s (s.withTrials x) :=
  keepsOrder_tanks_trials (fun ⟨h1, h2, h3, h4, h5, h6, h7, hlen, hbase, hint⟩ => by
    obtain ⟨hlen', hbase'⟩ := h ⟨hlen, hbase⟩
    exact ⟨h1, h2, h3, h4, h5, h6, h7, hlen', hbase', hint⟩) rfl rfl rfl rfl

theorem trialsInRange_nil : TrialsInRange ⟨[], false⟩ := ⟨Nat.zero_le _, fun _ => rfl⟩

/-- A push keeps the stack within its bounds: a full stack drops its bottom layer (R170). -/
theorem TrialsInRange.push {t : Trials} (h : TrialsInRange t) (l : Layer) : TrialsInRange (t.push l) := by
  obtain ⟨hlen, -⟩ := h
  unfold Trials.push TrialsInRange
  split
  · next hlt => exact ⟨by simpa using hlt, fun hnil => by simp at hnil⟩
  · next hge =>
    have hpos : 0 < Config.maxLayers := by decide
    refine ⟨?_, fun hnil => by simp at hnil⟩
    simp only [List.length_append, List.length_tail, List.length_cons, List.length_nil]
    omega

/-- A pop keeps the stack within its bounds: an empty stack has BASE LOST cleared (R171). -/
theorem TrialsInRange.pop {t : Trials} (h : TrialsInRange t) : TrialsInRange t.pop := by
  obtain ⟨hlen, -⟩ := h
  refine ⟨?_, fun hnil => ?_⟩
  · show t.layers.dropLast.length ≤ _
    rw [List.length_dropLast]
    omega
  · show (t.baseLost && !t.layers.dropLast.isEmpty) = false
    rw [show t.layers.dropLast = [] from hnil]
    simp

theorem bringInto_mem {lo hi : Int} (h : lo ≤ hi) (v : Int) : lo ≤ bringInto lo hi v ∧ bringInto lo hi v ≤ hi := by
  unfold bringInto
  split_ifs <;> omega

theorem keepsOrder_answer {s t : State} (q : Caller) (a : Answer) (h : KeepsOrder s t) : KeepsOrder s (answer q a t) :=
  h.trans (keepsOrder_of_spares (spares_answer ..))

theorem keepsOrder_takePushTrial (a : LayerArg) (q : Caller) (s : State) : KeepsOrder s (takePushTrial a q s) := by
  unfold takePushTrial
  split
  · exact keepsOrder_answer _ _ (.refl s)
  · exact keepsOrder_answer _ _ (.refl s)
  · exact keepsOrder_answer _ _ (keepsOrder_withTrials fun h => h.push _)

theorem keepsOrder_takePopTrial (q : Caller) (s : State) : KeepsOrder s (takePopTrial q s) := by
  unfold takePopTrial
  split
  · exact keepsOrder_answer _ _ (.refl s)
  · exact keepsOrder_answer _ _ (keepsOrder_withTrials fun h => h.pop)

/-- Another draft reading. -/
theorem keepsOrder_reading (s : State) (r : Option DraftReading) : KeepsOrder s (s.withTanks { s.tanks with reading := r }) :=
  keepsOrder_tanks_trials (fun h => h.of_same rfl rfl rfl rfl rfl rfl) rfl rfl rfl rfl

theorem keepsOrder_takeDrafts (aft fwd : Int) (q : Caller) (s : State) : KeepsOrder s (takeDrafts aft fwd q s) := by
  unfold takeDrafts
  split
  · exact keepsOrder_answer _ _ (.refl s)
  · exact keepsOrder_answer _ _ (keepsOrder_reading ..)

/-- The offsets of DRAFT ZERO lie within -50..50 (R162). -/
theorem keepsOrder_takeDraftZero (q : Caller) (s : State) : KeepsOrder s (takeDraftZero q s) := by
  unfold takeDraftZero
  split
  · exact keepsOrder_answer _ _ (.refl s)
  · exact keepsOrder_answer _ _ (.refl s)
  · split
    · exact keepsOrder_answer _ _ (.refl s)
    · refine keepsOrder_answer _ _ (keepsOrder_tanks_trials (fun ⟨h1, h2, h3, _, _, _, _, hrest⟩ => ?_) rfl rfl rfl rfl)
      obtain ⟨a1, a2⟩ := bringInto_mem (lo := -50) (hi := 50) (by omega) _
      obtain ⟨f1, f2⟩ := bringInto_mem (lo := -50) (hi := 50) (by omega) _
      exact ⟨h1, h2, h3, a1, a2, f1, f2, hrest⟩

/-- The interval of SET EVALUATION lies within 1..60 (R94). -/
theorem keepsOrder_takeSetEvaluation (m : Option RoutineMode) (i : Int) (q : Caller) (s : State) :
    KeepsOrder s (takeSetEvaluation m i q s) := by
  unfold takeSetEvaluation
  split
  · exact keepsOrder_answer _ _ (.refl s)
  · split
    · exact keepsOrder_answer _ _ (.refl s)
    · next hin =>
      rw [Bool.not_eq_false, within_iff] at hin
      refine keepsOrder_answer _ _ ⟨fun ⟨h1, h2, h3, h4, h5, h6, h7, h8, h9, _⟩ => ?_, fun h => h.of_same rfl rfl rfl rfl rfl,
        fun h => h.of_same rfl rfl⟩
      refine ⟨h1, h2, h3, h4, h5, h6, h7, h8, h9, ?_, ?_⟩
      · show 1 ≤ i.toNat
        omega
      · show i.toNat ≤ 60
        omega

/-! ### The ship data store -/

/-- The tables of an image in their canonical form. -/
def ImageRising (img : Image) : Prop :=
  img.blocks.Rising ∧ img.rows.Rising ∧ img.stations.Rising ∧ img.comps.Rising ∧ img.criteria.Rising

theorem imageRising_blank : ImageRising .blank := ⟨.nil, .nil, .nil, .nil, .nil⟩

/-- The tables of a state are canonical when those of the condition, the tanks and the two images are. -/
theorem tablesCanonical_iff (s : State) : TablesCanonical s ↔ s.cond.items.Rising ∧ s.cond.comps.Canonical .empty ∧
    s.tanks.fills.Canonical 0 ∧ ImageRising s.ship.image ∧ ImageRising s.ship.buffer := by
  unfold TablesCanonical
  refine and_congr_right fun _ => and_congr_right fun _ => and_congr_right fun _ => ⟨fun h => ⟨h _ (.inl rfl), h _ (.inr rfl)⟩,
    fun ⟨h, k⟩ img himg => ?_⟩
  rcases himg with rfl | rfl
  · exact h
  · exact k

/-- Placing a record keeps the tables of an image rising (R12). -/
theorem ImageRising.place {img : Image} (h : ImageRising img) (kind index : Nat) (v : List Int) :
    ImageRising (img.place kind index v) := by
  obtain ⟨hblocks, hrows, hstations, hcomps, hcriteria⟩ := h
  unfold Image.place
  dsimp only
  split
  · exact ⟨hblocks, hrows, hstations, hcomps, hcriteria⟩
  · exact ⟨Table.rising_put _ _ hblocks, hrows, hstations, hcomps, hcriteria⟩
  · exact ⟨hblocks, Table.rising_put _ _ hrows, hstations, hcomps, hcriteria⟩
  · exact ⟨hblocks, hrows, Table.rising_put _ _ hstations, hcomps, hcriteria⟩
  · exact ⟨hblocks, hrows, hstations, Table.rising_put _ _ hcomps, hcriteria⟩
  · exact ⟨hblocks, hrows, hstations, hcomps, Table.rising_put _ _ hcriteria⟩
  · exact ⟨hblocks, hrows, hstations, hcomps, hcriteria⟩

theorem ImageRising.write {img b : Image} (h : ImageRising img) {kind index : Nat} {v : List Int}
    (hw : img.write kind index v = some b) : ImageRising b := by
  by_cases hr : RecordRefused kind index v
  · rw [write_refused img hr] at hw
    cases hw
  · rw [write_taken img hr] at hw
    cases hw
    exact h.place kind index v

/-- Work on the ship data store alone that leaves both images canonical. -/
theorem keepsOrder_withShip {s : State} {x : ShipStore}
    (h : ImageRising s.ship.image → ImageRising s.ship.buffer → ImageRising x.image ∧ ImageRising x.buffer) :
    KeepsOrder s (s.withShip x) where
  values hs := hs.of_same rfl rfl rfl rfl rfl rfl
  tables hs := by
    rw [tablesCanonical_iff] at hs ⊢
    obtain ⟨hitems, hcomps, hfills, himage, hbuffer⟩ := hs
    exact ⟨hitems, hcomps, hfills, h himage hbuffer⟩
  hold hs := hs.of_same rfl rfl

theorem keepsOrder_takeWriteData (kind index : Nat) (fields : List FieldWord) (q : Caller) (s : State) :
    KeepsOrder s (takeWriteData kind index fields q s) := by
  unfold takeWriteData
  split
  · exact keepsOrder_answer _ _ (.refl s)
  · split
    · exact keepsOrder_answer _ _ (.refl s)
    · next hw => exact keepsOrder_answer _ _ (keepsOrder_withShip fun himage hbuffer => ⟨himage, hbuffer.write hw⟩)

/-- A change of mode writes the mode, the lines and the attention unit. -/
theorem keepsOrder_changeMode (m : ServiceMode) (r : Option FaultReason) (s : State) : KeepsOrder s (changeMode m r s) := by
  rw [changeMode_eq]
  exact ⟨fun h => h.of_same rfl rfl rfl rfl rfl rfl, fun h => h.of_same rfl rfl rfl rfl rfl, fun h => h.of_same rfl rfl⟩

theorem keepsOrder_takeCloseData (w : CheckWord) (q : Caller) (s : State) : KeepsOrder s (takeCloseData w q s) := by
  unfold takeCloseData
  split
  · exact keepsOrder_answer _ _ (.refl s)
  · split
    · exact keepsOrder_answer _ _ ((keepsOrder_withShip (x := { s.ship with buffer := .blank }) fun himage _ =>
        ⟨himage, imageRising_blank⟩).trans (keepsOrder_changeMode ..))
    · exact (keepsOrder_withShip (x := { s.ship with committing := some q }) fun himage hbuffer => ⟨himage, hbuffer⟩).trans
        (keepsOrder_of_spares (spares_defer ..))

/-- A compartment table rewritten without its default entries is canonical. -/
theorem Table.canonical_filter {α : Type} [DecidableEq α] (d : α) (f : Nat → α → α) {t : Table α} (h : t.Rising) :
    Table.Canonical d ((t.mapVals f).filter (fun e => e.2 != d)) :=
  ⟨Table.rising_filter _ (Table.rising_mapVals f h), fun _ he => bne_iff_ne.1 (List.mem_filter.1 he).2⟩

/-- The values that an opened load and a COLD restart leave are in their ranges. -/
theorem valuesInRange_cleared {s : State} (hd : s.cond.density = 1025) (ht : ∃ r, s.tanks = ⟨[], r, 0, 0⟩)
    (hl : s.trials = ⟨[], false⟩) (hi : 1 ≤ s.eval.interval ∧ s.eval.interval ≤ 60) : ValuesInRange s := by
  obtain ⟨r, ht⟩ := ht
  unfold ValuesInRange
  rw [hd, ht, hl]
  exact ⟨by decide, by decide, fun _ he => (nomatch he), (by decide : (-50 : Int) ≤ 0), (by decide : (0 : Int) ≤ 50),
    (by decide : (-50 : Int) ≤ 0), (by decide : (0 : Int) ≤ 50), Nat.zero_le _, fun _ => rfl, hi⟩

theorem keepsOrder_takeOpenData (q : Caller) (s : State) : KeepsOrder s (takeOpenData q s) := by
  unfold takeOpenData
  split
  · exact keepsOrder_answer _ _ (.refl s)
  · refine keepsOrder_answer _ _ ⟨fun ⟨_, _, _, _, _, _, _, _, _, hint⟩ => ?_, fun h => ?_, fun _ => holdListKept_nil ?_⟩
    all_goals rw [openLoad_eq]
    · exact valuesInRange_cleared rfl ⟨_, rfl⟩ rfl hint
    · rw [tablesCanonical_iff] at h ⊢
      obtain ⟨-, hcomps, -⟩ := h
      exact ⟨.nil, Table.canonical_filter _ _ hcomps.1, ⟨.nil, fun _ he => (nomatch he)⟩, imageRising_blank, imageRising_blank⟩

/-! ### The changes of the condition -/

/-- Work on the items, compartments and density that leaves them in order, with the hold list and the job. -/
theorem keepsOrder_cond {s t : State} (hship : t.ship = s.ship) (heval : t.eval = s.eval) (htanks : t.tanks = s.tanks)
    (htrials : t.trials = s.trials) (hhold : t.cond.hold = s.cond.hold) (hdensity : t.cond.density = s.cond.density)
    (hitems : s.cond.items.Rising → t.cond.items.Rising)
    (hcomps : s.cond.comps.Canonical .empty → t.cond.comps.Canonical .empty) : KeepsOrder s t where
  values hs := hs.of_same hdensity (by rw [htanks]) (by rw [htanks]) (by rw [htanks]) htrials (by rw [heval])
  tables hs := by
    rw [tablesCanonical_iff] at hs ⊢
    obtain ⟨h1, h2, h3⟩ := hs
    rw [htanks, hship]
    exact ⟨hitems h1, hcomps h2, h3⟩
  hold hs := hs.of_same hhold (by rw [heval])

theorem keepsOrder_setItem (tag : Nat) (it : ItemRecord) (s : State) : KeepsOrder s (s.setItem tag it) :=
  keepsOrder_cond rfl rfl rfl rfl rfl rfl (Table.rising_put tag it) id

theorem keepsOrder_setComp (n : Nat) (cs : CompState) (s : State) : KeepsOrder s (s.setComp n cs) :=
  keepsOrder_cond rfl rfl rfl rfl rfl rfl id (Table.canonical_store _ n cs)

theorem keepsOrder_leaveComp (tag : Nat) (it : ItemRecord) (s : State) : KeepsOrder s (leaveComp tag it s) := by
  unfold leaveComp
  split
  · exact keepsOrder_setComp ..
  · exact .refl s

theorem keepsOrder_deleteItem (tag : Nat) (s : State) : KeepsOrder s (deleteItem tag s) := by
  unfold deleteItem
  split
  · exact .refl s
  · next it _ =>
    refine (keepsOrder_leaveComp tag it s).trans ?_
    exact keepsOrder_cond rfl rfl rfl rfl rfl rfl
      (fun h => Table.rising_mapVals (fun _ x => dropPlanRest tag x) (Table.rising_drop tag h)) id

theorem keepsOrder_applyEntry (s : State) (e : Entry) : KeepsOrder s (applyEntry s e) := by
  unfold applyEntry
  split
  · exact (keepsOrder_setItem ..).trans (keepsOrder_setComp ..)
  · exact keepsOrder_setItem ..

theorem keepsOrder_addEntries {es : List Entry} {k : Nat} {s t : State} (h : addEntries k s es = .ok t) : KeepsOrder s t := by
  induction es generalizing k s with
  | nil =>
    obtain rfl : s = t := Except.ok.inj h
    exact .refl s
  | cons e es ih =>
    unfold addEntries at h
    split at h
    · cases h
    · exact (keepsOrder_applyEntry s e).trans (ih h)

theorem keepsOrder_shiftLoad (it : ItemRecord) (d : Int) (s : State) : KeepsOrder s (shiftLoad it d s) := by
  unfold shiftLoad
  split
  · exact keepsOrder_setComp ..
  · exact .refl s

theorem keepsOrder_slingItem (tag : Nat) (c : Crane) (s : State) : KeepsOrder s (slingItem tag c s) := by
  unfold slingItem
  split
  · exact .refl s
  · exact (keepsOrder_leaveComp ..).trans (keepsOrder_setItem ..)

theorem spares_slingPartner (c : Crane) (s : State) : Spares s (slingPartner c s) := by
  unfold slingPartner
  split
  · exact .refl s
  · exact spares_withLifts ..

theorem keepsOrder_setDown (tag : Nat) (g : Goal) (s : State) : KeepsOrder s (setDown tag g s) := by
  unfold setDown
  split
  · exact keepsOrder_deleteItem ..
  · split
    · exact .refl s
    · exact (keepsOrder_setItem ..).trans (keepsOrder_setComp ..)

/-- The pairs of a SOUNDINGS keep the fills table canonical. -/
theorem canonical_sounded (img : Image) (pairs : List (Nat × Nat)) (q : Sounded) (hcanon : q.fills.Canonical 0) :
    (pairs.foldl (soundPair img) q).fills.Canonical 0 := by
  induction pairs generalizing q with
  | nil => exact hcanon
  | cons x xs ih =>
    refine ih _ ?_
    unfold soundPair
    split
    · exact Table.canonical_store 0 _ _ hcanon
    · exact hcanon

theorem fills_sounded_le (img : Image) (pairs : List (Nat × Nat)) (q : Sounded) (hle : ∀ e ∈ q.fills, e.2 ≤ 1000) :
    ∀ e ∈ (pairs.foldl (soundPair img) q).fills, e.2 ≤ 1000 := by
  induction pairs generalizing q with
  | nil => exact hle
  | cons x xs ih =>
    refine ih _ ?_
    unfold soundPair
    split
    · intro e he
      unfold Table.store at he
      split at he
      · exact hle e (List.mem_filter.1 he).1
      · rcases Table.mem_put he with rfl | he
        · exact Nat.min_le_right ..
        · exact hle e he
    · exact hle

/-- The work of a change keeps the ranges, the tables and the hold list. -/
theorem ChangeWork.keepsOrder {s u : State} (h : ChangeWork s u) : KeepsOrder s u := by
  cases h with
  | added h => exact keepsOrder_addEntries h
  | amended => exact (keepsOrder_setItem ..).trans (keepsOrder_shiftLoad ..)
  | replanned => exact keepsOrder_setItem ..
  | removed => exact keepsOrder_deleteItem ..
  | flagged => exact keepsOrder_setComp ..
  | emptied =>
    refine ⟨fun ⟨h1, h2, _, h4, h5, h6, h7, _, _, hint⟩ => ⟨h1, h2, fun _ he => (nomatch he), h4, h5, h6, h7, Nat.zero_le _,
      fun _ => rfl, hint⟩, fun hs => ?_, fun hs => hs.of_same rfl rfl⟩
    rw [tablesCanonical_iff] at hs ⊢
    obtain ⟨-, hcomps, -, himages⟩ := hs
    exact ⟨.nil, Table.canonical_filter _ _ hcomps.1, ⟨.nil, fun _ he => (nomatch he)⟩, himages⟩
  | weighed d =>
    obtain ⟨hlow, hhigh⟩ := bringInto_mem (lo := 990) (hi := 1030) (by omega) d
    exact ⟨fun ⟨_, _, hrest⟩ => ⟨hlow, hhigh, hrest⟩, fun hs => hs.of_same rfl rfl rfl rfl rfl, fun hs => hs.of_same rfl rfl⟩
  | sounded pairs =>
    refine ⟨fun ⟨h1, h2, hle, hrest⟩ => ⟨h1, h2, fills_sounded_le _ pairs _ hle, hrest⟩, fun hs => ?_,
      fun hs => hs.of_same rfl rfl⟩
    rw [tablesCanonical_iff] at hs ⊢
    obtain ⟨hitems, hcomps, hfills, himages⟩ := hs
    exact ⟨hitems, hcomps, canonical_sounded _ pairs _ hfills, himages⟩
  | hooked =>
    refine .trans ?_ (keepsOrder_of_spares (spares_withLifts ..))
    split
    · exact (keepsOrder_slingItem ..).trans (keepsOrder_of_spares (spares_slingPartner ..))
    · exact keepsOrder_slingItem ..
  | moved => exact keepsOrder_of_spares (spares_withLifts ..)
  | landed => exact (keepsOrder_setDown ..).trans (keepsOrder_of_spares (spares_finishLift ..))

theorem keepsOrder_advance (s : State) : KeepsOrder s (advance s) := by
  rw [advance_eq]
  exact ⟨fun h => h.of_same rfl rfl rfl rfl rfl rfl, fun h => h.of_same rfl rfl rfl rfl rfl, fun h => h.of_same rfl rfl⟩

theorem keepsOrder_applyChange (p : Port) (ch : Change) (s : State) : KeepsOrder s (applyChange p ch s).1 := by
  rcases applyChange_done p ch s with h | ⟨u, hu, h⟩
  · rw [h]
    exact .refl s
  · rw [h]
    exact hu.keepsOrder.trans (keepsOrder_advance u)

/-- A change put on the hold list during a capture, with none of its port's before it (R37). -/
theorem keepsOrder_held {s : State} {q : Caller} (ch : Change) (hcap : s.capturing = true)
    (hnone : ¬ s.cond.hold.any (fun h => h.caller.port == q.port) = true) :
    KeepsOrder s (s.withCond { s.cond with hold := s.cond.hold ++ [⟨q, ch⟩] }) where
  values hs := hs.of_same rfl rfl rfl rfl rfl rfl
  tables hs := hs.of_same rfl rfl rfl rfl rfl
  hold hs := by
    obtain ⟨hnodup, -⟩ := hs
    refine ⟨?_, fun _ => hcap⟩
    show ((s.cond.hold ++ [(⟨q, ch⟩ : Held)]).map (fun h => h.caller.port)).Nodup
    rw [List.map_append]
    refine List.Nodup.append hnodup (List.nodup_singleton _) fun x hx hq => hnone ?_
    obtain ⟨h, hmem, rfl⟩ := List.mem_map.1 hx
    exact List.any_eq_true.2 ⟨h, hmem, beq_iff_eq.2 (List.mem_singleton.1 hq)⟩

theorem keepsOrder_takeChange (ch : Change) (q : Caller) (s : State) : KeepsOrder s (takeChange ch q s) := by
  have harrive : KeepsOrder s (changeArrives q.port ch s) := keepsOrder_of_spares (spares_changeArrives ..)
  unfold takeChange
  dsimp only
  split_ifs with hform hcap hany
  · exact keepsOrder_answer _ _ (.refl s)
  · exact keepsOrder_answer _ _ harrive
  · exact (harrive.trans (keepsOrder_held ch hcap hany)).trans (keepsOrder_of_spares (spares_defer ..))
  · exact keepsOrder_answer _ _ (harrive.trans (keepsOrder_applyChange ..))

/-- Every request keeps the ranges, the tables and the hold list. -/
theorem keepsOrder_serve (r : Request) (q : Caller) (s : State) : KeepsOrder s (serve r q s) := by
  by_cases hr : writesValues r = true
  · cases r with
    | openData => exact keepsOrder_takeOpenData q s
    | writeData k i fs => exact keepsOrder_takeWriteData k i fs q s
    | closeData w => exact keepsOrder_takeCloseData w q s
    | change ch => exact keepsOrder_takeChange ch q s
    | setEvaluation m i => exact keepsOrder_takeSetEvaluation m i q s
    | pushTrial l => exact keepsOrder_takePushTrial l q s
    | popTrial => exact keepsOrder_takePopTrial q s
    | clearTrials => exact keepsOrder_answer _ _ (keepsOrder_withTrials fun _ => trialsInRange_nil)
    | drafts a f => exact keepsOrder_takeDrafts a f q s
    | draftZero => exact keepsOrder_takeDraftZero q s
    | _ => cases hr
  · exact keepsOrder_of_spares (spares_serve (Bool.eq_false_iff.2 hr) q s)

/-! ### The jobs and the events -/

theorem startLiftCheck_interval (c : Crane) (s : State) : (startLiftCheck c s).eval.interval = s.eval.interval := by
  have hdrop : (dropLiftSlot c s).eval.interval = s.eval.interval := by cases c <;> rfl
  unfold startLiftCheck
  split
  · exact hdrop
  · exact hdrop

/-- The start of a job finds the engine free and leaves the interval. -/
theorem startJob_engine (s : State) : startJob s = s ∨
    s.eval.engine = none ∧ (startJob s).eval.interval = s.eval.interval := by
  unfold startJob
  split
  · next h =>
    obtain ⟨-, hfree⟩ := h
    refine .inr ⟨hfree, ?_⟩
    split
    · exact startLiftCheck_interval ..
    · rfl
    · split <;> rfl
  · exact .inl rfl

/-- A job is started with the hold list empty: no capture was in progress. -/
theorem keepsOrder_startJob (s : State) : KeepsOrder s (startJob s) := by
  rcases startJob_engine s with h | ⟨hfree, hint⟩
  · rw [h]
    exact .refl s
  · refine ⟨fun hs => ?_, fun hs => ?_, fun hs => holdListKept_nil ?_⟩
    · exact hs.of_same (by rw [startJob_eq]) (by rw [startJob_eq]) (by rw [startJob_eq]) (by rw [startJob_eq])
        (by rw [startJob_eq]) hint
    · exact hs.of_same (by rw [startJob_eq]) (by rw [startJob_eq]) (by rw [startJob_eq]) (by rw [startJob_eq])
        (by rw [startJob_eq])
    · rw [startJob_eq]
      exact hs.hold_nil (by unfold State.capturing; rw [hfree])

theorem keepsOrder_arbitrate {s t : State} (e : EvalUnit) (h : KeepsOrder s t) : KeepsOrder s (arbitrate e t) := by
  unfold arbitrate
  split
  · exact h.trans (keepsOrder_startJob t)
  · exact h

theorem keepsOrder_applyHeld (s : State) (h : Held) : KeepsOrder s (applyHeld s h) :=
  (keepsOrder_applyChange ..).trans (keepsOrder_of_spares (spares_deliverTo (some _) _ _))

/-- At the end of a capture the hold list is empty, and its changes have kept the rest in order (R84). -/
theorem keepsOrder_capturesComplete (s : State) : KeepsOrder s (capturesComplete s) := by
  have hfold (l : List Held) (t : State) : KeepsOrder t (l.foldl applyHeld t) := by
    induction l generalizing t with
    | nil => exact .refl t
    | cons h l ih => exact (keepsOrder_applyHeld t h).trans (ih _)
  unfold capturesComplete
  split
  · exact .refl s
  · split
    · have hstart : KeepsOrder s (s.withCond { s.cond with hold := [] }) :=
        ⟨fun h => h.of_same rfl rfl rfl rfl rfl rfl, fun h => h.of_same rfl rfl rfl rfl rfl, fun _ => holdListKept_nil rfl⟩
      have hturns := hstart.trans (hfold s.cond.hold _)
      refine hturns.trans ⟨fun h => h.of_same rfl rfl rfl rfl rfl rfl, fun h => h.of_same rfl rfl rfl rfl rfl,
        fun _ => holdListKept_nil ?_⟩
      exact (applyHeld_foldl_keeps s.cond.hold _).1
    · exact .refl s

/-- The end of a job that was in its compute stage: the hold list was empty and stays so. -/
theorem keepsOrder_freed {s t : State} {j : Job} (hj : s.eval.engine = some j) (hstage : j.stage = .computing)
    (h : Spares s t) {x : EvalUnit} (hx : x.interval = t.eval.interval) : KeepsOrder s (t.withEval x) where
  values hs := hs.of_same (by rw [withEval_cond, h.cond]) (by rw [withEval_tanks, h.tanks])
    (by rw [withEval_tanks, h.tanks]) (by rw [withEval_tanks, h.tanks]) h.trials (hx.trans h.interval)
  tables hs := hs.of_same (by rw [withEval_cond, h.cond]) (by rw [withEval_cond, h.cond]) (by rw [withEval_tanks, h.tanks])
    (by rw [withEval_ship, h.ship]) (by rw [withEval_ship, h.ship])
  hold hs := holdListKept_nil (by
    rw [withEval_cond, h.cond]
    exact hs.hold_nil (by unfold State.capturing; rw [hj]; simp [hstage]))

theorem spares_judgeResult (g : Judging) (seq : Nat) (s : State) : Spares s (judgeResult g seq s) := by
  unfold judgeResult
  dsimp only
  split
  · exact (spares_withMon ..).trans (spares_settle ..)
  · exact ((spares_withMon ..).trans (spares_settle ..)).trans (spares_withAttn ..)

theorem keepsOrder_completeRoutine {s : State} {j : Job} (hj : s.eval.engine = some j) (hstage : j.stage = .computing)
    (v : Version) (slung : Bool) (f : FigureSet) (dis : Option Int) : KeepsOrder s (completeRoutine v slung f dis s) := by
  unfold completeRoutine
  refine keepsOrder_freed hj hstage (.trans ?_ (spares_startInterval _)) rfl
  refine .trans ?_ (spares_withAttn ..)
  exact .trans (spares_judgeResult ..) (spares_withEval _ rfl rfl)

theorem spares_settleCheck (lead : Crane) (r : CheckReport) (s : State) (c : Crane) : Spares s (settleCheck lead r s c) := by
  unfold settleCheck
  split
  · exact ((spares_withLifts ..).trans (spares_withLifts ..)).trans (spares_deliverTo ..)
  · exact .refl s

theorem keepsOrder_completeLift {s : State} {j : Job} (hj : s.eval.engine = some j) (hstage : j.stage = .computing)
    (lead : Crane) (v : Version) (path final : FigureSet) : KeepsOrder s (completeLift lead v path final s) :=
  keepsOrder_freed hj hstage (spares_foldl (spares_settleCheck lead _) _ s) rfl

theorem keepsOrder_completeProspect {s : State} {j : Job} (hj : s.eval.engine = some j) (hstage : j.stage = .computing)
    (q : Caller) (r : ProspectResult) : KeepsOrder s (completeProspect q r s) :=
  (keepsOrder_freed (x := { s.eval with prospect := some r, lastProspectSeq := r.header.seq, engine := none })
    hj hstage (.refl s) rfl).trans (keepsOrder_of_spares (spares_deliverTo (some _) _ _))

theorem keepsOrder_coldRestart (straps : Straps) (s : State) : KeepsOrder s (coldRestart straps s) := by
  rw [coldRestart_eq]
  refine ⟨fun _ => valuesInRange_cleared rfl ⟨_, rfl⟩ rfl ⟨(by decide : 1 ≤ 5), (by decide : 5 ≤ 60)⟩, fun h => ?_, fun _ => holdListKept_nil rfl⟩
  rw [tablesCanonical_iff] at h ⊢
  obtain ⟨-, -, -, himage, -⟩ := h
  exact ⟨.nil, ⟨.nil, fun _ he => (nomatch he)⟩, ⟨.nil, fun _ he => (nomatch he)⟩, himage, imageRising_blank⟩

theorem keepsOrder_warmRestart (cause : RestartCause) (straps : Straps) (s : State) :
    KeepsOrder s (warmRestart cause straps s) := by
  rw [warmRestart_eq]
  refine ⟨fun ⟨h1, h2, h3, h4, h5, h6, h7, _, _, hint⟩ => ⟨h1, h2, h3, h4, h5, h6, h7, Nat.zero_le _, fun _ => rfl, hint⟩,
    fun h => ?_, fun _ => holdListKept_nil rfl⟩
  rw [tablesCanonical_iff] at h ⊢
  obtain ⟨hitems, hcomps, hfills, himage, -⟩ := h
  exact ⟨hitems, hcomps, hfills, himage, imageRising_blank⟩

theorem keepsOrder_enterService (s : State) : KeepsOrder s (enterService s) := by
  rw [enterService_eq]
  exact ⟨fun h => h.of_same rfl rfl rfl rfl rfl rfl, fun h => h.of_same rfl rfl rfl rfl rfl, fun h => h.of_same rfl rfl⟩

theorem keepsOrder_loadSlots (s : State) : KeepsOrder s (loadSlots s) := by
  rw [loadSlots_eq]
  refine ⟨fun h => h.of_same rfl rfl rfl rfl rfl rfl, fun h => ?_, fun h => h.of_same rfl rfl⟩
  rw [tablesCanonical_iff] at h ⊢
  obtain ⟨hitems, hcomps, hrest⟩ := h
  exact ⟨hitems, Table.canonical_filter _ _ hcomps.1, hrest⟩

theorem keepsOrder_verifyEnds (s : State) : KeepsOrder s (verifyEnds s) := by
  unfold verifyEnds
  split_ifs
  · exact .refl s
  · exact keepsOrder_changeMode ..
  · exact keepsOrder_changeMode ..
  · exact (keepsOrder_loadSlots s).trans (keepsOrder_enterService _)
  · exact keepsOrder_enterService s

theorem keepsOrder_commitEnds (s : State) : KeepsOrder s (commitEnds s) := by
  unfold commitEnds
  split
  · exact .refl s
  · next q _ =>
    refine .trans ?_ (keepsOrder_of_spares (spares_deliverTo (some q) _ _))
    exact ((keepsOrder_withShip fun _ hbuffer => ⟨hbuffer, imageRising_blank⟩).trans (keepsOrder_loadSlots _)).trans
      (keepsOrder_enterService _)

theorem keepsOrder_tick (s : State) : KeepsOrder s (tick s) :=
  ⟨fun h => h.of_same rfl rfl rfl rfl rfl rfl, fun h => h.of_same rfl rfl rfl rfl rfl, fun h => h.of_same rfl rfl⟩

/-- Every move keeps the ranges, the tables and the hold list. -/
theorem Move.keepsOrder {s t : State} (h : Move s t) : KeepsOrder s t := by
  cases h with
  | ports x => exact keepsOrder_of_spares (spares_withPorts s x)
  | lineError p => exact keepsOrder_of_spares (spares_withAttn s _)
  | queue x => exact keepsOrder_of_spares ⟨rfl, rfl, rfl, rfl, rfl, rfl⟩
  | request r q _ => exact keepsOrder_arbitrate _ (keepsOrder_serve r q s)
  | second => exact keepsOrder_tick s
  | cold straps => exact keepsOrder_coldRestart straps s
  | warm cause straps => exact keepsOrder_warmRestart cause straps s
  | verified => exact keepsOrder_arbitrate _ (keepsOrder_verifyEnds s)
  | committed => exact keepsOrder_arbitrate _ (keepsOrder_commitEnds s)
  | job => exact keepsOrder_startJob s
  | captured => exact keepsOrder_capturesComplete s
  | routine f dis hj => exact keepsOrder_arbitrate _ (keepsOrder_completeRoutine hj rfl ..)
  | checked p f hj => exact keepsOrder_arbitrate _ (keepsOrder_completeLift hj rfl ..)
  | prospect r hj => exact keepsOrder_arbitrate _ (keepsOrder_completeProspect hj rfl ..)
  | interval _ =>
    exact keepsOrder_arbitrate _ (keepsOrder_of_spares
      (.trans (t := raiseRoutine s) (spares_withEval s rfl rfl) (spares_startInterval _)))
  | joinWindow c =>
    unfold joinWindowExpires
    split
    · exact keepsOrder_of_spares (((spares_finishLift ..).trans (spares_withLifts ..)).trans (spares_deliverTo ..))
    · exact .refl s
  | grantLapse c =>
    unfold grantLapses
    split
    · exact keepsOrder_of_spares (spares_finishLift ..)
    · exact .refl s
  | reportLapse c =>
    unfold reportLapses
    split
    · exact keepsOrder_of_spares ((spares_withLifts ..).trans (spares_withAttn ..))
    · exact .refl s
  | stale =>
    unfold readingStales
    split
    · exact .refl s
    · exact keepsOrder_reading ..
  | pulse p =>
    unfold pulseEnds
    split
    · exact keepsOrder_of_spares (spares_withAttn ..)
    · exact .refl s

/-- Settles O57: each move keeps the three, so every step does. -/
theorem everyStepKeepsRangesTablesAndHoldList : Obligations.EveryStepKeepsRangesTablesAndHoldList := by
  intro s t hst
  have hmoves := moves_step hst
  exact ⟨hmoves.keep fun h k => k.keepsOrder.values h, hmoves.keep fun h k => k.keepsOrder.tables h,
    hmoves.keep fun h k => k.keepsOrder.hold h⟩

end Sys2Proof.Machine
end

section
namespace Sys2Proof.Machine
open Sys2Proof

/-! ### Work beside the lifts, the items and the compartments

One `aside_` lemma for each operation of the blocks that leaves them; an operation made of others leaves them by
`Aside.trans`. -/

/-- The interval timer runs in the CONTINUOUS mode alone (R92). -/
def ClockKept (e : EvalUnit) : Prop := e.intervalTimer.isSome = true → e.routineMode = .continuous

/-- `t` comes from `s` by work that leaves the lift records, the items, the compartments and the lift checks, and keeps the
interval timer and the two persistent causes as they must be. -/
structure Aside (s t : State) : Prop where
  lifts : t.lifts = s.lifts
  items : t.cond.items = s.cond.items
  comps : t.cond.comps = s.cond.comps
  pending : checkPending t.eval = checkPending s.eval
  running : checkRunning t.eval = checkRunning s.eval
  clock : ClockKept s.eval → ClockKept t.eval
  causes : CausesPersist s → CausesPersist t

theorem Aside.refl (s : State) : Aside s s := ⟨rfl, rfl, rfl, rfl, rfl, id, id⟩

theorem Aside.trans {s t u : State} (h : Aside s t) (k : Aside t u) : Aside s u :=
  ⟨k.lifts.trans h.lifts, k.items.trans h.items, k.comps.trans h.comps, k.pending.trans h.pending,
    k.running.trans h.running, k.clock ∘ h.clock, k.causes ∘ h.causes⟩

/-- The persistent causes rest on the lift records and on the two causes' own pending marks. -/
theorem CausesPersist.of_same {s t : State} (h : CausesPersist s) (hl : t.lifts = s.lifts)
    (ho : ∀ p, Cause.outcomeReady ∈ (t.attn.get p).pending ↔ Cause.outcomeReady ∈ (s.attn.get p).pending)
    (hs : ∀ p, Cause.silentLift ∈ (t.attn.get p).pending ↔ Cause.silentLift ∈ (s.attn.get p).pending) : CausesPersist t := by
  obtain ⟨hc, hp, hb, hsilent⟩ := h
  unfold CausesPersist State.record State.anySilent
  rw [hl]
  exact ⟨fun c => (ho _).trans (hc c), mt (ho .portP).1 hp, mt (ho .portB).1 hb, fun p => (hs p).trans (hsilent p)⟩

/-- The agreement rests on the lifts, the items, the compartments, the lift checks and the two persistent causes. -/
theorem Aside.agree {s t : State} (h : Aside s t) (hs : LiftsAgree s) : LiftsAgree t := by
  obtain ⟨hshaped, hcauses, hpaired, honce, hchecks, hwaiters, hitems, hslung, hloads, hcomps⟩ := hs
  have hrec : t.record = s.record := by unfold State.record; rw [h.lifts]
  have hitem : t.item = s.item := by unfold State.item; rw [h.items]
  have hcomp : t.comp = s.comp := by unfold State.comp; rw [h.comps]
  refine ⟨?_, h.causes hcauses, ?_, ?_, ?_, ?_, ?_, ?_, ?_, h.comps ▸ hcomps⟩
  · unfold LiftsShaped SilentOnlySlung at *
    rwa [hrec, h.lifts]
  · unfold TandemPaired at *
    rwa [hrec]
  · unfold NamedOnce at *
    rwa [hrec]
  · unfold ChecksMatch at *
    rwa [hrec, h.pending, h.running]
  · unfold WaitersOwn at *
    rwa [h.lifts]
  · unfold ItemsShaped at *
    rwa [h.items]
  · unfold SlungOnHooks at *
    rwa [hrec, hitem]
  · unfold LoadsAgree at *
    rwa [hcomp, hitem, h.items]

/-! ### The operations -/

theorem aside_withPorts (s : State) (x : PerPort PortState) : Aside s (s.withPorts x) := ⟨rfl, rfl, rfl, rfl, rfl, id, id⟩

theorem aside_withMon (s : State) (x : Monitor) : Aside s (s.withMon x) := ⟨rfl, rfl, rfl, rfl, rfl, id, id⟩

theorem aside_withTanks (s : State) (x : TankUnit) : Aside s (s.withTanks x) := ⟨rfl, rfl, rfl, rfl, rfl, id, id⟩

theorem aside_withTrials (s : State) (x : Trials) : Aside s (s.withTrials x) := ⟨rfl, rfl, rfl, rfl, rfl, id, id⟩

theorem aside_withShip (s : State) (x : ShipStore) : Aside s (s.withShip x) := ⟨rfl, rfl, rfl, rfl, rfl, id, id⟩

/-- Work on the attention unit that leaves the two persistent causes. -/
theorem aside_withAttn {s : State} {x : PerPort AttnPort}
    (ho : ∀ p, Cause.outcomeReady ∈ (x.get p).pending ↔ Cause.outcomeReady ∈ (s.attn.get p).pending)
    (hs : ∀ p, Cause.silentLift ∈ (x.get p).pending ↔ Cause.silentLift ∈ (s.attn.get p).pending) : Aside s (s.withAttn x) :=
  ⟨rfl, rfl, rfl, rfl, rfl, id, fun h => h.of_same rfl ho hs⟩

/-- A cause other than the two raised on all ports. -/
theorem aside_raiseAll {c : Cause} (ho : c ≠ .outcomeReady) (hs : c ≠ .silentLift) (s : State) : Aside s (raiseAll c s) :=
  aside_withAttn (fun p => by simp [ho.symm]) (fun p => by simp [hs.symm])

/-- Work on one port's attention that leaves its two persistent causes. -/
theorem aside_modifyAttn (s : State) (p : Port) {f : AttnPort → AttnPort} (hf : ∀ a x, x = .outcomeReady ∨ x = .silentLift →
    (x ∈ (f a).pending ↔ x ∈ a.pending)) : Aside s (s.withAttn (s.attn.modify p f)) := by
  have hget (x : Cause) (hx : x = .outcomeReady ∨ x = .silentLift) (r : Port) :
      x ∈ ((s.attn.modify p f).get r).pending ↔ x ∈ (s.attn.get r).pending := by
    by_cases hr : r = p
    · rw [hr, PerPort.get_modify_same]
      exact hf _ x hx
    · rw [PerPort.get_modify_other _ _ _ _ hr]
  exact aside_withAttn (hget _ (.inl rfl)) (hget _ (.inr rfl))

/-- A cause other than the two raised on one port. -/
theorem aside_raiseAt {c : Cause} (ho : c ≠ .outcomeReady) (hs : c ≠ .silentLift) (p : Port) (s : State) :
    Aside s (raiseAt p c s) :=
  aside_modifyAttn s p fun a x hx => by rcases hx with rfl | rfl <;> simp [ho.symm, hs.symm]

theorem aside_answer (q : Caller) (a : Answer) (s : State) : Aside s (answer q a s) := aside_withPorts ..

theorem aside_defer (q : Caller) (s : State) : Aside s (defer q s) := aside_withPorts ..

theorem aside_deliver (q : Caller) (a : Answer) (s : State) : Aside s (deliver q a s) := by
  rw [deliver_eq]
  split
  · exact aside_withPorts ..
  · exact .refl s

theorem aside_deliverTo (q : Option Caller) (a : Answer) (s : State) : Aside s (deliverTo q a s) := by
  cases q with
  | none => exact .refl s
  | some q => exact aside_deliver q a s

/-- Work on the evaluation unit that leaves the lift checks and the interval timer. -/
theorem aside_withEval {s : State} {x : EvalUnit} (h1 : x.slotC1 = s.eval.slotC1) (h2 : x.slotC2 = s.eval.slotC2)
    (he : x.engine = s.eval.engine) (hclock : ClockKept s.eval → ClockKept x) : Aside s (s.withEval x) := by
  refine ⟨rfl, rfl, rfl, ?_, ?_, hclock, id⟩
  · funext c
    cases c
    · show x.slotC1.isSome = s.eval.slotC1.isSome
      rw [h1]
    · show x.slotC2.isSome = s.eval.slotC2.isSome
      rw [h2]
  · funext c
    show checkRunning x c = checkRunning s.eval c
    unfold checkRunning
    rw [he]

theorem aside_raiseRoutine (s : State) : Aside s (raiseRoutine s) := aside_withEval rfl rfl rfl id

theorem aside_triggerRoutine (s : State) : Aside s (triggerRoutine s) := by
  unfold triggerRoutine
  split
  · exact aside_raiseRoutine s
  · exact .refl s

theorem aside_advance (s : State) : Aside s (advance s) :=
  .trans (t := s.withCond { s.cond with version := s.cond.version + 1 }) ⟨rfl, rfl, rfl, rfl, rfl, id, id⟩
    (aside_triggerRoutine _)

theorem aside_startInterval (s : State) : Aside s (startInterval s) := by
  unfold startInterval
  split
  · next hmode => exact aside_withEval rfl rfl rfl fun _ _ => hmode
  · exact .refl s

theorem aside_driveLines (s : State) : Aside s (driveLines s) := ⟨rfl, rfl, rfl, rfl, rfl, id, id⟩

theorem aside_settle (s : State) : Aside s (settle s) := by
  have hdriven := (aside_withMon s { s.mon with effective := effectiveOf s.mon.slots }).trans (aside_driveLines _)
  unfold settle
  dsimp only
  split
  · exact hdriven.trans (aside_raiseAll (by decide) (by decide) _)
  · exact hdriven

theorem aside_settleRise (s : State) : Aside s (settleRise s) := by
  unfold settleRise
  dsimp only
  split
  · exact (aside_settle s).trans (aside_raiseAll (by decide) (by decide) _)
  · exact aside_settle s

theorem aside_changeMode (m : ServiceMode) (r : Option FaultReason) (s : State) : Aside s (changeMode m r s) := by
  have hdriven := (aside_withShip s { s.ship with mode := m, faultReason := r }).trans (aside_driveLines _)
  unfold changeMode
  dsimp only
  split
  · exact hdriven
  · exact hdriven.trans (aside_raiseAll (by decide) (by decide) _)

theorem aside_enterService (s : State) : Aside s (enterService s) :=
  (((aside_withMon s _).trans (aside_raiseRoutine _)).trans (aside_startInterval _)).trans (aside_changeMode ..)

theorem aside_judgeResult (g : Judging) (seq : Nat) (s : State) : Aside s (judgeResult g seq s) := by
  unfold judgeResult
  dsimp only
  split
  · exact (aside_withMon s _).trans (aside_settle _)
  · exact ((aside_withMon s _).trans (aside_settle _)).trans (aside_raiseAll (by decide) (by decide) _)

theorem aside_pulseEnds (p : Port) (s : State) : Aside s (pulseEnds p s) := by
  unfold pulseEnds
  split
  · exact aside_modifyAttn s p fun _ _ _ => Iff.rfl
  · exact .refl s

theorem aside_readingStales (s : State) : Aside s (readingStales s) := by
  unfold readingStales
  split
  · exact .refl s
  · exact aside_withTanks ..

/-! ### The requests -/

theorem aside_takeWriteData (kind index : Nat) (fields : List FieldWord) (q : Caller) (s : State) :
    Aside s (takeWriteData kind index fields q s) := by
  unfold takeWriteData
  split
  · exact aside_answer ..
  · split
    · exact aside_answer ..
    · exact (aside_withShip ..).trans (aside_answer ..)

theorem aside_takeCloseData (w : CheckWord) (q : Caller) (s : State) : Aside s (takeCloseData w q s) := by
  unfold takeCloseData
  split
  · exact aside_answer ..
  · split
    · exact ((aside_withShip ..).trans (aside_changeMode ..)).trans (aside_answer ..)
    · exact (aside_withShip ..).trans (aside_defer ..)

theorem reset_pending (u : List Cause) (m : LineMode) (a : AttnPort) : (AttnPort.reset u m a).pending = a.pending := by
  unfold AttnPort.reset
  split <;> rfl

theorem aside_takeSetAttention (u : List Nat) (m : Option LineMode) (q : Caller) (s : State) :
    Aside s (takeSetAttention u m q s) := by
  unfold takeSetAttention
  split
  · exact aside_answer ..
  · split
    · exact aside_answer ..
    · exact (aside_modifyAttn s q.port fun a x _ => by rw [reset_pending]).trans (aside_answer ..)

/-- A cause that no longer persists is not pending, where the persistent causes are in agreement; so its removal leaves the
two (R188, R191). -/
theorem aside_removed {s : State} {p : Port} {c : Cause} (h : persists s p c = false) : Aside s (removeAt p c s) := by
  refine ⟨rfl, rfl, rfl, rfl, rfl, id, fun hs => ?_⟩
  have hready : c = .outcomeReady → Cause.outcomeReady ∉ (s.attn.get p).pending := by
    rintro rfl
    obtain ⟨hc, hp, hb, -⟩ := hs
    cases p with
    | portP => exact hp
    | portB => exact hb
    | portC1 => exact fun hmem => by simp [persists, craneOf, (hc .crane1).1 hmem] at h
    | portC2 => exact fun hmem => by simp [persists, craneOf, (hc .crane2).1 hmem] at h
  have hsilent : c = .silentLift → Cause.silentLift ∉ (s.attn.get p).pending := by
    rintro rfl hmem
    obtain ⟨-, -, -, hall⟩ := hs
    rw [show persists s p .silentLift = s.anySilent from rfl, (hall p).1 hmem] at h
    cases h
  have hget (x : Cause) (hx : c = x → x ∉ (s.attn.get p).pending) (r : Port) :
      x ∈ ((s.attn.modify p (AttnPort.remove c)).get r).pending ↔ x ∈ (s.attn.get r).pending := by
    by_cases hr : r = p
    · rw [hr, PerPort.get_modify_same, mem_pending_remove]
      exact ⟨fun hmem => hmem.2, fun hmem => ⟨fun heq => hx heq.symm hmem, hmem⟩⟩
    · rw [PerPort.get_modify_other _ _ _ _ hr]
  exact hs.of_same rfl (hget _ hready) (hget _ hsilent)

theorem aside_takeAttentionQuery (q : Caller) (s : State) : Aside s (takeAttentionQuery q s) := by
  refine .trans (t := queried q.port (s.attn.get q.port).head s) ?_ (aside_answer ..)
  unfold queried
  split
  · exact .refl s
  · split
    · exact .refl s
    · next hpersists => exact aside_removed (Bool.not_eq_true _ ▸ hpersists)

theorem aside_takeSetEvaluation (m : Option RoutineMode) (i : Int) (q : Caller) (s : State) :
    Aside s (takeSetEvaluation m i q s) := by
  unfold takeSetEvaluation
  split
  · exact aside_answer ..
  · next m =>
    split
    · exact aside_answer ..
    · refine .trans ?_ (aside_answer ..)
      refine aside_withEval rfl rfl rfl fun _ hrun => ?_
      cases m with
      | continuous => rfl
      | onRequest => cases hrun

theorem aside_takeEvaluateProspect (sc : Option Scope) (q : Caller) (s : State) : Aside s (takeEvaluateProspect sc q s) := by
  unfold takeEvaluateProspect
  split
  · exact aside_answer ..
  · refine .trans ?_ (aside_defer ..)
    exact aside_withEval rfl rfl rfl id

theorem aside_takeSetCriterion (i : Nat) (code : Option Code) (l h n : Int) (a : Option Action) (q : Caller) (s : State) :
    Aside s (takeSetCriterion i code l h n a q s) := by
  unfold takeSetCriterion
  split
  · exact aside_answer ..
  · split
    · exact aside_answer ..
    · exact (((aside_withMon ..).trans (aside_settleRise ..)).trans (aside_triggerRoutine ..)).trans (aside_answer ..)

theorem aside_takeSetRange (a b : Nat) (q : Caller) (s : State) : Aside s (takeSetRange a b q s) := by
  unfold takeSetRange
  split
  · exact aside_answer ..
  · exact (((aside_withMon ..).trans (aside_settle ..)).trans (aside_triggerRoutine ..)).trans (aside_answer ..)

theorem aside_takeResetSlot (i : Nat) (q : Caller) (s : State) : Aside s (takeResetSlot i q s) := by
  unfold takeResetSlot
  split
  · exact aside_answer ..
  · exact ((aside_withMon ..).trans (aside_settle ..)).trans (aside_answer ..)

theorem aside_takeInject (i : Nat) (v : Int) (q : Caller) (s : State) : Aside s (takeInject i v q s) := by
  unfold takeInject
  split
  · exact aside_answer ..
  · exact ((aside_withMon ..).trans (aside_triggerRoutine ..)).trans (aside_answer ..)

theorem aside_takeWithdraw (i : Nat) (q : Caller) (s : State) : Aside s (takeWithdraw i q s) := by
  unfold takeWithdraw
  split
  · exact aside_answer ..
  · exact ((aside_withMon ..).trans (aside_triggerRoutine ..)).trans (aside_answer ..)

theorem aside_takePushTrial (a : LayerArg) (q : Caller) (s : State) : Aside s (takePushTrial a q s) := by
  unfold takePushTrial
  split
  · exact aside_answer ..
  · exact aside_answer ..
  · exact (aside_withTrials ..).trans (aside_answer ..)

theorem aside_takePopTrial (q : Caller) (s : State) : Aside s (takePopTrial q s) := by
  unfold takePopTrial
  split
  · exact aside_answer ..
  · exact (aside_withTrials ..).trans (aside_answer ..)

theorem aside_takeDrafts (aft fwd : Int) (q : Caller) (s : State) : Aside s (takeDrafts aft fwd q s) := by
  unfold takeDrafts
  split
  · exact aside_answer ..
  · exact (aside_withTanks ..).trans (aside_answer ..)

theorem aside_takeDraftZero (q : Caller) (s : State) : Aside s (takeDraftZero q s) := by
  unfold takeDraftZero
  split
  · exact aside_answer ..
  · exact aside_answer ..
  · split
    · exact aside_answer ..
    · exact (aside_withTanks ..).trans (aside_answer ..)

/-- The requests that may write the lifts, the items or the compartments. -/
def writesLiftsOrItems : Request → Bool
  | .openData | .change _ | .liftRequest .. | .joinLift .. | .abortLift | .collectOutcome => true
  | _ => false

/-- Every other request leaves them. -/
theorem aside_serve {r : Request} (h : writesLiftsOrItems r = false) (q : Caller) (s : State) : Aside s (serve r q s) := by
  by_cases hread : onlyReads r = true
  · obtain ⟨a, ha⟩ := serve_reads hread q s
    rw [ha]
    exact aside_answer ..
  · cases r with
    | readLineStatus => exact (aside_answer ..).trans (aside_withPorts ..)
    | attentionQuery => exact aside_takeAttentionQuery q s
    | setAttention u m => exact aside_takeSetAttention u m q s
    | writeData k i fs => exact aside_takeWriteData k i fs q s
    | closeData w => exact aside_takeCloseData w q s
    | evaluateNow => exact (aside_raiseRoutine s).trans (aside_answer ..)
    | setEvaluation m i => exact aside_takeSetEvaluation m i q s
    | evaluateProspect sc => exact aside_takeEvaluateProspect sc q s
    | setCriterion i c l hy n a => exact aside_takeSetCriterion i c l hy n a q s
    | setRange a b => exact aside_takeSetRange a b q s
    | resetSlot i => exact aside_takeResetSlot i q s
    | inject i v => exact aside_takeInject i v q s
    | withdraw i => exact aside_takeWithdraw i q s
    | readAlarms => exact (aside_answer ..).trans (aside_withMon ..)
    | pushTrial l => exact aside_takePushTrial l q s
    | popTrial => exact aside_takePopTrial q s
    | clearTrials => exact (aside_withTrials ..).trans (aside_answer ..)
    | drafts a f => exact aside_takeDrafts a f q s
    | draftZero => exact aside_takeDraftZero q s
    | openData | change | liftRequest | joinLift | abortLift | collectOutcome => cases h
    | _ => exact absurd rfl hread

end Sys2Proof.Machine
end

section
namespace Sys2Proof.Machine
open Sys2Proof

/-! ### What a record carries

The agreement of the records with one another, with the checks and with the items rests on what each carries: its state, its
role and its item's tag while it is active. -/

/-- What an active lift record carries. -/
structure Carry where
  state : LiftState
  role : LiftRole
  tag : Nat

/-- What a record carries; nothing in IDLE and DONE. -/
def carryOf (r : LiftRecord) : Option Carry := if liftActive r = true then r.lift.map (fun l => ⟨r.state, l.role, l.tag⟩) else none

/-- What the record of a crane carries. -/
def State.carry (s : State) (c : Crane) : Option Carry := carryOf (s.record c)

theorem carryOf_eq_some {r : LiftRecord} {v : Carry} : carryOf r = some v ↔
    liftActive r = true ∧ ∃ l, r.lift = some l ∧ v = ⟨r.state, l.role, l.tag⟩ := by
  unfold carryOf
  split
  · next h =>
    simp only [h, true_and, Option.map_eq_some_iff]
    exact exists_congr fun l => and_congr_right fun _ => eq_comm
  · next h => simp [h]

/-- A record carries what its state, its role and its tag say. -/
theorem carryOf_congr {r x : LiftRecord} (hstate : x.state = r.state) (hlift : x.lift.map (fun l => (l.role, l.tag)) =
    r.lift.map (fun l => (l.role, l.tag))) : carryOf x = carryOf r := by
  unfold carryOf liftActive
  rw [hstate]
  congr 1
  cases hx : x.lift <;> cases hr : r.lift <;> simp_all

theorem carryOf_inactive {r : LiftRecord} (h : r.state = .idle ∨ r.state = .done) : carryOf r = none := by
  unfold carryOf liftActive
  rcases h with h | h
  · rw [h]
    rfl
  · rw [h]
    rfl

/-- A record carries its lift in the four active states. -/
theorem carryOf_active {r : LiftRecord} {l : Lift} (hidle : r.state ≠ .idle) (hdone : r.state ≠ .done) (hlift : r.lift = some l) :
    carryOf r = some ⟨r.state, l.role, l.tag⟩ := by
  refine carryOf_eq_some.2 ⟨?_, l, hlift, rfl⟩
  rw [liftActive_iff]
  cases h : r.state <;> simp_all

theorem recordNames_iff {r : LiftRecord} {tag : Nat} : recordNames r tag = true ↔ ∃ v, carryOf r = some v ∧ v.tag = tag := by
  simp only [carryOf_eq_some]
  unfold recordNames
  cases h : r.lift <;> simp

/-- The role of a record that carries a lift. -/
theorem liftRole_of_carry {r : LiftRecord} {v : Carry} (h : carryOf r = some v) : liftRole r = some v.role := by
  obtain ⟨-, l, hl, rfl⟩ := carryOf_eq_some.1 h
  unfold liftRole
  rw [hl]
  rfl

theorem state_of_carry {r : LiftRecord} {v : Carry} (h : carryOf r = some v) : r.state = v.state := by
  obtain ⟨-, l, -, rfl⟩ := carryOf_eq_some.1 h
  rfl

theorem forall_crane {P : Crane → Prop} (c : Crane) : (∀ d, P d) ↔ P c ∧ P (otherCrane c) := by
  cases c
  · exact ⟨fun h => ⟨h _, h _⟩, fun ⟨h, k⟩ d => by cases d <;> assumption⟩
  · exact ⟨fun h => ⟨h _, h _⟩, fun ⟨h, k⟩ d => by cases d <;> assumption⟩

theorem eq_or_eq_other (c d : Crane) : d = c ∨ d = otherCrane c := by cases c <;> cases d <;> simp [otherCrane]

/-! ### Tandem pairs (R123, R129, R132) -/

/-- What a record carries beside what the other does: a partner, which never is JOINING, has the lead of its lift beside it,
a lead past JOINING its partner, and an item that both name is in tandem. -/
def Beside (a b : Option Carry) : Prop := ∀ v, a = some v →
  (v.role = .partner → v.state ≠ .joining ∧ b = some { v with role := .lead }) ∧
  (v.role = .lead → v.state ≠ .joining → b = some { v with role := .partner }) ∧
  (∀ w, b = some w → w.tag = v.tag → v.role = .partner ∨ w.role = .partner)

/-- Two records in order beside each other. -/
def Teamed (a b : Option Carry) : Prop := Beside a b ∧ Beside b a

theorem Teamed.symm {a b : Option Carry} (h : Teamed a b) : Teamed b a := ⟨h.2, h.1⟩

/-- A record that carries nothing that needs the other: no partner, and no lead past JOINING. -/
def Alone (a : Option Carry) : Prop := ∀ v, a = some v → v.role ≠ .partner ∧ (v.role = .lead → v.state = .joining)

theorem alone_none : Alone none := fun _ h => nomatch h

theorem alone_single (st : LiftState) (tag : Nat) : Alone (some ⟨st, .single, tag⟩) := by
  rintro v ⟨⟩
  exact ⟨fun h => (nomatch h), fun h => (nomatch h)⟩

theorem alone_joining (tag : Nat) : Alone (some ⟨.joining, .lead, tag⟩) := by
  rintro v ⟨⟩
  exact ⟨fun h => (nomatch h), fun _ => rfl⟩

/-- Beside a record that is alone the other is alone too, and names another item. -/
theorem teamed_iff_of_alone {a b : Option Carry} (h : Alone a) :
    Teamed a b ↔ Alone b ∧ ∀ v w, a = some v → b = some w → w.tag ≠ v.tag := by
  constructor
  · rintro ⟨hab, hba⟩
    have hb : Alone b := by
      intro w hw
      obtain ⟨hpartner, hlead, -⟩ := hba w hw
      refine ⟨fun hr => ?_, fun hr => by_contra fun hs => ?_⟩
      · obtain ⟨hs, ha⟩ := hpartner hr
        exact hs ((h _ ha).2 rfl)
      · exact (h _ (hlead hr hs)).1 rfl
    exact ⟨hb, fun v w hv hw ht => ((hab v hv).2.2 w hw ht).elim (h v hv).1 (hb w hw).1⟩
  · rintro ⟨hb, htags⟩
    have hbeside {x y : Option Carry} (hx : Alone x) (hne : ∀ v w, x = some v → y = some w → w.tag ≠ v.tag) : Beside x y := by
      intro v hv
      obtain ⟨hpartner, hlead⟩ := hx v hv
      exact ⟨fun hr => absurd hr hpartner, fun hr hs => absurd (hlead hr) hs, fun w hw ht => absurd ht (hne v w hv hw)⟩
    exact ⟨hbeside h htags, hbeside hb fun w v hw hv => (htags v w hv hw).symm⟩

/-- A record that is alone may change to any that is alone and names no other item. -/
theorem Teamed.change {a x b : Option Carry} (h : Teamed a b) (ha : Alone a) (hx : Alone x)
    (htag : ∀ v w, x = some v → b = some w → (∃ u, a = some u ∧ u.tag = v.tag) ∨ w.tag ≠ v.tag) : Teamed x b := by
  obtain ⟨hb, hne⟩ := (teamed_iff_of_alone ha).1 h
  refine (teamed_iff_of_alone hx).2 ⟨hb, fun v w hv hw => ?_⟩
  rcases htag v w hv hw with ⟨u, hu, hut⟩ | hwv
  · exact hut ▸ hne u w hu hw
  · exact hwv

theorem teamed_none : Teamed none none := (teamed_iff_of_alone alone_none).2 ⟨alone_none, fun _ _ h => nomatch h⟩

/-- A lead and its partner, past JOINING, in one state and on one item. -/
theorem teamed_pair {st : LiftState} (h : st ≠ .joining) (tag : Nat) :
    Teamed (some ⟨st, .lead, tag⟩) (some ⟨st, .partner, tag⟩) := by
  constructor
  · rintro v ⟨⟩
    exact ⟨fun hr => (nomatch hr), fun _ _ => rfl, fun w hw _ => by cases hw; exact .inr rfl⟩
  · rintro v ⟨⟩
    exact ⟨fun _ => ⟨h, rfl⟩, fun hr => (nomatch hr), fun w _ _ => .inl rfl⟩

/-- A lift that is led past JOINING has its partner beside it; every other that is no partner is alone. -/
theorem Teamed.lead_or_alone {v : Carry} {b : Option Carry} (h : Teamed (some v) b) (hrole : v.role ≠ .partner) :
    (v.role = .lead ∧ v.state ≠ .joining ∧ b = some { v with role := .partner }) ∨ Alone (some v) := by
  obtain ⟨-, hlead, -⟩ := h.1 v rfl
  by_cases hr : v.role = .lead ∧ v.state ≠ .joining
  · exact .inl ⟨hr.1, hr.2, hlead hr.1 hr.2⟩
  · refine .inr ?_
    rintro w ⟨⟩
    exact ⟨hrole, fun hl => by_contra fun hs => hr ⟨hl, hs⟩⟩

theorem tag_of_carry {r : LiftRecord} {v : Carry} (h : carryOf r = some v) : r.lift.map Lift.tag = some v.tag := by
  obtain ⟨-, l, hl, rfl⟩ := carryOf_eq_some.1 h
  rw [hl]
  rfl

/-- A shaped record that is active carries a lift (R123). -/
theorem LiftRecord.Shaped.carries {r : LiftRecord} (h : r.Shaped) (hactive : liftActive r = true) :
    ∃ l, r.lift = some l ∧ carryOf r = some ⟨r.state, l.role, l.tag⟩ := by
  obtain ⟨⟨-, hlift⟩, -⟩ := h
  obtain ⟨l, hl⟩ := Option.isSome_iff_exists.1 (hlift fun hidle => by simp [liftActive, hidle] at hactive)
  exact ⟨l, hl, carryOf_eq_some.2 ⟨hactive, l, hl, rfl⟩⟩

theorem liftActive_congr {r x : LiftRecord} (h : x.state = r.state) : liftActive x = liftActive r := by
  unfold liftActive
  rw [h]

/-- A record carries what its state, its role and its tag are. -/
theorem carryOf_of {r : LiftRecord} {v : Carry} (hactive : liftActive r = true) (hstate : r.state = v.state)
    (hrole : liftRole r = some v.role) (htag : r.lift.map Lift.tag = some v.tag) : carryOf r = some v := by
  obtain ⟨l, hl, hr⟩ := Option.map_eq_some_iff.1 hrole
  rw [hl] at htag
  refine carryOf_eq_some.2 ⟨hactive, l, hl, ?_⟩
  rw [hstate, hr, Option.some.inj htag]

theorem liftActive_of_carry {r : LiftRecord} {v : Carry} (h : carryOf r = some v) : liftActive r = true :=
  (carryOf_eq_some.1 h).1

/-- Two shaped records are in order beside each other as the pairing and the naming of their items say it. -/
theorem teamed_iff {s : State} (hshaped : ∀ c, (s.record c).Shaped) :
    (∀ c, Teamed (s.carry c) (s.carry (otherCrane c))) ↔ TandemPaired s ∧ NamedOnce s := by
  constructor
  · refine fun h => ⟨fun c => ⟨fun hactive hrole => ?_, fun hactive hrole hstate => ?_⟩, fun tag h1 h2 => ?_⟩
    · obtain ⟨l, -, hv⟩ := (hshaped c).carries hactive
      have hlead := (((h c).1 _ hv).1 (by simpa [liftRole_of_carry hv] using hrole)).2
      exact ⟨state_of_carry hlead, liftRole_of_carry hlead, (tag_of_carry hlead).trans (tag_of_carry hv).symm⟩
    · obtain ⟨l, -, hv⟩ := (hshaped c).carries hactive
      have hpartner := ((h c).1 _ hv).2.1 (by simpa [liftRole_of_carry hv] using hrole) hstate
      exact ⟨state_of_carry hpartner, liftRole_of_carry hpartner⟩
    · obtain ⟨v, hv, rfl⟩ := recordNames_iff.1 h1
      obtain ⟨w, hw, ht⟩ := recordNames_iff.1 h2
      rw [liftRole_of_carry hv, liftRole_of_carry hw, Option.some_inj, Option.some_inj]
      exact ((h .crane1).1 v hv).2.2 w hw ht
  · rintro ⟨hpaired, honce⟩
    have hbeside (c : Crane) : Beside (s.carry c) (s.carry (otherCrane c)) := by
      intro v hv
      have hactive := liftActive_of_carry hv
      have hrole := liftRole_of_carry hv
      have hstate := state_of_carry hv
      obtain ⟨hpartner, hlead⟩ := hpaired c
      refine ⟨fun hr => ?_, fun hr hs => ?_, fun w hw ht => ?_⟩
      · obtain ⟨hsame, hother, htag⟩ := hpartner hactive (hrole.trans (congrArg some hr))
        refine ⟨fun hs => ?_, carryOf_of (by rwa [liftActive_congr hsame]) (hsame.trans hstate) hother (htag.trans (tag_of_carry (v := v) hv))⟩
        obtain ⟨l, hl, hcarry⟩ := (hshaped c).carries hactive
        obtain ⟨-, -, -, hfields⟩ := hshaped c
        obtain ⟨-, -, hjoining, -⟩ := hfields l hl
        have hrl : l.role = v.role := congrArg Carry.role (Option.some.inj (hcarry.symm.trans hv))
        rw [hr, hjoining (hstate.trans hs)] at hrl
        cases hrl
      · obtain ⟨hsame, hother⟩ := hlead hactive (hrole.trans (congrArg some hr)) (hstate ▸ hs)
        have hbothActive : liftActive (s.record (otherCrane c)) = true := by rwa [liftActive_congr hsame]
        obtain ⟨-, -, htag⟩ := (hpaired (otherCrane c)).1 hbothActive hother
        rw [otherCrane_otherCrane] at htag
        exact carryOf_of hbothActive (hsame.trans hstate) hother (htag.symm.trans (tag_of_carry (v := v) hv))
      · have hnames := honce v.tag
        have hv' := recordNames_iff.2 ⟨v, hv, rfl⟩
        have hw' := recordNames_iff.2 ⟨w, hw, ht⟩
        rw [← Option.some_inj, ← hrole, ← Option.some_inj (a := w.role), ← liftRole_of_carry hw]
        cases c with
        | crane1 => exact hnames hv' hw'
        | crane2 => exact (hnames hw' hv').symm
    exact fun c => ⟨hbeside c, by simpa using hbeside (otherCrane c)⟩

end Sys2Proof.Machine
end

section
namespace Sys2Proof.Machine
open Sys2Proof

/-! ### The agreement in parts

The lift side speaks of the records, the checks and the causes, the store side of the items and the compartments, and
`HooksFit` of both. -/

/-- Each record has its shape, is SILENT only when SLUNG, and keeps its outcome record and has OUTCOME READY pending on its
port exactly in DONE (R123, R124, R188). -/
structure UnitFits (s : State) : Prop where
  shaped : ∀ c, (s.record c).Shaped
  silent : SilentOnlySlung s
  ended : ∀ c, (s.lifts.ended.get c).isSome = true ↔ (s.record c).state = .done
  ready : ∀ c, Cause.outcomeReady ∈ (s.attn.get (cranePort c)).pending ↔ (s.record c).state = .done
  readyP : Cause.outcomeReady ∉ s.attn.p.pending
  readyB : Cause.outcomeReady ∉ s.attn.b.pending

/-- SILENT LIFT is pending on every port or on none (R188). -/
def SilenceShown (s : State) (b : Bool) : Prop := ∀ p, Cause.silentLift ∈ (s.attn.get p).pending ↔ b = true

/-- A check waits or runs for what a record carries exactly when that is CHECKING and no partner's (R78, R133). -/
def CheckFits (e : EvalUnit) (c : Crane) (a : Option Carry) : Prop :=
  ((checkPending e c || checkRunning e c) = true ↔ ∃ v, a = some v ∧ v.state = .checking ∧ v.role ≠ .partner) ∧
  (checkPending e c && checkRunning e c) = false

/-- The records, the checks and the causes agree. -/
structure LiftSide (s : State) : Prop where
  unit : UnitFits s
  shown : SilenceShown s s.anySilent
  waiters : WaitersOwn s
  teamed : ∀ c, Teamed (s.carry c) (s.carry (otherCrane c))
  checks : ∀ c, CheckFits s.eval c (s.carry c)

/-- What the records carry is CARGO of the table, SLUNG exactly when the lift is; and a SLUNG item is linked to the record
that made the HOOK ON (R25). -/
def HooksFit (carry : Crane → Option Carry) (item : Nat → Option ItemRecord) : Prop :=
  (∀ c v, carry c = some v → ∃ it, item v.tag = some it ∧ it.kind = .cargo ∧ (it.state = .slung ↔ v.state = .slung)) ∧
  (∀ tag it, item tag = some it → it.state = .slung →
    ∃ c v, it.link = some c ∧ carry c = some v ∧ v.state = .slung ∧ v.tag = tag ∧ v.role ≠ .partner)

/-- The items and the compartments agree. -/
structure StoreSide (s : State) : Prop where
  items : ItemsShaped s
  loads : LoadsAgree s
  comps : s.cond.comps.Rising

theorem unitFits_iff (s : State) : UnitFits s ∧ SilenceShown s s.anySilent ↔ LiftsShaped s ∧ CausesPersist s :=
  ⟨fun ⟨⟨hshaped, hsilent, hended, hready, hp, hb⟩, hshown⟩ => ⟨⟨hshaped, hsilent, hended⟩, hready, hp, hb, hshown⟩,
    fun ⟨⟨hshaped, hsilent, hended⟩, hready, hp, hb, hshown⟩ => ⟨⟨hshaped, hsilent, hended, hready, hp, hb⟩, hshown⟩⟩

/-- A shaped record is CHECKING and no partner's as what it carries is. -/
theorem checking_iff {r : LiftRecord} (h : r.Shaped) : r.state = .checking ∧ liftRole r ≠ some .partner ↔
    ∃ v, carryOf r = some v ∧ v.state = .checking ∧ v.role ≠ .partner := by
  constructor
  · rintro ⟨hstate, hrole⟩
    obtain ⟨l, hl, hv⟩ := h.carries (by simp [liftActive, hstate])
    exact ⟨_, hv, hstate, fun hr => hrole ((liftRole_of_carry hv).trans (congrArg some hr))⟩
  · rintro ⟨v, hv, hstate, hrole⟩
    exact ⟨(state_of_carry hv).trans hstate, fun hr => hrole (Option.some.inj ((liftRole_of_carry hv).symm.trans hr))⟩

theorem checksMatch_iff {s : State} (h : ∀ c, (s.record c).Shaped) : (∀ c, CheckFits s.eval c (s.carry c)) ↔ ChecksMatch s :=
  forall_congr' fun c => and_congr_left fun _ => iff_congr Iff.rfl (checking_iff (h c)).symm

theorem hooksFit_iff (s : State) : HooksFit s.carry s.item ↔ SlungOnHooks s := by
  refine and_congr ⟨fun h c l hactive hl => ?_, fun h c v hv => ?_⟩ (forall_congr' fun tag => forall_congr' fun it =>
    forall_congr' fun _ => forall_congr' fun _ => exists_congr fun c => ⟨?_, ?_⟩)
  · exact h c _ (carryOf_eq_some.2 ⟨hactive, l, hl, rfl⟩)
  · obtain ⟨hactive, l, hl, rfl⟩ := carryOf_eq_some.1 hv
    exact h c l hactive hl
  · rintro ⟨v, hlink, hv, hstate, htag, hrole⟩
    exact ⟨hlink, (state_of_carry hv).trans hstate, recordNames_iff.2 ⟨v, hv, htag⟩,
      fun hr => hrole (Option.some.inj ((liftRole_of_carry hv).symm.trans hr))⟩
  · rintro ⟨hlink, hstate, hnames, hrole⟩
    obtain ⟨v, hv, htag⟩ := recordNames_iff.1 hnames
    exact ⟨v, hlink, hv, (state_of_carry hv).symm.trans hstate, htag,
      fun hr => hrole ((liftRole_of_carry hv).trans (congrArg some hr))⟩

/-- The agreement is that of its parts. -/
theorem liftsAgree_iff (s : State) : LiftsAgree s ↔ LiftSide s ∧ HooksFit s.carry s.item ∧ StoreSide s := by
  constructor
  · rintro ⟨hshaped, hcauses, hpaired, honce, hchecks, hwaiters, hitems, hslung, hloads, hcomps⟩
    obtain ⟨hunit, hshown⟩ := (unitFits_iff s).2 ⟨hshaped, hcauses⟩
    exact ⟨⟨hunit, hshown, hwaiters, (teamed_iff hunit.shaped).2 ⟨hpaired, honce⟩, (checksMatch_iff hunit.shaped).2 hchecks⟩,
      (hooksFit_iff s).2 hslung, hitems, hloads, hcomps⟩
  · rintro ⟨⟨hunit, hshown, hwaiters, hteamed, hchecks⟩, hslung, hitems, hloads, hcomps⟩
    obtain ⟨hshaped, hcauses⟩ := (unitFits_iff s).1 ⟨hunit, hshown⟩
    obtain ⟨hpaired, honce⟩ := (teamed_iff hunit.shaped).1 hteamed
    exact ⟨hshaped, hcauses, hpaired, honce, (checksMatch_iff hunit.shaped).1 hchecks, hwaiters, hitems,
      (hooksFit_iff s).1 hslung, hloads, hcomps⟩

end Sys2Proof.Machine
end

section
namespace Sys2Proof.Machine
open Sys2Proof

/-! ### The shapes of records (R123, R124) -/

/-- The share of a lift is there exactly in a tandem, within its range (R123). -/
def Lift.ShareFits (l : Lift) : Prop := (l.share.isSome = true ↔ l.role ≠ .single) ∧ ∀ n ∈ l.share, 100 ≤ n ∧ n ≤ 900

/-- What the shape of a record says of its lift. -/
theorem LiftRecord.Shaped.lift_fits {r : LiftRecord} {l : Lift} (h : r.Shaped) (hl : r.lift = some l) :
    l.ShareFits ∧ (r.state = .joining → l.role = .lead) ∧ (l.hook = none → l.role = .partner ∧ r.state ≠ .slung) := by
  obtain ⟨-, -, -, hlift⟩ := h
  obtain ⟨hshare, hrange, hjoining, hhook, -⟩ := hlift l hl
  exact ⟨⟨hshare, hrange⟩, hjoining, hhook⟩

/-- A record that holds a lift has its shape when the lift, the timer and the outcome fit its state. -/
theorem shaped_of_lift {r : LiftRecord} {l : Lift} (hl : r.lift = some l) (hshare : l.ShareFits) (hidle : r.state ≠ .idle)
    (houtcome : r.outcome.isSome = true ↔ r.state = .done)
    (htimer : ∀ t ∈ r.timer, timerOf r.state = some t.kind ∧ (l.role = .partner → t.kind = .report))
    (hjoining : r.state = .joining → l.role = .lead) (hhook : l.hook = none → l.role = .partner ∧ r.state ≠ .slung) :
    r.Shaped := by
  obtain ⟨hshare, hrange⟩ := hshare
  refine ⟨⟨fun _ => hidle, fun _ => by rw [hl]; rfl⟩, houtcome, fun t ht => (htimer t ht).1, fun k hk => ?_⟩
  obtain rfl : l = k := Option.some.inj (hl.symm.trans hk)
  exact ⟨hshare, hrange, hjoining, hhook, fun hr t ht => (htimer t ht).2 hr⟩

/-- An IDLE record holds its report alone. -/
theorem shaped_idle (o : Option CheckReport) : LiftRecord.Shaped { LiftRecord.idle with report := o } :=
  ⟨⟨fun h => (nomatch h), fun h => absurd rfl h⟩, ⟨fun h => (nomatch h), fun h => (nomatch h)⟩, fun _ h => (nomatch h),
    fun _ h => (nomatch h)⟩

/-- An outcome is there in DONE alone. -/
theorem LiftRecord.Shaped.outcome_iff {r : LiftRecord} (h : r.Shaped) : r.outcome.isSome = true ↔ r.state = .done := h.2.1

theorem LiftRecord.Shaped.timer_fits {r : LiftRecord} {l : Lift} (h : r.Shaped) (hl : r.lift = some l) :
    ∀ t ∈ r.timer, timerOf r.state = some t.kind ∧ (l.role = .partner → t.kind = .report) := by
  obtain ⟨-, -, htimer, hlift⟩ := h
  obtain ⟨-, -, -, -, hpartner⟩ := hlift l hl
  exact fun t ht => ⟨htimer t ht, fun hr => hpartner hr t ht⟩

/-- The lift of a shaped record that is not IDLE. -/
theorem LiftRecord.Shaped.lift_of {r : LiftRecord} (h : r.Shaped) (hidle : r.state ≠ .idle) : ∃ l, r.lift = some l :=
  Option.isSome_iff_exists.1 (h.1.2 hidle)

/-- A record whose timer has stopped, whether SILENT or not. -/
theorem LiftRecord.Shaped.stopped {r : LiftRecord} (h : r.Shaped) (b : Bool) :
    LiftRecord.Shaped { r with timer := none, silent := b } := by
  obtain ⟨h1, h2, -, hlift⟩ := h
  exact ⟨h1, h2, fun _ ht => (nomatch ht), fun l hl => by
    obtain ⟨ha, hb, hc, hd, -⟩ := hlift l hl
    exact ⟨ha, hb, hc, hd, fun _ _ ht => (nomatch ht)⟩⟩

/-- A record whose timer runs on. -/
theorem LiftRecord.Shaped.ticked {r : LiftRecord} (h : r.Shaped) : (tickTimer r).Shaped := by
  obtain ⟨h1, h2, htimer, hlift⟩ := h
  have hkind (t : RunningTimer) (ht : t ∈ (tickTimer r).timer) : ∃ u ∈ r.timer, u.kind = t.kind := by
    obtain ⟨u, hu, rfl⟩ := Option.map_eq_some_iff.1 ht
    exact ⟨u, hu, rfl⟩
  refine ⟨h1, h2, fun t ht => ?_, fun l hl => ?_⟩
  · obtain ⟨u, hu, hk⟩ := hkind t ht
    exact hk ▸ htimer u hu
  · obtain ⟨ha, hb, hc, hd, he⟩ := hlift l hl
    refine ⟨ha, hb, hc, hd, fun hr t ht => ?_⟩
    obtain ⟨u, hu, hk⟩ := hkind t ht
    exact hk ▸ he hr u hu

/-- A SLUNG record at another hook point, or heard again. -/
theorem LiftRecord.Shaped.slung {r : LiftRecord} {l : Lift} (h : r.Shaped) (hl : r.lift = some l) (q : Option Point)
    (hq : q = none → l.hook ≠ none) {t : Option RunningTimer} (ht : ∀ u ∈ t, u.kind = .report) (houtcome : r.outcome = none)
    (b : Bool) : LiftRecord.Shaped { r with
      state := .slung, lift := some { l with hook := q.or l.hook }, timer := t, silent := b } := by
  obtain ⟨hshare, -, -⟩ := h.lift_fits hl
  refine shaped_of_lift rfl hshare (by simp) ?_ (fun u hu => ⟨congrArg some (ht u hu).symm, fun _ => ht u hu⟩)
    (fun hs => (nomatch hs)) (fun hnone => ?_)
  · show r.outcome.isSome = true ↔ _
    rw [houtcome]
    exact ⟨fun h => (nomatch h), fun h => (nomatch h)⟩
  · exfalso
    cases q with
    | none => exact hq rfl hnone
    | some q => exact nomatch hnone

/-- A record at its entry to DONE. -/
theorem LiftRecord.Shaped.finished {r : LiftRecord} {l : Lift} (h : r.Shaped) (hl : r.lift = some l) (code : OutcomeCode) :
    (finishedRecord code r).Shaped := by
  obtain ⟨hshare, -, hhook⟩ := h.lift_fits hl
  exact shaped_of_lift hl hshare (fun h => (nomatch h)) ⟨fun _ => rfl, fun _ => rfl⟩ (fun _ ht => (nomatch ht))
    (fun hs => (nomatch hs)) (fun hnone => ⟨(hhook hnone).1, fun hs => (nomatch hs)⟩)

/-! ### The records and their outcome marks -/

/-- The records and their marks rest on the records, the outcome records and OUTCOME READY. -/
theorem UnitFits.of_same {s t : State} (h : UnitFits s) (hrec : t.record = s.record) (hended : t.lifts.ended = s.lifts.ended)
    (hready : ∀ p, Cause.outcomeReady ∈ (t.attn.get p).pending ↔ Cause.outcomeReady ∈ (s.attn.get p).pending) : UnitFits t := by
  obtain ⟨h1, h2, h3, h4, h5, h6⟩ := h
  refine ⟨?_, ?_, ?_, fun c => ?_, mt (hready .portP).1 h5, mt (hready .portB).1 h6⟩
  · rwa [hrec]
  · unfold SilentOnlySlung at *
    rwa [hrec]
  · rwa [hrec, hended]
  · rw [hready, hrec]
    exact h4 c

/-- One record written, DONE as before or not. -/
theorem UnitFits.setRecord {s : State} (h : UnitFits s) {c : Crane} {r : LiftRecord} (hr : r.Shaped)
    (hsilent : r.silent = true → r.state = .slung) (hdone : r.state = .done ↔ (s.record c).state = .done) :
    UnitFits (s.setRecord c r) := by
  obtain ⟨h1, h2, h3, h4, h5, h6⟩ := h
  refine ⟨fun d => ?_, fun d => ?_, fun d => ?_, fun d => ?_, h5, h6⟩
  all_goals rw [record_setRecord]; split
  · exact hr
  · exact h1 d
  · exact hsilent
  · exact h2 d
  · next hd => rw [hdone, ← hd]; exact h3 d
  · exact h3 d
  · next hd => rw [hdone, ← hd]; exact h4 d
  · exact h4 d

theorem PerCrane.get_set {α : Type} (m : PerCrane α) (c d : Crane) (a : α) :
    (m.set c a).get d = if d = c then a else m.get d := by
  cases c <;> cases d <;> rfl

theorem record_finishOne {s : State} {c : Crane} {l : Lift} (code : OutcomeCode) (final : Option Goal) (mass : Int)
    (hl : (s.record c).lift = some l) (d : Crane) :
    (finishOne code final mass c s).record d = if d = c then finishedRecord code (s.record c) else s.record d := by
  rw [finishOne_eq code final mass hl]
  exact PerCrane.get_set ..

theorem ended_finishOne {s : State} {c : Crane} {l : Lift} (code : OutcomeCode) (final : Option Goal) (mass : Int)
    (hl : (s.record c).lift = some l) (d : Crane) : (finishOne code final mass c s).lifts.ended.get d =
      if d = c then some ⟨mass, final.getD l.origin⟩ else s.lifts.ended.get d := by
  rw [finishOne_eq code final mass hl]
  exact PerCrane.get_set ..

/-- The end of one record raises OUTCOME READY on its port. -/
theorem mem_attn_finishOne {s : State} {c : Crane} {l : Lift} (code : OutcomeCode) (final : Option Goal) (mass : Int)
    (hl : (s.record c).lift = some l) (p : Port) (x : Cause) :
    x ∈ ((finishOne code final mass c s).attn.get p).pending ↔
      (x = .outcomeReady ∧ p = cranePort c) ∨ x ∈ (s.attn.get p).pending := by
  rw [finishOne_eq code final mass hl]
  show x ∈ ((s.attn.modify (cranePort c) (AttnPort.raise .outcomeReady)).get p).pending ↔ _
  rw [PerPort.get_modify]
  split
  · next hp => simp [hp]
  · next hp => simp [hp]

theorem cranePort_inj {c d : Crane} : cranePort d = cranePort c ↔ d = c := by
  cases c <;> cases d <;> simp [cranePort]

/-- A record enters DONE: its outcome record is kept and OUTCOME READY is pending on its port (R124, R188). -/
theorem UnitFits.finishOne {s : State} (h : UnitFits s) {c : Crane} {l : Lift} (hl : (s.record c).lift = some l)
    (code : OutcomeCode) (final : Option Goal) (mass : Int) : UnitFits (finishOne code final mass c s) := by
  obtain ⟨h1, h2, h3, h4, h5, h6⟩ := h
  have hrec := record_finishOne code final mass hl
  have hready (p : Port) := mem_attn_finishOne code final mass hl p .outcomeReady
  refine ⟨fun d => ?_, fun d => ?_, fun d => ?_, fun d => ?_, ?_, ?_⟩
  · rw [hrec]
    split
    · exact (h1 c).finished hl code
    · exact h1 d
  · rw [hrec]
    split
    · exact fun hs => (nomatch hs)
    · exact h2 d
  · rw [hrec, ended_finishOne code final mass hl]
    split
    · exact ⟨fun _ => rfl, fun _ => rfl⟩
    · exact h3 d
  · rw [hrec, hready, cranePort_inj]
    by_cases hd : d = c
    · rw [if_pos hd]
      exact ⟨fun _ => rfl, fun _ => .inl ⟨rfl, hd⟩⟩
    · rw [if_neg hd, ← h4 d]
      exact or_iff_right fun hx => hd hx.2
  · refine mt (hready .portP).1 (not_or.2 ⟨fun hx => ?_, h5⟩)
    cases c <;> cases hx.2
  · refine mt (hready .portB).1 (not_or.2 ⟨fun hx => ?_, h6⟩)
    cases c <;> cases hx.2

/-- A record that was DONE returns to IDLE with nothing kept, and OUTCOME READY goes from its port (R124, R146, R188). -/
theorem UnitFits.returnIdle {s : State} (h : UnitFits s) (c : Crane) :
    UnitFits (removeAt (cranePort c) .outcomeReady (returnIdle c s)) := by
  obtain ⟨h1, h2, h3, h4, h5, h6⟩ := h
  have hrec (d : Crane) : (removeAt (cranePort c) .outcomeReady (Machine.returnIdle c s)).record d =
      if d = c then idleRecord (s.record c) else s.record d := PerCrane.get_set ..
  have hended (d : Crane) : (removeAt (cranePort c) .outcomeReady (Machine.returnIdle c s)).lifts.ended.get d =
      if d = c then none else s.lifts.ended.get d := PerCrane.get_set ..
  have hready (p : Port) : Cause.outcomeReady ∈ ((removeAt (cranePort c) .outcomeReady (Machine.returnIdle c s)).attn.get p).pending ↔
      p ≠ cranePort c ∧ Cause.outcomeReady ∈ (s.attn.get p).pending := by
    show Cause.outcomeReady ∈ ((s.attn.modify (cranePort c) (AttnPort.remove .outcomeReady)).get p).pending ↔ _
    rw [PerPort.get_modify]
    split
    · next hp => simp [hp]
    · next hp => simp [hp]
  refine ⟨fun d => ?_, fun d => ?_, fun d => ?_, fun d => ?_, mt (hready .portP).1 (not_and.2 fun _ => h5),
    mt (hready .portB).1 (not_and.2 fun _ => h6)⟩
  · rw [hrec]
    split
    · exact shaped_idle _
    · exact h1 d
  · rw [hrec]
    split
    · exact fun hs => (nomatch hs)
    · exact h2 d
  · rw [hrec, hended]
    split
    · exact ⟨fun hs => (nomatch hs), fun hs => (nomatch hs)⟩
    · exact h3 d
  · rw [hrec, hready, Ne, cranePort_inj]
    split
    · next hd => exact ⟨fun hx => absurd hd hx.1, fun hs => (nomatch hs)⟩
    · next hd => exact (and_iff_right hd).trans (h4 d)

/-! ### The SILENT marks (R188) -/

/-- The end of a silence shows on every port that the last mark has gone. -/
theorem silenceShown_endSilence {b t : State} (h : SilenceShown t b.anySilent) (hmarks : t.anySilent = true → b.anySilent = true) :
    SilenceShown (endSilence b t) (endSilence b t).anySilent := by
  rw [endSilence_eq]
  intro p
  show Cause.silentLift ∈ (PerPort.get (if b.anySilent && !t.anySilent then t.attn.map (AttnPort.remove .silentLift)
    else t.attn) p).pending ↔ t.anySilent = true
  have hp := h p
  split
  · next hcond =>
    rw [PerPort.get_map, mem_pending_remove]
    cases ht : t.anySilent
    · simp
    · simp [ht] at hcond
  · next hcond =>
    rw [hp]
    cases ht : t.anySilent <;> cases hb : b.anySilent <;> simp_all

theorem UnitFits.endSilence {t : State} (h : UnitFits t) (b : State) : UnitFits (endSilence b t) := by
  rw [endSilence_eq]
  refine h.of_same rfl rfl fun p => ?_
  show Cause.outcomeReady ∈ (PerPort.get (if b.anySilent && !t.anySilent then t.attn.map (AttnPort.remove .silentLift)
    else t.attn) p).pending ↔ _
  split
  · simp
  · exact Iff.rfl

/-- Some record is SILENT after one has been written only when it is or one was. -/
theorem anySilent_of_setRecord {s : State} {c : Crane} {r : LiftRecord} (h : r.silent = true → (s.record c).silent = true) :
    (s.setRecord c r).anySilent = true → s.anySilent = true := by
  rw [anySilent_setRecord, anySilent_eq s c, Bool.or_eq_true, Bool.or_eq_true]
  exact Or.imp_left h

end Sys2Proof.Machine
end

section
namespace Sys2Proof.Machine
open Sys2Proof

/-! ### Crews

The records of a tandem move together (R132); what a move does to the carries is said once for both kinds of crew. -/

/-- The crew `cs` of the record of `c`, which carries `v`: with its partner when it leads one, and else by itself. -/
inductive IsCrew (carry : Crane → Option Carry) (c : Crane) (v : Carry) : List Crane → Prop
  | pair (hown : carry c = some v) (hrole : v.role = .lead) (hstate : v.state ≠ .joining)
      (hbeside : carry (otherCrane c) = some { v with role := .partner }) : IsCrew carry c v [c, otherCrane c]
  | one (hown : carry c = some v) (halone : Alone (some v)) : IsCrew carry c v [c]

/-- A carry in another state, or ended. -/
def Carry.moved (o : Option LiftState) (v : Carry) : Option Carry := o.map (fun st => { v with state := st })

/-- The carries after a crew has moved. -/
def crewMoved (carry : Crane → Option Carry) (cs : List Crane) (o : Option LiftState) (d : Crane) : Option Carry :=
  if d ∈ cs then (carry d).bind (Carry.moved o) else carry d

variable {carry : Crane → Option Carry} {c : Crane} {v : Carry} {cs : List Crane}

theorem IsCrew.own (h : IsCrew carry c v cs) : carry c = some v := by
  cases h <;> assumption

theorem IsCrew.own_mem (h : IsCrew carry c v cs) : c ∈ cs := by
  cases h <;> exact List.mem_cons_self

theorem IsCrew.role (h : IsCrew carry c v cs) : v.role ≠ .partner := by
  cases h with
  | pair _ hrole => rw [hrole]; decide
  | one _ halone => exact (halone v rfl).1

/-- Every record of a crew carries the same item in the same state, as a partner unless it is the crew's own. -/
theorem IsCrew.carries (h : IsCrew carry c v cs) {d : Crane} (hd : d ∈ cs) :
    ∃ w, carry d = some w ∧ w.state = v.state ∧ w.tag = v.tag ∧ (d ≠ c → w.role = .partner) := by
  cases h with
  | pair hown _ _ hbeside =>
    rcases List.mem_pair.1 hd with rfl | rfl
    · exact ⟨v, hown, rfl, rfl, fun hne => absurd rfl hne⟩
    · exact ⟨_, hbeside, rfl, rfl, fun _ => rfl⟩
  | one hown _ =>
    obtain rfl := List.mem_singleton.1 hd
    exact ⟨v, hown, rfl, rfl, fun hne => absurd rfl hne⟩

/-- No record beside a crew names its item. -/
theorem IsCrew.tag_ne (h : IsCrew carry c v cs) (hteamed : ∀ d, Teamed (carry d) (carry (otherCrane d))) {d : Crane} (hd : d ∉ cs)
    {w : Carry} (hw : carry d = some w) : w.tag ≠ v.tag := by
  cases h with
  | pair => exact absurd (List.mem_pair.2 (eq_or_eq_other c d)) hd
  | one hown halone =>
    obtain rfl : d = otherCrane c := (eq_or_eq_other c d).resolve_left fun hdc => hd (List.mem_singleton.2 hdc)
    have hbeside := hteamed c
    rw [hown] at hbeside
    exact ((teamed_iff_of_alone halone).1 hbeside).2 v w rfl hw

/-- The records stay in order beside each other when a crew moves together. -/
theorem IsCrew.teamed (h : IsCrew carry c v cs) (hteamed : ∀ d, Teamed (carry d) (carry (otherCrane d))) {o : Option LiftState}
    (ho : o ≠ some .joining) (hjoining : v.state = .joining → o = none) :
    ∀ d, Teamed (crewMoved carry cs o d) (crewMoved carry cs o (otherCrane d)) := by
  suffices hc : Teamed (crewMoved carry cs o c) (crewMoved carry cs o (otherCrane c)) by
    refine (forall_crane c).2 ⟨hc, ?_⟩
    rw [otherCrane_otherCrane]
    exact hc.symm
  unfold crewMoved
  cases h with
  | pair hown hrole hstate hbeside =>
    rw [if_pos List.mem_cons_self, if_pos (by simp), hown, hbeside]
    cases o with
    | none => exact teamed_none
    | some st =>
      obtain ⟨vst, vrole, vtag⟩ := v
      obtain rfl : vrole = .lead := hrole
      exact teamed_pair (fun hj => ho (congrArg some hj)) vtag
  | one hown halone =>
    have hc := hteamed c
    rw [hown] at hc
    rw [if_pos List.mem_cons_self, if_neg (by simp), hown]
    cases o with
    | none => exact hc.change halone alone_none fun _ _ hw => nomatch hw
    | some st =>
      refine hc.change halone ?_ fun x w hx _ => ?_
      · rintro x ⟨⟩
        exact ⟨(halone v rfl).1, fun hr => nomatch hjoining ((halone v rfl).2 hr)⟩
      · cases hx
        exact .inl ⟨v, rfl, rfl⟩

/-- The checks fit the carries still when a crew that was not CHECKING moves to a state that is not. -/
theorem IsCrew.checks (h : IsCrew carry c v cs) {e : EvalUnit} (hfit : ∀ d, CheckFits e d (carry d)) (hv : v.state ≠ .checking)
    {o : Option LiftState} (ho : o ≠ some .checking) (d : Crane) : CheckFits e d (crewMoved carry cs o d) := by
  unfold crewMoved
  split
  · next hd =>
    obtain ⟨w, hw, hstate, -⟩ := h.carries hd
    obtain ⟨hiff, hboth⟩ := hfit d
    refine ⟨hiff.trans ⟨?_, ?_⟩, hboth⟩
    · rintro ⟨x, hx, hs, -⟩
      obtain rfl := Option.some.inj (hw.symm.trans hx)
      exact absurd (hstate.symm.trans hs) hv
    · rw [hw]
      rintro ⟨x, hx, hs, -⟩
      obtain ⟨st, rfl, rfl⟩ := Option.map_eq_some_iff.1 hx
      exact absurd (congrArg some hs) ho
  · exact hfit d

/-- The checks fit the carries when a CHECKING crew's own check has ended, with its engine free. -/
theorem IsCrew.checked (h : IsCrew carry c v cs) {e : EvalUnit} (hfit : ∀ d, CheckFits e d (carry d))
    (hrunning : ∀ d, checkRunning e d = (c == d)) {o : Option LiftState} (ho : o ≠ some .checking) (d : Crane) :
    CheckFits { e with engine := none } d (crewMoved carry cs o d) := by
  have hidle : checkRunning { e with engine := none } d = false := rfl
  have hpending : checkPending { e with engine := none } d = checkPending e d := by cases d <;> rfl
  obtain ⟨hiff, hboth⟩ := hfit d
  rw [hrunning] at hiff hboth
  refine ⟨?_, by rw [hidle, Bool.and_false]⟩
  rw [hidle, hpending, Bool.or_false]
  unfold crewMoved
  split
  · next hd =>
    obtain ⟨w, hw, -, -, hpartner⟩ := h.carries hd
    have hnone : checkPending e d = false := by
      by_cases hdc : d = c
      · rw [hdc, beq_self_eq_true, Bool.and_true] at hboth
        rw [hdc, hboth]
      · refine Bool.eq_false_iff.2 fun hp => ?_
        rw [hp, Bool.true_or] at hiff
        obtain ⟨x, hx, -, hr⟩ := hiff.1 rfl
        obtain rfl := Option.some.inj (hw.symm.trans hx)
        exact hr (hpartner hdc)
    rw [hnone, hw]
    refine ⟨fun hf => (nomatch hf), ?_⟩
    rintro ⟨x, hx, hs, -⟩
    obtain ⟨st, rfl, rfl⟩ := Option.map_eq_some_iff.1 hx
    exact absurd (congrArg some hs) ho
  · next hd =>
    have hne : (c == d) = false := beq_eq_false_iff_ne.2 fun hcd => hd (hcd ▸ h.own_mem)
    rwa [hne, Bool.or_false] at hiff

/-- The items fit the carries when a crew that has nothing on its hooks moves to a state in which it has not. -/
theorem IsCrew.hooks (h : IsCrew carry c v cs) {item : Nat → Option ItemRecord} (hfit : HooksFit carry item)
    (hv : v.state ≠ .slung) {o : Option LiftState} (ho : o ≠ some .slung) : HooksFit (crewMoved carry cs o) item := by
  obtain ⟨hcarried, hhung⟩ := hfit
  refine ⟨fun d w hw => ?_, fun tag it hit hs => ?_⟩
  · unfold crewMoved at hw
    split at hw
    · next hd =>
      obtain ⟨x, hx, hstate, -⟩ := h.carries hd
      rw [hx] at hw
      obtain ⟨st, rfl, rfl⟩ := Option.map_eq_some_iff.1 hw
      obtain ⟨it, hit, hkind, hslung⟩ := hcarried d x hx
      exact ⟨it, hit, hkind, fun hs => absurd (hstate.symm.trans (hslung.1 hs)) hv, fun hs => absurd (congrArg some hs) ho⟩
    · exact hcarried d w hw
  · obtain ⟨d, w, hlink, hw, hstate, htag, hrole⟩ := hhung tag it hit hs
    refine ⟨d, w, hlink, ?_, hstate, htag, hrole⟩
    unfold crewMoved
    rw [if_neg fun hd => ?_]
    · exact hw
    · obtain ⟨x, hx, hxstate, -⟩ := h.carries hd
      obtain rfl := Option.some.inj (hw.symm.trans hx)
      exact hv (hxstate.symm.trans hstate)

/-- The items fit the carries when a crew is SLUNG and its item with it, linked to the crew's own record (R138). -/
theorem IsCrew.hooks_slung (h : IsCrew carry c v cs) (hteamed : ∀ d, Teamed (carry d) (carry (otherCrane d)))
    {item item' : Nat → Option ItemRecord} (hfit : HooksFit carry item) {it : ItemRecord} (hit : item v.tag = some it)
    (hitem : ∀ j, item' j = if j = v.tag then some { it with state := .slung, actual := none, link := some c } else item j) :
    HooksFit (crewMoved carry cs (some .slung)) item' := by
  obtain ⟨hcarried, hhung⟩ := hfit
  have howner : crewMoved carry cs (some .slung) c = some { v with state := .slung } := by
    unfold crewMoved
    rw [if_pos h.own_mem, h.own]
    rfl
  refine ⟨fun d w hw => ?_, fun tag k hk hs => ?_⟩
  · unfold crewMoved at hw
    split at hw
    · next hd =>
      obtain ⟨x, hx, -, htag, -⟩ := h.carries hd
      rw [hx] at hw
      obtain rfl := Option.some.inj hw
      obtain ⟨k, hk, hkind, -⟩ := hcarried c v h.own
      obtain rfl := Option.some.inj (hit.symm.trans hk)
      exact ⟨_, (hitem _).trans (if_pos htag), hkind, fun _ => rfl, fun _ => rfl⟩
    · next hd =>
      obtain ⟨k, hk, hkind, hslung⟩ := hcarried d w hw
      exact ⟨k, ((hitem _).trans (if_neg (h.tag_ne hteamed hd hw))).trans hk, hkind, hslung⟩
  · rw [hitem] at hk
    split at hk
    · next htag =>
      obtain rfl := Option.some.inj hk
      exact ⟨c, _, rfl, howner, rfl, htag.symm, h.role⟩
    · next htag =>
      obtain ⟨d, w, hlink, hw, hstate, hwtag, hrole⟩ := hhung tag k hk hs
      refine ⟨d, w, hlink, ?_, hstate, hwtag, hrole⟩
      unfold crewMoved
      rw [if_neg fun hd => ?_]
      · exact hw
      · obtain ⟨x, hx, -, hxtag, -⟩ := h.carries hd
        obtain rfl := Option.some.inj (hw.symm.trans hx)
        exact htag (hwtag.symm.trans hxtag)

/-- The items fit the carries when a crew has ended and its item hangs on it no more (R144). -/
theorem IsCrew.hooks_ended (h : IsCrew carry c v cs) (hteamed : ∀ d, Teamed (carry d) (carry (otherCrane d)))
    {item item' : Nat → Option ItemRecord} (hfit : HooksFit carry item)
    (hown : ∀ it, item' v.tag = some it → it.state ≠ .slung)
    (hitem : ∀ j, j ≠ v.tag → (item' j).map (fun it => (it.kind, it.state, it.link)) =
      (item j).map (fun it => (it.kind, it.state, it.link))) : HooksFit (crewMoved carry cs none) item' := by
  obtain ⟨hcarried, hhung⟩ := hfit
  refine ⟨fun d w hw => ?_, fun tag k hk hs => ?_⟩
  · unfold crewMoved at hw
    split at hw
    · next hd =>
      obtain ⟨x, hx, -⟩ := h.carries hd
      rw [hx] at hw
      cases hw
    · next hd =>
      obtain ⟨k, hk, hkind, hslung⟩ := hcarried d w hw
      have hsame := hitem w.tag (h.tag_ne hteamed hd hw)
      rw [hk] at hsame
      obtain ⟨k', hk', heq⟩ := Option.map_eq_some_iff.1 hsame
      simp only [Prod.mk.injEq] at heq
      obtain ⟨hkind', hstate', -⟩ := heq
      exact ⟨k', hk', hkind'.trans hkind, hstate' ▸ hslung⟩
  · have htag : tag ≠ v.tag := fun htag => hown k (htag ▸ hk) hs
    have hsame := hitem tag htag
    rw [hk] at hsame
    obtain ⟨k', hk', heq⟩ := Option.map_eq_some_iff.1 hsame.symm
    simp only [Prod.mk.injEq] at heq
    obtain ⟨-, hstate', hlink'⟩ := heq
    obtain ⟨d, w, hlink, hw, hstate, hwtag, hrole⟩ := hhung tag k' hk' (hstate'.trans hs)
    refine ⟨d, w, hlink'.symm.trans hlink, ?_, hstate, hwtag, hrole⟩
    unfold crewMoved
    rw [if_neg fun hd => ?_]
    · exact hw
    · obtain ⟨x, hx, -, hxtag, -⟩ := h.carries hd
      obtain rfl := Option.some.inj (hw.symm.trans hx)
      exact htag (hwtag.symm.trans hxtag)

/-- The crew of a record that carries a lift and is no partner is the one that moves with it. -/
theorem isCrew_crew {s : State} (h : LiftSide s) {c : Crane} {v : Carry} (hv : s.carry c = some v) (hrole : v.role ≠ .partner) :
    IsCrew s.carry c v (s.crew c) := by
  have hteamed := h.teamed c
  rw [hv] at hteamed
  have hrec := liftRole_of_carry hv
  have hstate := state_of_carry hv
  rw [crew_eq]
  rcases hteamed.lead_or_alone hrole with ⟨hlead, hjoining, hbeside⟩ | halone
  · rw [if_pos ((ledTandem_iff s c).2 ⟨hrec.trans (congrArg some hlead), liftRole_of_carry hbeside,
      (state_of_carry hbeside).trans hstate.symm⟩)]
    exact .pair hv hlead hjoining hbeside
  · rw [if_neg fun hled => ?_]
    · exact .one hv halone
    · obtain ⟨-, hpartner, hsame⟩ := (ledTandem_iff s c).1 hled
      have hactive : liftActive (s.record (otherCrane c)) = true := (liftActive_congr hsame).trans (liftActive_of_carry hv)
      obtain ⟨l, -, hw⟩ := (h.unit.shaped (otherCrane c)).carries hactive
      have hbeside := ((teamed_iff_of_alone halone).1 hteamed).1 _ hw
      exact hbeside.1 (Option.some.inj ((liftRole_of_carry hw).symm.trans hpartner))

end Sys2Proof.Machine
end

section
namespace Sys2Proof.Machine
open Sys2Proof

/-! ### One move of a crew -/

theorem carry_setRecord (s : State) (c d : Crane) (r : LiftRecord) :
    (s.setRecord c r).carry d = if d = c then carryOf r else s.carry d := by
  unfold State.carry
  rw [record_setRecord]
  split <;> rfl

theorem carry_of_lifts {s t : State} (h : t.lifts = s.lifts) : t.carry = s.carry := by
  unfold State.carry State.record
  rw [h]

/-- `t` comes from `s` by a move of the records of `cs` alone, which leaves none of them SILENT. -/
structure CrewStep (cs : List Crane) (o : Option LiftState) (s t : State) : Prop where
  unit : UnitFits t
  shown : ∀ b, SilenceShown s b → SilenceShown t b
  waiters : WaitersOwn s → WaitersOwn t
  others : ∀ d, d ∉ cs → t.record d = s.record d
  quiet : ∀ d ∈ cs, (t.record d).silent = false
  moved : ∀ d ∈ cs, t.carry d = (s.carry d).bind (Carry.moved o)
  eval : t.eval = s.eval
  cond : t.cond = s.cond

theorem CrewStep.carry {cs : List Crane} {o : Option LiftState} {s t : State} (h : CrewStep cs o s t) :
    t.carry = crewMoved s.carry cs o := by
  funext d
  unfold crewMoved
  split
  · next hd => exact h.moved d hd
  · next hd => exact congrArg carryOf (h.others d hd)

/-- Two cranes' moves, one after the other. -/
theorem CrewStep.both {c d : Crane} {o : Option LiftState} {s t u : State} (h : CrewStep [c] o s t) (k : CrewStep [d] o t u)
    (hne : c ≠ d) : CrewStep [c, d] o s u where
  unit := k.unit
  shown b hb := k.shown b (h.shown b hb)
  waiters hw := k.waiters (h.waiters hw)
  others e he := by
    obtain ⟨hec, hed⟩ := not_or.1 (mt List.mem_pair.2 he)
    rw [k.others e (mt List.mem_singleton.1 hed), h.others e (mt List.mem_singleton.1 hec)]
  quiet e he := by
    rcases List.mem_pair.1 he with rfl | rfl
    · rw [k.others e (mt List.mem_singleton.1 hne)]
      exact h.quiet e List.mem_cons_self
    · exact k.quiet e List.mem_cons_self
  moved e he := by
    rcases List.mem_pair.1 he with rfl | rfl
    · rw [State.carry, k.others e (mt List.mem_singleton.1 hne)]
      exact h.moved e List.mem_cons_self
    · rw [k.moved e List.mem_cons_self, State.carry, h.others e (mt List.mem_singleton.1 hne.symm)]
      rfl
  eval := k.eval.trans h.eval
  cond := k.cond.trans h.cond

/-- The marks that are left are those of the other records. -/
theorem CrewStep.marks {cs : List Crane} {o : Option LiftState} {s t : State} (h : CrewStep cs o s t)
    (hsilent : t.anySilent = true) : s.anySilent = true := by
  have hone (d : Crane) (hd : (t.record d).silent = true) : (s.record d).silent = true := by
    by_cases hmem : d ∈ cs
    · rw [h.quiet d hmem] at hd
      cases hd
    · rwa [← h.others d hmem]
  rw [anySilent_eq _ .crane1, Bool.or_eq_true] at *
  exact hsilent.imp (hone _) (hone _)

/-- A crew that was not SILENT leaves the marks as they were. -/
theorem CrewStep.same_marks {cs : List Crane} {o : Option LiftState} {s t : State} (h : CrewStep cs o s t)
    (hquiet : ∀ d ∈ cs, (s.record d).silent = false) : t.anySilent = s.anySilent := by
  have hone (d : Crane) : (t.record d).silent = (s.record d).silent := by
    by_cases hmem : d ∈ cs
    · rw [h.quiet d hmem, hquiet d hmem]
    · rw [h.others d hmem]
  rw [anySilent_eq _ .crane1, anySilent_eq s .crane1, hone, hone]

/-- A move of each crane of a crew is a move of the crew. -/
theorem IsCrew.steps {s : State} {c : Crane} {v : Carry} {cs : List Crane} (h : IsCrew s.carry c v cs) (hunit : UnitFits s)
    {o : Option LiftState} {f : State → Crane → State} (hf : ∀ t d w, UnitFits t → t.carry d = some w → w.state = v.state →
      (d = c → w.role ≠ .partner) → CrewStep [d] o t (f t d)) : CrewStep cs o s (cs.foldl f s) := by
  have hown := hf s c v hunit h.own rfl fun _ => h.role
  cases h with
  | one => exact hown
  | pair _ _ _ hbeside =>
    have hother : (f s c).carry (otherCrane c) = some { v with role := .partner } :=
      (congrArg carryOf (hown.others _ (by simp))).trans hbeside
    exact hown.both (hf _ _ _ hown.unit hother rfl fun he => absurd he (otherCrane_ne c)) (otherCrane_ne c).symm

/-- The end of one record is its move out of the active states. -/
theorem crewStep_finishOne {s : State} {d : Crane} {w : Carry} (hunit : UnitFits s) (hw : s.carry d = some w)
    (code : OutcomeCode) (final : Option Goal) (mass : Int) : CrewStep [d] none s (finishOne code final mass d s) := by
  obtain ⟨-, l, hl, -⟩ := carryOf_eq_some.1 hw
  have hrec := record_finishOne code final mass hl
  refine ⟨hunit.finishOne hl code final mass, fun b hb p => ?_, fun hwait => ?_, fun e he => ?_, fun e he => ?_, fun e he => ?_,
    ?_, ?_⟩
  · rw [mem_attn_finishOne code final mass hl, ← hb p]
    exact or_iff_right fun hx => nomatch hx.1
  · unfold WaitersOwn at *
    rwa [finishOne_eq code final mass hl]
  · rw [hrec, if_neg (mt List.mem_singleton.2 he)]
  · rw [hrec, if_pos (List.mem_singleton.1 he)]
    rfl
  · rw [State.carry, hrec, if_pos (List.mem_singleton.1 he), carryOf_inactive (.inr rfl)]
    cases s.carry e <;> rfl
  · rw [finishOne_eq code final mass hl]
  · rw [finishOne_eq code final mass hl]

/-- Another end of the SILENT marks leaves the lift unit, the evaluation unit and the condition. -/
theorem endSilence_same (b s : State) : (endSilence b s).lifts = s.lifts ∧ (endSilence b s).eval = s.eval ∧
    (endSilence b s).cond = s.cond := by
  rw [endSilence_eq]
  exact ⟨rfl, rfl, rfl⟩

/-- A crew that is not CHECKING enters DONE together, and the SILENT marks end with it (R124, R132, R188). -/
theorem liftSide_finishLift {s : State} {c : Crane} {v : Carry} {cs : List Crane} (h : LiftSide s)
    (hcrew : IsCrew s.carry c v cs) (hv : v.state ≠ .checking) (code : OutcomeCode) (final : Option Goal) (mass : Int) :
    LiftSide (finishLift code final mass cs s) ∧ (finishLift code final mass cs s).carry = crewMoved s.carry cs none := by
  have hstep : CrewStep cs none s (cs.foldl (fun t d => finishOne code final mass d t) s) :=
    hcrew.steps h.unit fun t d w ht hw _ _ => crewStep_finishOne ht hw code final mass
  obtain ⟨hlifts, heval, -⟩ := endSilence_same s (cs.foldl (fun t d => finishOne code final mass d t) s)
  have hcarry : (finishLift code final mass cs s).carry = crewMoved s.carry cs none :=
    (carry_of_lifts hlifts).trans hstep.carry
  refine ⟨⟨hstep.unit.endSilence s, silenceShown_endSilence (hstep.shown _ h.shown) hstep.marks, ?_, ?_, fun d => ?_⟩, hcarry⟩
  · have hwaiters := hstep.waiters h.waiters
    unfold finishLift WaitersOwn at *
    rwa [hlifts]
  · rw [hcarry]
    exact hcrew.teamed h.teamed (by simp) fun _ => rfl
  · rw [hcarry, show (finishLift code final mass cs s).eval = s.eval from heval.trans hstep.eval]
    exact hcrew.checks h.checks hv (by simp) d

theorem finishLift_cond {s : State} {c : Crane} {v : Carry} {cs : List Crane} (h : LiftSide s) (hcrew : IsCrew s.carry c v cs)
    (code : OutcomeCode) (final : Option Goal) (mass : Int) : (finishLift code final mass cs s).cond = s.cond := by
  have hstep : CrewStep cs none s (cs.foldl (fun t d => finishOne code final mass d t) s) :=
    hcrew.steps h.unit fun t d w ht hw _ _ => crewStep_finishOne ht hw code final mass
  exact (endSilence_same ..).2.2.trans hstep.cond

/-- The store side rests on the condition. -/
theorem StoreSide.of_same {s t : State} (h : StoreSide s) (hitems : t.cond.items = s.cond.items)
    (hcomps : t.cond.comps = s.cond.comps) : StoreSide t := by
  obtain ⟨h1, h2, h3⟩ := h
  have hitem : t.item = s.item := by unfold State.item; rw [hitems]
  have hcomp : t.comp = s.comp := by unfold State.comp; rw [hcomps]
  refine ⟨?_, ?_, hcomps ▸ h3⟩
  · unfold ItemsShaped at *
    rwa [hitems]
  · unfold LoadsAgree at *
    rwa [hcomp, hitem, hitems]

theorem item_of_cond {s t : State} (h : t.cond = s.cond) : t.item = s.item := by
  unfold State.item
  rw [h]

/-- A crew that is neither CHECKING nor SLUNG enters DONE. -/
theorem LiftsAgree.finishLift {s : State} {c : Crane} {v : Carry} {cs : List Crane} (h : LiftsAgree s)
    (hcrew : IsCrew s.carry c v cs) (hchecking : v.state ≠ .checking) (hslung : v.state ≠ .slung) (code : OutcomeCode)
    (final : Option Goal) (mass : Int) : LiftsAgree (finishLift code final mass cs s) := by
  obtain ⟨hlift, hhooks, hstore⟩ := (liftsAgree_iff s).1 h
  obtain ⟨hside, hcarry⟩ := liftSide_finishLift hlift hcrew hchecking code final mass
  have hcond := finishLift_cond hlift hcrew code final mass
  refine (liftsAgree_iff _).2 ⟨hside, ?_, hstore.of_same (by rw [hcond]) (by rw [hcond])⟩
  rw [hcarry, item_of_cond hcond]
  exact hcrew.hooks hhooks hslung (by simp)

/-- The agreement stays where each record carries what it did. -/
theorem LiftsAgree.of_carry {s t : State} (h : LiftsAgree s) (hunit : UnitFits t) (hshown : SilenceShown t t.anySilent)
    (hwaiters : WaitersOwn t) (hcarry : t.carry = s.carry) (heval : t.eval = s.eval) (hcond : t.cond = s.cond) :
    LiftsAgree t := by
  obtain ⟨hlift, hhooks, hstore⟩ := (liftsAgree_iff s).1 h
  refine (liftsAgree_iff t).2 ⟨⟨hunit, hshown, hwaiters, ?_, ?_⟩, ?_, hstore.of_same (by rw [hcond]) (by rw [hcond])⟩
  · rw [hcarry]
    exact hlift.teamed
  · rw [hcarry, heval]
    exact hlift.checks
  · rw [hcarry, item_of_cond hcond]
    exact hhooks

end Sys2Proof.Machine
end

section
namespace Sys2Proof.Machine
open Sys2Proof

/-! ### A record written in the state it is in -/

/-- Work that leaves the marks: the lift records and their outcome records are the same, and no port's attention changes. -/
theorem UnitFits.of_records {s t : State} (h : UnitFits s) (hrec : t.lifts.records = s.lifts.records)
    (hended : t.lifts.ended = s.lifts.ended) (hattn : t.attn = s.attn) : UnitFits t :=
  h.of_same (by unfold State.record; rw [hrec]) hended fun p => by rw [hattn]

/-- The caller noted or forgotten whose reply waits on a record. -/
theorem LiftsAgree.awaitLift {s : State} (h : LiftsAgree s) (c : Crane) {w : Option Caller}
    (hw : ∀ q, w = some q → q.port = cranePort c) : LiftsAgree (s.awaitLift c w) := by
  obtain ⟨hlift, -⟩ := (liftsAgree_iff s).1 h
  refine h.of_carry (hlift.unit.of_records rfl rfl rfl) hlift.shown (fun d q hd => ?_) rfl rfl rfl
  have hget : (s.lifts.waiting.set c w).get d = some q := hd
  rw [PerCrane.get_set] at hget
  split at hget
  · next hdc => exact hdc ▸ hw q hget
  · exact hlift.waiters d q hget

/-- A record that keeps its state, its role and its item. -/
theorem carry_setRecord_same {s : State} {c : Crane} {r : LiftRecord} (hcarry : carryOf r = s.carry c) :
    (s.setRecord c r).carry = s.carry := by
  funext d
  rw [carry_setRecord]
  split
  · next hd => rw [hcarry, hd]
  · rfl

/-- A record written that carries what it did, and is as SILENT as it was. -/
theorem LiftsAgree.touch {s : State} (h : LiftsAgree s) {c : Crane} {r : LiftRecord} (hr : r.Shaped)
    (hstate : r.state = (s.record c).state) (hsilent : r.silent = (s.record c).silent) (hcarry : carryOf r = s.carry c) :
    LiftsAgree (s.setRecord c r) := by
  obtain ⟨hlift, -⟩ := (liftsAgree_iff s).1 h
  refine h.of_carry (hlift.unit.setRecord hr (fun hs => ?_) (by rw [hstate])) ?_ hlift.waiters (carry_setRecord_same hcarry) rfl rfl
  · rw [hstate]
    exact hlift.unit.silent c (hsilent ▸ hs)
  · rw [anySilent_setRecord, hsilent, ← anySilent_eq]
    exact hlift.shown

theorem liftsAgree_hookArrives {s : State} (h : LiftsAgree s) (c : Crane) : LiftsAgree (hookArrives c s) := by
  unfold hookArrives
  split
  · exact h.touch ((h.shaped.1 c).stopped _) rfl rfl (carryOf_congr rfl rfl)
  · exact h

theorem no_outcome {r : LiftRecord} (h : r.Shaped) (hstate : r.state ≠ .done) : r.outcome = none := by
  cases ho : r.outcome with
  | none => rfl
  | some o => exact absurd (h.outcome_iff.1 (by rw [ho]; rfl)) hstate

/-- HOOK AT moves the hook point of a SLUNG record (R139). -/
theorem liftsAgree_hookAt {s : State} (h : LiftsAgree s) {c : Crane} (hstate : (s.record c).state = .slung) (q : Point) :
    LiftsAgree (s.setRecord c { s.record c with lift := (s.record c).lift.map (fun l => { l with hook := some q }) }) := by
  have hshaped := h.shaped.1 c
  obtain ⟨l, hl⟩ := hshaped.lift_of (by rw [hstate]; decide)
  refine h.touch ?_ rfl rfl (carryOf_congr rfl (by rw [hl]; rfl))
  have hslung := hshaped.slung hl (some q) (fun hq => nomatch hq) (t := (s.record c).timer)
    (fun u hu => by simpa [hstate, timerOf, eq_comm] using (hshaped.timer_fits hl u hu).1)
    (no_outcome hshaped (by rw [hstate]; decide)) (s.record c).silent
  rwa [← hstate, show (some { l with hook := (some q).or l.hook } : Option Lift) =
    (s.record c).lift.map (fun l => { l with hook := some q }) by rw [hl]; rfl] at hslung

/-- A report from a SLUNG record starts its timer again and ends its silence (R140, R188). -/
theorem liftsAgree_reportArrives {s : State} (h : LiftsAgree s) (c : Crane) : LiftsAgree (reportArrives c s) := by
  unfold reportArrives
  split
  · next hstate =>
    have hshaped := h.shaped.1 c
    obtain ⟨hlift, -⟩ := (liftsAgree_iff s).1 h
    obtain ⟨l, hl⟩ := hshaped.lift_of (by rw [hstate]; decide)
    obtain ⟨-, -, hhook⟩ := hshaped.lift_fits hl
    have hheard : (heardRecord s c).Shaped := by
      have hslung := hshaped.slung hl none (fun _ hnone => (hhook hnone).2 hstate) (t := some (freshTimer s .report))
        (fun u hu => by cases hu; rfl) (no_outcome hshaped (by rw [hstate]; decide)) false
      rwa [← hstate, show (some { l with hook := none.or l.hook } : Option Lift) = (s.record c).lift by rw [hl]; rfl] at hslung
    show LiftsAgree (endSilence s (s.setRecord c (heardRecord s c)))
    obtain ⟨hlifts, heval, hcond⟩ := endSilence_same s (s.setRecord c (heardRecord s c))
    refine h.of_carry ((hlift.unit.setRecord hheard (fun hs => (nomatch hs)) Iff.rfl).endSilence s)
      (silenceShown_endSilence hlift.shown (anySilent_of_setRecord fun hs => (nomatch hs))) ?_
      ((carry_of_lifts hlifts).trans (carry_setRecord_same (carryOf_congr rfl rfl))) heval hcond
    unfold WaitersOwn
    rw [hlifts]
    exact hlift.waiters
  · exact h

/-- The report timer of a SLUNG record expires: the record is SILENT, and every port shows it (R140, R188). -/
theorem liftsAgree_reportLapses {s : State} (h : LiftsAgree s) (c : Crane) : LiftsAgree (reportLapses c s) := by
  unfold reportLapses
  split
  · next hcond =>
    obtain ⟨hstate, -⟩ := hcond
    obtain ⟨hlift, -⟩ := (liftsAgree_iff s).1 h
    have hunit := hlift.unit.setRecord ((hlift.unit.shaped c).stopped true) (fun _ => hstate) Iff.rfl
    refine h.of_carry (t := raiseAll .silentLift _) (hunit.of_same rfl rfl fun p => ?_) (fun p => ?_) hlift.waiters ?_ rfl rfl
    · simp [raiseAll, State.withAttn]
    · have hany : (s.setRecord c { s.record c with timer := none, silent := true }).anySilent = true := by
        rw [anySilent_setRecord]
        rfl
      exact ⟨fun _ => hany, fun _ => by simp [raiseAll, State.withAttn]⟩
    · exact carry_setRecord_same (carryOf_congr rfl rfl)
  · exact h

/-- A second passes on both records' timers. -/
theorem liftsAgree_tick {s : State} (h : LiftsAgree s) : LiftsAgree (tick s) := by
  obtain ⟨hlift, hhooks, hstore⟩ := (liftsAgree_iff s).1 h
  have hrec (c : Crane) : (tick s).record c = tickTimer (s.record c) := by cases c <;> rfl
  have hcarry : (tick s).carry = s.carry := by
    funext c
    unfold State.carry
    rw [hrec]
    exact carryOf_congr rfl rfl
  obtain ⟨h1, h2, h3, h4, h5, h6⟩ := hlift.unit
  have hunit : UnitFits (tick s) := by
    refine ⟨fun c => ?_, fun c => ?_, fun c => ?_, fun c => ?_, h5, h6⟩
    all_goals rw [hrec]
    · exact (h1 c).ticked
    · exact h2 c
    · exact h3 c
    · exact h4 c
  refine (liftsAgree_iff _).2 ⟨⟨hunit, hlift.shown, hlift.waiters, ?_, ?_⟩, ?_, hstore.of_same rfl rfl⟩
  · rw [hcarry]
    exact hlift.teamed
  · rw [hcarry]
    intro c
    cases c
    · exact hlift.checks .crane1
    · exact hlift.checks .crane2
  · rw [hcarry]
    exact hhooks

end Sys2Proof.Machine
end

section
namespace Sys2Proof.Machine
open Sys2Proof

/-! ### The start of a lift (R128, R130) -/

theorem carry_idle {s : State} {c : Crane} (h : (s.record c).state = .idle) : s.carry c = none := carryOf_inactive (.inl h)

/-- A check raised for a record that comes to be CHECKING. -/
theorem checkFits_raised {s : State} {c d : Crane} {a x : Option Carry} (h : CheckFits s.eval d a)
    (hown : d = c → (∀ v, a = some v → v.state ≠ .checking) ∧ ∃ v, x = some v ∧ v.state = .checking ∧ v.role ≠ .partner)
    (hother : d ≠ c → x = a) : CheckFits (raiseLiftCheck c s).eval d x := by
  have hrunning : checkRunning (raiseLiftCheck c s).eval d = checkRunning s.eval d := by cases c <;> rfl
  obtain ⟨hiff, hboth⟩ := h
  by_cases hd : d = c
  · obtain ⟨hno, hyes⟩ := hown hd
    have hpending : checkPending (raiseLiftCheck c s).eval d = true := by subst hd; cases d <;> rfl
    have hidle : (checkPending s.eval d || checkRunning s.eval d) = false :=
      Bool.eq_false_iff.2 fun hx => by
        obtain ⟨v, hv, hs, -⟩ := hiff.1 hx
        exact hno v hv hs
    obtain ⟨-, hrun⟩ := Bool.or_eq_false_iff.1 hidle
    exact ⟨by simp [hpending, hyes], by rw [hrunning, hrun, Bool.and_false]⟩
  · have hpending : checkPending (raiseLiftCheck c s).eval d = checkPending s.eval d := by
      obtain rfl : d = otherCrane c := (eq_or_eq_other c d).resolve_left hd
      cases c <;> rfl
    rw [hother hd]
    exact ⟨by rwa [hpending, hrunning], by rwa [hpending, hrunning]⟩

/-- The carries after one record has been written. -/
theorem forall_carry_setRecord {s : State} {c : Crane} {r : LiftRecord} {P : Crane → Option Carry → Prop} (hown : P c (carryOf r))
    (hother : P (otherCrane c) (s.carry (otherCrane c))) (d : Crane) : P d ((s.setRecord c r).carry d) := by
  rw [carry_setRecord]
  rcases eq_or_eq_other c d with rfl | rfl
  · rwa [if_pos rfl]
  · rwa [if_neg (otherCrane_ne c)]

/-- An IDLE record takes up a lift on its own, for an item that no record names and that hangs on no hook. -/
theorem LiftsAgree.start {s : State} (h : LiftsAgree s) {c : Crane} (hidle : (s.record c).state = .idle) {r : LiftRecord}
    (hr : r.Shaped) (hquiet : r.silent = false) {w : Carry} (hw : carryOf r = some w) (halone : Alone (some w))
    (hslung : w.state ≠ .slung) (hnamed : ∀ x, s.carry (otherCrane c) = some x → x.tag ≠ w.tag)
    (hitem : ∃ it, s.item w.tag = some it ∧ it.kind = .cargo ∧ it.state ≠ .slung) {t : State} (hlifts : t.lifts = (s.setRecord c r).lifts)
    (hcond : t.cond = s.cond) (hattn : t.attn = s.attn) (hchecks : CheckFits t.eval c (some w) ∧
      CheckFits t.eval (otherCrane c) (s.carry (otherCrane c))) : LiftsAgree t := by
  obtain ⟨hlift, hhooks, hstore⟩ := (liftsAgree_iff s).1 h
  have hcarry : t.carry = (s.setRecord c r).carry := carry_of_lifts hlifts
  have hactive := liftActive_of_carry hw
  have hdone : r.state ≠ .done := fun hd => by simp [liftActive, hd] at hactive
  have hunit : UnitFits (s.setRecord c r) := hlift.unit.setRecord hr (fun hs => by rw [hquiet] at hs; cases hs)
    ⟨fun hs => absurd hs hdone, fun hs => by rw [hidle] at hs; cases hs⟩
  have hmarks : t.anySilent = s.anySilent := by
    have hsilent : (s.record c).silent = false := Bool.eq_false_iff.2 fun hs => by
      have := hlift.unit.silent c hs
      rw [hidle] at this
      cases this
    have : t.anySilent = (s.setRecord c r).anySilent := by unfold State.anySilent; rw [hlifts]
    rw [this, anySilent_setRecord, anySilent_eq s c, hquiet, hsilent]
  obtain ⟨hcarried, hhung⟩ := hhooks
  refine (liftsAgree_iff t).2 ⟨⟨hunit.of_records (by rw [hlifts]) (by rw [hlifts]) hattn, ?_, ?_, ?_, ?_⟩, ⟨?_, ?_⟩,
    hstore.of_same (by rw [hcond]) (by rw [hcond])⟩
  · rw [hmarks]
    unfold SilenceShown
    rw [hattn]
    exact hlift.shown
  · unfold WaitersOwn
    rw [hlifts]
    exact hlift.waiters
  · have hown := hlift.teamed c
    rw [carry_idle hidle] at hown
    have hteam : Teamed (some w) (s.carry (otherCrane c)) :=
      hown.change alone_none halone fun v x hv hx => .inr (by cases hv; exact hnamed x hx)
    rw [hcarry]
    refine (forall_crane c).2 ⟨?_, ?_⟩
    · rw [carry_setRecord, carry_setRecord, if_pos rfl, if_neg (otherCrane_ne c), hw]
      exact hteam
    · rw [otherCrane_otherCrane, carry_setRecord, carry_setRecord, if_pos rfl, if_neg (otherCrane_ne c), hw]
      exact hteam.symm
  · rw [hcarry]
    exact forall_carry_setRecord (by rw [hw]; exact hchecks.1) hchecks.2
  · rw [hcarry, item_of_cond hcond]
    refine forall_carry_setRecord (P := fun _ a => ∀ v, a = some v → ∃ it, s.item v.tag = some it ∧ it.kind = .cargo ∧
      (it.state = .slung ↔ v.state = .slung)) (fun v hv => ?_) (hcarried _)
    obtain rfl := Option.some.inj (hw.symm.trans hv)
    obtain ⟨it, hit, hkind, hstate⟩ := hitem
    exact ⟨it, hit, hkind, fun hs => absurd hs hstate, fun hs => absurd hs hslung⟩
  · rw [hcarry, item_of_cond hcond]
    intro tag it hit hs
    obtain ⟨d, v, hlink, hv, hrest⟩ := hhung tag it hit hs
    refine ⟨d, v, hlink, ?_, hrest⟩
    rw [carry_setRecord, if_neg fun hd => ?_]
    · exact hv
    · rw [hd, carry_idle hidle] at hv
      cases hv

/-- The own record passes its checks only when IDLE (R127). -/
theorem ownFault_none {s : State} {c : Crane} (h : ownFault s c = none) : (s.record c).state = .idle := by
  unfold ownFault at h
  by_contra hidle
  split at h
  · cases h
  · cases h

/-- The item passes its checks only when it is CARGO of the table, not SLUNG and not named by the other record (R127). -/
theorem itemFault_none {s : State} {c : Crane} {tag : Nat} {dest : Goal} {partner : Option PortRef}
    (h : itemFault s c tag dest partner = none) : ∃ it, s.item tag = some it ∧ it.kind = .cargo ∧ it.state ≠ .slung ∧
      recordNames (s.record (otherCrane c)) tag = false := by
  unfold itemFault at h
  split at h
  · cases h
  · next it hit =>
    split at h
    · cases h
    · next hkind =>
      split at h
      · cases h
      · next hbusy =>
        obtain ⟨hslung, hnames⟩ := not_or.1 hbusy
        refine ⟨it, hit, ?_, hslung, Bool.eq_false_iff.2 hnames⟩
        cases hk : it.kind with
        | cargo => rfl
        | constant => exact absurd hk hkind

/-- The share of a well-formed LIFT REQUEST goes with its partner and lies in its range (R126). -/
theorem liftMalformed_share_range {dest : Option Goal} {outreach hook : Point} {partner : Option PortRef} {share : Option Nat}
    (h : liftMalformed dest outreach hook partner share = false) {n : Nat}
    (hn : (if partner.isSome then share else none) = some n) : 100 ≤ n ∧ n ≤ 900 := by
  unfold liftMalformed at h
  cases partner with
  | none => cases hn
  | some p =>
    obtain rfl : share = some n := hn
    simpa using (Bool.or_eq_false_iff.1 h).2

theorem liftsAgree_startLift {s : State} (h : LiftsAgree s) {c : Crane} {q : Caller} (hq : q.port = cranePort c)
    (hidle : (s.record c).state = .idle) {tag : Nat} (hitem : ∃ it, s.item tag = some it ∧ it.kind = .cargo ∧ it.state ≠ .slung)
    (hnamed : recordNames (s.record (otherCrane c)) tag = false) (dest : Goal) (outreach hook : Point) {share : Option Nat}
    (hshare : ∀ n, share = some n → 100 ≤ n ∧ n ≤ 900) : LiftsAgree (startLift c q tag dest outreach hook share s) := by
  have hchecks := ((liftsAgree_iff s).1 h).1.checks
  have htag (x : Carry) (hx : s.carry (otherCrane c) = some x) : x.tag ≠ tag := fun ht => by
    rw [recordNames_iff.2 ⟨x, hx, ht⟩] at hnamed
    cases hnamed
  have hnone : ∀ v, s.carry c = some v → v.state ≠ .checking := fun v hv => by rw [carry_idle hidle] at hv; cases hv
  unfold startLift
  dsimp only
  refine (aside_defer ..).agree (LiftsAgree.awaitLift ?_ c fun x hx => by cases hx; exact hq)
  cases share with
  | none =>
    refine h.start hidle (r := startRecord .checking ⟨tag, originOf (s.item tag), dest, outreach, some hook, .single, none⟩ none)
      (w := ⟨.checking, .single, tag⟩) ?_ rfl rfl (alone_single _ _) (fun hx => (nomatch hx)) htag hitem ?_ ?_ ?_ ⟨?_, ?_⟩
    · exact shaped_of_lift rfl ⟨⟨fun hs => (nomatch hs), fun hs => absurd rfl hs⟩, fun _ hn => (nomatch hn)⟩ (fun hx => (nomatch hx))
        ⟨fun hs => (nomatch hs), fun hs => (nomatch hs)⟩ (fun _ ht => (nomatch ht)) (fun hs => (nomatch hs)) (fun hh => (nomatch hh))
    · cases c <;> rfl
    · cases c <;> rfl
    · cases c <;> rfl
    · exact checkFits_raised (s := s.setRecord c _) (a := s.carry c) (hchecks c) (fun _ => ⟨hnone, _, rfl, rfl, fun hx => (nomatch hx)⟩)
        fun hd => absurd rfl hd
    · exact checkFits_raised (s := s.setRecord c _) (hchecks (otherCrane c)) (fun hd => absurd hd (otherCrane_ne c)) fun _ => rfl
  | some n =>
    refine h.start hidle (r := startRecord .joining ⟨tag, originOf (s.item tag), dest, outreach, some hook, .lead, some n⟩
      (some (freshTimer s .joinWindow))) (w := ⟨.joining, .lead, tag⟩) ?_ rfl rfl (alone_joining _) (fun hx => (nomatch hx)) htag hitem rfl rfl rfl
      ⟨?_, hchecks (otherCrane c)⟩
    · exact shaped_of_lift rfl ⟨⟨fun _ hx => (nomatch hx), fun _ => rfl⟩, fun m hm => hshare m hm⟩ (fun hx => (nomatch hx))
        ⟨fun hs => (nomatch hs), fun hs => (nomatch hs)⟩ (fun t ht => by cases ht; exact ⟨rfl, fun hr => (nomatch hr)⟩)
        (fun _ => rfl) (fun hh => (nomatch hh))
    · obtain ⟨hiff, hboth⟩ := hchecks c
      refine ⟨hiff.trans ⟨fun ⟨v, hv, hs, _⟩ => absurd hs (hnone v hv), fun ⟨v, hv, hs, _⟩ => ?_⟩, hboth⟩
      cases hv
      cases hs

theorem port_of_craneOf {p : Port} {c : Crane} (h : craneOf p = some c) : p = cranePort c := by
  cases p <;> cases h <;> rfl

theorem liftsAgree_takeLiftRequest {s : State} (h : LiftsAgree s) (tag : Nat) (dest : Option Goal) (outreach hook : Point)
    (partner : Option PortRef) (share : Option Nat) (q : Caller) :
    LiftsAgree (takeLiftRequest tag dest outreach hook partner share q s) := by
  unfold takeLiftRequest
  split
  · next c g hc =>
    split
    · exact (aside_answer ..).agree h
    · next hform =>
      split
      · exact (aside_answer ..).agree h
      · next hfault =>
        obtain ⟨hown, hitem⟩ := Option.or_eq_none_iff.1 hfault
        obtain ⟨it, hit, hkind, hslung, hnames⟩ := itemFault_none hitem
        exact liftsAgree_startLift h (port_of_craneOf hc) (ownFault_none hown) ⟨it, hit, hkind, hslung⟩ hnames _ _ _
          fun n hn => liftMalformed_share_range (Bool.not_eq_true _ ▸ hform) hn
  · exact (aside_answer ..).agree h

/-- A lead that has been joined: the window stops and its check begins (R130). -/
def joinedLead (r : LiftRecord) : LiftRecord := { r with state := .checking, timer := none }

/-- The partner's record at its JOIN LIFT (R130). -/
def joinedPartner (l : Lift) (outreach : Point) : LiftRecord :=
  startRecord .checking { l with outreach := outreach, hook := none, role := .partner } none

theorem shaped_joinedLead {r : LiftRecord} {l : Lift} (h : r.Shaped) (hl : r.lift = some l) (hjoining : r.state = .joining) :
    (joinedLead r).Shaped := by
  obtain ⟨hshare, -, hhook⟩ := h.lift_fits hl
  refine shaped_of_lift hl hshare (fun hx => (nomatch hx)) ?_ (fun _ ht => (nomatch ht)) (fun hs => (nomatch hs))
    (fun hnone => ⟨(hhook hnone).1, fun hs => (nomatch hs)⟩)
  have hnone : r.outcome = none := no_outcome h (by rw [hjoining]; exact fun hx => (nomatch hx))
  show r.outcome.isSome = true ↔ _
  rw [hnone]
  exact ⟨fun hs => (nomatch hs), fun hs => (nomatch hs)⟩

theorem shaped_joinedPartner {l : Lift} (hshare : l.ShareFits) (hrole : l.role = .lead) (outreach : Point) :
    (joinedPartner l outreach).Shaped := by
  obtain ⟨hsome, hrange⟩ := hshare
  have hthere : l.share.isSome = true := hsome.2 (by rw [hrole]; exact fun hx => (nomatch hx))
  exact shaped_of_lift rfl ⟨⟨fun _ hx => (nomatch hx), fun _ => hthere⟩, hrange⟩ (fun hx => (nomatch hx))
    ⟨fun hs => (nomatch hs), fun hs => (nomatch hs)⟩ (fun _ ht => (nomatch ht)) (fun hs => (nomatch hs))
    (fun _ => ⟨rfl, fun hs => (nomatch hs)⟩)

/-- A partner's record has no check of its own, as an IDLE one has none. -/
theorem checkFits_partner {e : EvalUnit} {c : Crane} (h : CheckFits e c none) {w : Carry} (hw : w.role = .partner) :
    CheckFits e c (some w) := by
  obtain ⟨hiff, hboth⟩ := h
  refine ⟨hiff.trans ⟨fun ⟨_, hv, _⟩ => (nomatch hv), fun ⟨v, hv, _, hr⟩ => ?_⟩, hboth⟩
  cases hv
  exact absurd hw hr

/-- A partner joins a lead in JOINING for the item: both records are CHECKING, and the check is the lead's (R130). -/
theorem liftsAgree_joinTandem {s : State} (h : LiftsAgree s) {c : Crane} {q : Caller} (hq : q.port = cranePort c)
    (hidle : (s.record c).state = .idle) {l : Lift} (hl : (s.record (otherCrane c)).lift = some l)
    (hjoining : (s.record (otherCrane c)).state = .joining) (outreach : Point) : LiftsAgree (joinTandem c q outreach l s) := by
  obtain ⟨hlift, ⟨hcarried, hhung⟩, hstore⟩ := (liftsAgree_iff s).1 h
  have hshapedLead := hlift.unit.shaped (otherCrane c)
  obtain ⟨hshare, hlead, -⟩ := hshapedLead.lift_fits hl
  have hrole : l.role = .lead := hlead hjoining
  have hnone := carry_idle hidle
  have hbefore : s.carry (otherCrane c) = some ⟨.joining, .lead, l.tag⟩ := by
    rw [State.carry, carryOf_active (by rw [hjoining]; exact fun hx => (nomatch hx))
      (by rw [hjoining]; exact fun hx => (nomatch hx)) hl, hjoining, hrole]
  let t := (s.setRecord (otherCrane c) (joinedLead (s.record (otherCrane c)))).setRecord c (joinedPartner l outreach)
  let u := raiseLiftCheck (otherCrane c) t
  have hsame : u.lifts = t.lifts ∧ u.attn = t.attn ∧ u.cond = t.cond := by cases c <;> exact ⟨rfl, rfl, rfl⟩
  obtain ⟨hlifts, hattn, hcond⟩ := hsame
  have hown : u.carry c = some ⟨.checking, .partner, l.tag⟩ := by
    rw [carry_of_lifts hlifts, carry_setRecord, if_pos rfl]
    rfl
  have hbeside : u.carry (otherCrane c) = some ⟨.checking, .lead, l.tag⟩ := by
    rw [carry_of_lifts hlifts, carry_setRecord, if_neg (otherCrane_ne c), carry_setRecord, if_pos rfl]
    exact carryOf_of rfl rfl ((congrArg (Option.map Lift.role) hl).trans (congrArg some hrole)) (congrArg (Option.map Lift.tag) hl)
  have hunit : UnitFits t := by
    refine (hlift.unit.setRecord (shaped_joinedLead hshapedLead hl hjoining) (fun hs => ?_) ?_).setRecord
      (shaped_joinedPartner hshare hrole outreach) (fun hs => (nomatch hs)) ?_
    · have := hlift.unit.silent _ hs
      rw [hjoining] at this
      cases this
    · rw [hjoining]
      exact ⟨fun hs => (nomatch hs), fun hs => (nomatch hs)⟩
    · rw [record_setRecord, if_neg (otherCrane_ne c).symm, hidle]
      exact ⟨fun hs => (nomatch hs), fun hs => (nomatch hs)⟩
  have hmarks : u.anySilent = s.anySilent := by
    have hquiet : (s.record c).silent = false := Bool.eq_false_iff.2 fun hs => by
      have := hlift.unit.silent c hs
      rw [hidle] at this
      cases this
    have : u.anySilent = t.anySilent := by unfold State.anySilent; rw [hlifts]
    rw [this, anySilent_setRecord, record_setRecord_same, anySilent_eq s c, hquiet]
    rfl
  refine (aside_defer ..).agree (LiftsAgree.awaitLift (s := u) ?_ c fun x hx => by cases hx; exact hq)
  refine (liftsAgree_iff u).2 ⟨⟨hunit.of_records (by rw [hlifts]) (by rw [hlifts]) hattn, ?_, ?_, ?_, ?_⟩, ⟨?_, ?_⟩,
    hstore.of_same (by rw [hcond]; rfl) (by rw [hcond]; rfl)⟩
  · rw [hmarks]
    unfold SilenceShown
    rw [hattn]
    exact hlift.shown
  · unfold WaitersOwn
    rw [hlifts]
    exact hlift.waiters
  · have hteam := teamed_pair (st := .checking) (fun hx => (nomatch hx)) l.tag
    refine (forall_crane c).2 ⟨?_, ?_⟩
    · rw [hown, hbeside]
      exact hteam.symm
    · rw [otherCrane_otherCrane, hown, hbeside]
      exact hteam
  · refine (forall_crane c).2 ⟨?_, ?_⟩
    · rw [hown]
      exact checkFits_raised (s := t) (checkFits_partner (hnone ▸ hlift.checks c) rfl)
        (fun hd => absurd hd (otherCrane_ne c).symm) fun _ => rfl
    · rw [hbeside]
      refine checkFits_raised (s := t) (hlift.checks (otherCrane c)) (fun _ => ⟨fun v hv => ?_, _, rfl, rfl, fun hx => (nomatch hx)⟩)
        fun hd => absurd rfl hd
      obtain rfl := Option.some.inj (hbefore.symm.trans hv)
      exact fun hx => (nomatch hx)
  · obtain ⟨it, hit, hkind, hstate⟩ := hcarried _ _ hbefore
    have hcargo (r : LiftRole) : ∃ it, u.item l.tag = some it ∧ it.kind = .cargo ∧ (it.state = .slung ↔ LiftState.checking = .slung) :=
      ⟨it, (congrFun (item_of_cond hcond) _).trans hit, hkind, fun hs => (nomatch hstate.1 hs), fun hs => (nomatch hs)⟩
    refine (forall_crane c).2 ⟨fun v hv => ?_, fun v hv => ?_⟩
    · obtain rfl := Option.some.inj (hown.symm.trans hv)
      exact hcargo .partner
    · obtain rfl := Option.some.inj (hbeside.symm.trans hv)
      exact hcargo .lead
  · rw [item_of_cond hcond]
    intro tag it hit hs
    obtain ⟨d, v, -, hv, hslung, -⟩ := hhung tag it hit hs
    rcases eq_or_eq_other c d with rfl | rfl
    · rw [hnone] at hv
      cases hv
    · obtain rfl := Option.some.inj (hbefore.symm.trans hv)
      cases hslung

theorem liftsAgree_takeJoinLift {s : State} (h : LiftsAgree s) (lead : PortRef) (tag : Nat) (outreach : Point) (q : Caller) :
    LiftsAgree (takeJoinLift lead tag outreach q s) := by
  unfold takeJoinLift
  split
  · exact (aside_answer ..).agree h
  · next c hc =>
    split_ifs with hpoint hjoin
    · exact (aside_answer ..).agree h
    · exact (aside_answer ..).agree h
    · split
      · exact (aside_answer ..).agree h
      · next l hown hl =>
        have hjoining : (s.record (otherCrane c)).state = .joining := by
          unfold noSuchJoin at hjoin
          simp only [Bool.not_eq_true, Bool.or_eq_false_iff, Bool.not_eq_false', beq_iff_eq] at hjoin
          exact hjoin.1.2
        exact liftsAgree_joinTandem h (port_of_craneOf hc) (ownFault_none hown) hl hjoining outreach
      · exact (aside_answer ..).agree h

end Sys2Proof.Machine
end

section
namespace Sys2Proof.Machine
open Sys2Proof

/-! ### The end of a lift (R131, R134 to R136, R145, R146) -/

/-- What a record that holds a lift and is not DONE carries. -/
theorem carry_of_state {s : State} (h : LiftsAgree s) {c : Crane} (hidle : (s.record c).state ≠ .idle)
    (hdone : (s.record c).state ≠ .done) : ∃ v, s.carry c = some v ∧ v.state = (s.record c).state ∧
      liftRole (s.record c) = some v.role := by
  obtain ⟨l, hl⟩ := (h.shaped.1 c).lift_of hidle
  have hv := carryOf_active hidle hdone hl
  exact ⟨_, hv, rfl, liftRole_of_carry hv⟩

/-- A lead in JOINING moves alone. -/
theorem isCrew_joining {s : State} (h : LiftsAgree s) {c : Crane} (hstate : (s.record c).state = .joining) :
    ∃ v, IsCrew s.carry c v [c] ∧ v.state = .joining := by
  obtain ⟨v, hv, hvs, -⟩ := carry_of_state h (by rw [hstate]; exact fun hx => (nomatch hx)) (by rw [hstate]; exact fun hx => (nomatch hx))
  obtain ⟨hlift, -⟩ := (liftsAgree_iff s).1 h
  obtain ⟨hpartner, -⟩ := (hlift.teamed c).1 v hv
  refine ⟨v, .one hv fun w hw => ?_, hvs.trans hstate⟩
  cases hw
  exact ⟨fun hr => (hpartner hr).1 (hvs.trans hstate), fun _ => hvs.trans hstate⟩

/-- A record in GRANTED that is no partner moves with its crew. -/
theorem isCrew_granted {s : State} (h : LiftsAgree s) {c : Crane} (hstate : (s.record c).state = .granted)
    (hrole : liftRole (s.record c) ≠ some .partner) : ∃ v, IsCrew s.carry c v (s.crew c) ∧ v.state = .granted := by
  obtain ⟨v, hv, hvs, hvr⟩ := carry_of_state h (by rw [hstate]; exact fun hx => (nomatch hx)) (by rw [hstate]; exact fun hx => (nomatch hx))
  exact ⟨v, isCrew_crew ((liftsAgree_iff s).1 h).1 hv fun hr => hrole (hvr.trans (congrArg some hr)), hvs.trans hstate⟩

theorem liftsAgree_takeAbortLift {s : State} (h : LiftsAgree s) (q : Caller) : LiftsAgree (takeAbortLift q s) := by
  unfold takeAbortLift
  split
  · exact (aside_answer ..).agree h
  · next c _ =>
    split_ifs with hidle hpartner
    · exact (aside_answer ..).agree h
    · exact (aside_answer ..).agree h
    · split
      · exact (aside_answer ..).agree h
      · next hstate =>
        obtain ⟨v, hcrew, hv⟩ := isCrew_joining h hstate
        exact (aside_answer ..).agree (h.finishLift hcrew (by simp [hv]) (by simp [hv]) _ _ _)
      · exact (aside_answer ..).agree h
      · next hstate =>
        obtain ⟨v, hcrew, hv⟩ := isCrew_granted h hstate hpartner
        exact (aside_answer ..).agree (h.finishLift hcrew (by simp [hv]) (by simp [hv]) _ _ _)
      · exact (aside_answer ..).agree h
      · exact (aside_answer ..).agree h

theorem liftsAgree_joinWindowExpires {s : State} (h : LiftsAgree s) (c : Crane) : LiftsAgree (joinWindowExpires c s) := by
  unfold joinWindowExpires
  split
  · next hcond =>
    obtain ⟨v, hcrew, hv⟩ := isCrew_joining h hcond.1
    exact (aside_deliverTo ..).agree ((h.finishLift hcrew (by simp [hv]) (by simp [hv]) _ _ _).awaitLift c fun _ hq => (nomatch hq))
  · exact h

/-- The grant lapse timer runs on no partner, so its expiry ends the crew's lift (R136). -/
theorem liftsAgree_grantLapses {s : State} (h : LiftsAgree s) (c : Crane) : LiftsAgree (grantLapses c s) := by
  unfold grantLapses
  split
  · next hcond =>
    obtain ⟨hstate, htimer⟩ := hcond
    obtain ⟨t, ht, hkind⟩ := Option.map_eq_some_iff.1 htimer
    obtain ⟨v, hcrew, hv⟩ := isCrew_granted h hstate fun hr => by
      obtain ⟨l, hl, hlr⟩ := Option.map_eq_some_iff.1 hr
      have := ((h.shaped.1 c).timer_fits hl t ht).2 hlr
      rw [hkind] at this
      cases this
    exact h.finishLift hcrew (by simp [hv]) (by simp [hv]) _ _ _
  · exact h

/-- The outcome of a DONE record is collected: the record is IDLE and OUTCOME READY goes from its port (R146, R188). -/
theorem liftsAgree_takeCollectOutcome {s : State} (h : LiftsAgree s) (q : Caller) : LiftsAgree (takeCollectOutcome q s) := by
  unfold takeCollectOutcome
  split
  · exact (aside_answer ..).agree h
  · next c hc =>
    split
    · exact (aside_answer ..).agree h
    · next o ho =>
      refine (aside_answer ..).agree ?_
      rw [port_of_craneOf hc]
      have hdone : (s.record c).state = .done := by
        unfold outcomeOf at ho
        split at ho
        · assumption
        · cases ho
      obtain ⟨hlift, -⟩ := (liftsAgree_iff s).1 h
      let t := removeAt (cranePort c) .outcomeReady (returnIdle c s)
      have hrec (d : Crane) : t.record d = if d = c then idleRecord (s.record c) else s.record d := PerCrane.get_set ..
      have hsilent (d : Crane) : (t.record d).silent = (s.record d).silent := by
        rw [hrec]
        split
        · next hd =>
          rw [hd]
          refine (Bool.eq_false_iff.2 fun hs => ?_).symm
          have := hlift.unit.silent c hs
          rw [hdone] at this
          cases this
        · rfl
      refine h.of_carry (t := t) (hlift.unit.returnIdle c) (fun p => ?_) (fun d x hd => ?_) ?_ rfl rfl
      · rw [anySilent_eq t c, hsilent, hsilent, ← anySilent_eq, ← hlift.shown p]
        show Cause.silentLift ∈ ((s.attn.modify (cranePort c) (AttnPort.remove .outcomeReady)).get p).pending ↔ _
        rw [PerPort.get_modify]
        split <;> simp
      · have hget : (s.lifts.waiting.set c none).get d = some x := hd
        rw [PerCrane.get_set] at hget
        split at hget
        · cases hget
        · exact hlift.waiters d x hget
      · funext d
        unfold State.carry
        rw [hrec]
        split
        · next hd => rw [hd, carryOf_inactive (.inr hdone)]; rfl
        · rfl

/-! ### The end of a lift check (R133 to R135) -/

/-- A crew's new state at the end of its check (R134, R135). -/
def verdictState (r : CheckReport) : Option LiftState := if r.failure.isNone then some .granted else none

/-- One record at the end of its check. -/
theorem crewStep_settleCheck {s : State} {lead d : Crane} {w : Carry} (r : CheckReport) (hunit : UnitFits s)
    (hw : s.carry d = some w) (hstate : w.state = .checking) (hlead : d = lead → w.role ≠ .partner) :
    CrewStep [d] (verdictState r) s (settleCheck lead r s d) := by
  obtain ⟨-, l, hl, rfl⟩ := carryOf_eq_some.1 hw
  replace hstate : (s.record d).state = .checking := hstate
  have hshaped := hunit.shaped d
  have hquiet : (s.record d).silent = false := Bool.eq_false_iff.2 fun hs => by
    have := hunit.silent d hs
    rw [hstate] at this
    cases this
  have hjudged : (judgedRecord s lead r d).Shaped ∧ (judgedRecord s lead r d).silent = false ∧
      (judgedRecord s lead r d).state ≠ .done ∧
      carryOf (judgedRecord s lead r d) = (s.carry d).bind (Carry.moved (verdictState r)) := by
    unfold judgedRecord verdictState
    rw [hw]
    split
    · obtain ⟨hshare, -, hhook⟩ := hshaped.lift_fits hl
      refine ⟨shaped_of_lift hl hshare (fun hx => (nomatch hx)) ?_ (fun t ht => ?_) (fun hs => (nomatch hs))
        (fun hnone => ⟨(hhook hnone).1, fun hs => (nomatch hs)⟩), hquiet, fun hs => (nomatch hs), ?_⟩
      · show (s.record d).outcome.isSome = true ↔ _
        rw [no_outcome hshaped (by rw [hstate]; exact fun hx => (nomatch hx))]
        exact ⟨fun hs => (nomatch hs), fun hs => (nomatch hs)⟩
      · dsimp only at ht
        split at ht
        · next hd =>
          cases ht
          exact ⟨rfl, fun hr => absurd hr (hlead hd)⟩
        · cases ht
      · exact carryOf_of rfl rfl (congrArg (Option.map Lift.role) hl) (congrArg (Option.map Lift.tag) hl)
    · exact ⟨shaped_idle _, rfl, fun hs => (nomatch hs), rfl⟩
  obtain ⟨hjshaped, hjquiet, hjdone, hjcarry⟩ := hjudged
  have hstep : settleCheck lead r s d = deliverTo (s.lifts.waiting.get d) (checkAnswer r)
      ((s.setRecord d (judgedRecord s lead r d)).awaitLift d none) := if_pos hstate
  have hlifts : (settleCheck lead r s d).lifts = ((s.setRecord d (judgedRecord s lead r d)).awaitLift d none).lifts := by
    rw [hstep, deliverTo_lifts]
  have hattn : (settleCheck lead r s d).attn = s.attn := by
    rw [hstep, deliverTo_attn]
    rfl
  have hrec (e : Crane) : (settleCheck lead r s d).record e = (s.setRecord d (judgedRecord s lead r d)).record e := by
    unfold State.record
    rw [hlifts]
    rfl
  refine ⟨?_, fun b hb => ?_, fun hwait e q he => ?_, fun e he => ?_, fun e he => ?_, fun e he => ?_, ?_, ?_⟩
  · refine UnitFits.of_records (s := s.setRecord d (judgedRecord s lead r d)) ?_ (by rw [hlifts]; rfl) (by rw [hlifts]; rfl) hattn
    refine hunit.setRecord hjshaped (fun hs => by rw [hjquiet] at hs; cases hs) ⟨fun hs => absurd hs hjdone, fun hs => ?_⟩
    exact nomatch hs.symm.trans hstate
  · unfold SilenceShown
    rw [hattn]
    exact hb
  · rw [hlifts] at he
    have hget : (s.lifts.waiting.set d none).get e = some q := he
    rw [PerCrane.get_set] at hget
    split at hget
    · cases hget
    · exact hwait e q hget
  · rw [hrec, record_setRecord, if_neg (mt List.mem_singleton.2 he)]
  · rw [hrec, record_setRecord, if_pos (List.mem_singleton.1 he)]
    exact hjquiet
  · obtain rfl := List.mem_singleton.1 he
    rw [State.carry, hrec, record_setRecord, if_pos rfl]
    exact hjcarry
  · rw [hstep, deliverTo_eval]
    rfl
  · rw [hstep, deliverTo_cond]
    rfl

/-- The crew of a lift check that has ended is GRANTED or IDLE, and no check runs (R133 to R135). -/
theorem liftsAgree_completeLift {s : State} (h : LiftsAgree s) {v : Version} {lead : Crane} {path final : Capture}
    (hj : s.eval.engine = some ⟨.computing, v, .lift lead path final⟩) (p f : FigureSet) :
    LiftsAgree (completeLift lead v p f s) := by
  obtain ⟨hlift, hhooks, hstore⟩ := (liftsAgree_iff s).1 h
  have hrunning (d : Crane) : checkRunning s.eval d = (lead == d) := by
    unfold checkRunning
    rw [hj]
  obtain ⟨w, hw, hstate, hrole⟩ := (hlift.checks lead).1.1 (by rw [hrunning, beq_self_eq_true, Bool.or_true])
  have hcrew := isCrew_crew hlift hw hrole
  let r := checkReport s v p f
  have hstep : CrewStep (s.crew lead) (verdictState r) s ((s.crew lead).foldl (settleCheck lead r) s) :=
    hcrew.steps hlift.unit fun t d x ht hx hxs hxr => crewStep_settleCheck r ht hx (hxs.trans hstate) hxr
  let t := (s.crew lead).foldl (settleCheck lead r) s
  show LiftsAgree (t.withEval { t.eval with engine := none })
  have hverdict {st : LiftState} (hst : st ≠ .granted) : verdictState r ≠ some st := by
    unfold verdictState
    split
    · exact fun heq => hst (Option.some.inj heq).symm
    · exact fun heq => nomatch heq
  have hmarks : t.anySilent = s.anySilent := hstep.same_marks fun d hd => Bool.eq_false_iff.2 fun hs => by
    obtain ⟨x, hx, hxs, -⟩ := hcrew.carries hd
    have := (hlift.unit.silent d hs).symm.trans ((state_of_carry hx).trans (hxs.trans hstate))
    cases this
  refine (liftsAgree_iff _).2 ⟨⟨hstep.unit.of_records rfl rfl rfl, fun p => ?_, hstep.waiters hlift.waiters, ?_, fun d => ?_⟩,
    ?_, hstore.of_same (by rw [← hstep.cond]; rfl) (by rw [← hstep.cond]; rfl)⟩
  · exact (hstep.shown _ hlift.shown p).trans (by rw [← hmarks]; rfl)
  · show ∀ d, Teamed (t.carry d) (t.carry (otherCrane d))
    rw [hstep.carry]
    exact hcrew.teamed hlift.teamed (hverdict fun hx => (nomatch hx)) fun hx => nomatch hstate.symm.trans hx
  · show CheckFits { t.eval with engine := none } d (t.carry d)
    rw [hstep.carry, show t.eval = s.eval from hstep.eval]
    exact hcrew.checked hlift.checks hrunning (hverdict fun hx => (nomatch hx)) d
  · show HooksFit t.carry t.item
    rw [hstep.carry, item_of_cond hstep.cond]
    exact hcrew.hooks hhooks (by rw [hstate]; exact fun hx => (nomatch hx)) (hverdict fun hx => (nomatch hx))

end Sys2Proof.Machine
end

section
namespace Sys2Proof.Machine
open Sys2Proof

/-! ### Tables -/

theorem Table.drop_put {α : Type} (k : Nat) (v : α) (t : Table α) : (t.put k v).drop k = t.drop k := by
  unfold Table.drop
  induction t with
  | nil => simp [Table.put]
  | cons e r ih =>
    obtain ⟨j, w⟩ := e
    simp only [Table.put]
    split
    · simp
    · split
      · next hj => simp [hj]
      · rw [List.filter_cons, List.filter_cons, ih]

theorem Table.length_put_le {α : Type} (k : Nat) (v : α) (t : Table α) : (t.put k v).length ≤ t.length + 1 := by
  induction t with
  | nil => exact Nat.le_refl _
  | cons e r ih =>
    obtain ⟨j, w⟩ := e
    unfold Table.put
    split
    · exact Nat.le_refl _
    · split
      · exact Nat.le_succ _
      · exact Nat.succ_le_succ ih

/-- The tail of a rising table rises, above the head's key. -/
theorem Table.rising_cons {α : Type} {j : Nat} {w : α} {r : Table α} (h : Table.Rising ((j, w) :: r)) :
    r.Rising ∧ ∀ e ∈ r, j < e.1 := by
  obtain ⟨hhead, htail⟩ := List.pairwise_cons.1 h
  exact ⟨htail, fun e he => hhead e.1 (List.mem_map_of_mem he)⟩

/-- An entry that is replaced leaves the table as long as it was. -/
theorem Table.length_put_of_find {α : Type} {k : Nat} {w : α} (v : α) {t : Table α} (h : t.Rising) (hk : t.find k = some w) :
    (t.put k v).length = t.length := by
  induction t with
  | nil => cases hk
  | cons e r ih =>
    obtain ⟨j, x⟩ := e
    obtain ⟨hr, hj⟩ := Table.rising_cons h
    unfold Table.put
    by_cases hjk : j = k
    · rw [if_neg (by omega), if_pos hjk]
      rfl
    · have hfind : Table.find k r = some w := by rwa [Table.find, if_neg hjk] at hk
      have hlt : j < k := hj _ (Table.mem_of_find hfind)
      rw [if_neg (by omega), if_neg hjk]
      exact congrArg Nat.succ (ih hr hfind)

theorem Table.length_drop_le {α : Type} (k : Nat) (t : Table α) : (t.drop k).length ≤ t.length := List.length_filter_le ..

theorem Table.rising_store {α : Type} [DecidableEq α] (d : α) (k : Nat) (v : α) {t : Table α} (h : t.Rising) :
    (t.store d k v).Rising := by
  unfold Table.store
  split
  · exact Table.rising_drop k h
  · exact Table.rising_put k v h

/-! ### The mass aboard (R31) -/

/-- The mass that an item, if there is one, has aboard in a compartment. -/
def massIn (o : Option ItemRecord) (n : Nat) : Int := o.elim 0 (fun it => if aboardIn it n then it.mass else 0)

/-- The mass aboard is that of one item and that of the others. -/
theorem massAboard_split {items : Table ItemRecord} (h : items.Rising) (tag n : Nat) :
    massAboard items n = massAboard (items.drop tag) n + massIn (items.find tag) n := by
  induction items with
  | nil => rfl
  | cons e r ih =>
    obtain ⟨j, it⟩ := e
    obtain ⟨hr, hj⟩ := Table.rising_cons h
    have hcons : massAboard ((j, it) :: r) n = massIn (some it) n + massAboard r n := by
      unfold massAboard
      rw [List.map_cons, List.sum_cons]
      rfl
    rw [hcons, Table.find]
    unfold Table.drop at *
    rw [List.filter_cons]
    by_cases hjt : j = tag
    · have hall : r.filter (fun e => e.1 != tag) = r := List.filter_eq_self.2 fun e he => by
        have := hj e he
        simp
        omega
      rw [if_pos hjt, hall, if_neg (by simp [hjt])]
      omega
    · have hhead : massAboard ((j, it) :: r.filter (fun e => e.1 != tag)) n =
          massIn (some it) n + massAboard (r.filter (fun e => e.1 != tag)) n := by
        unfold massAboard
        rw [List.map_cons, List.sum_cons]
        rfl
      rw [if_neg hjt, if_pos (by simp [hjt]), hhead, ih hr]
      omega

/-- Items rewritten with their masses and their places aboard as they were. -/
theorem massAboard_mapVals {f : Nat → ItemRecord → ItemRecord} (hmass : ∀ k it, (f k it).mass = it.mass)
    (haboard : ∀ k it n, aboardIn (f k it) n = aboardIn it n) (items : Table ItemRecord) (n : Nat) :
    massAboard (items.mapVals f) n = massAboard items n := by
  unfold massAboard Table.mapVals
  rw [List.map_map]
  congr 1
  refine List.map_congr_left fun e _ => ?_
  show (if aboardIn (f e.1 e.2) n then (f e.1 e.2).mass else 0) = _
  rw [hmass, haboard]

/-! ### The loads and the stow lists (R31, R32) -/

/-- The compartments agree with every item but `tag`, and hold that one as if its record were `o`. -/
def StowedAs (tag : Nat) (o : Option ItemRecord) (s : State) : Prop := ∀ n,
  (s.comp n).load = massAboard (s.cond.items.drop tag) n + massIn o n ∧ (s.comp n).stow.Nodup ∧
  (tag ∈ (s.comp n).stow ↔ ∃ it, o = some it ∧ aboardIn it n = true) ∧
  ∀ j, j ≠ tag → (j ∈ (s.comp n).stow ↔ ∃ it, s.item j = some it ∧ aboardIn it n = true)

/-- The loads agree when each item is stowed as its record says. -/
theorem loadsAgree_iff {s : State} (h : s.cond.items.Rising) (tag : Nat) : LoadsAgree s ↔ StowedAs tag (s.item tag) s := by
  refine forall_congr' fun n => ?_
  rw [massAboard_split h tag n]
  refine and_congr_right fun _ => and_congr_right fun _ => ⟨fun hall => ⟨hall tag, fun j _ => hall j⟩, fun ⟨hown, hothers⟩ j => ?_⟩
  by_cases hj : j = tag
  · rw [hj]
    exact hown
  · exact hothers j hj

variable {s : State} {tag : Nat}

/-- What the compartments hold the item as does not rest on its own record. -/
theorem StowedAs.of_others {t : State} {o : Option ItemRecord} (h : StowedAs tag o s)
    (hitems : t.cond.items.drop tag = s.cond.items.drop tag) (hcomps : t.cond.comps = s.cond.comps) : StowedAs tag o t := by
  have hcomp : t.comp = s.comp := by unfold State.comp; rw [hcomps]
  have hitem (j : Nat) (hj : j ≠ tag) : t.item j = s.item j := by
    unfold State.item
    rw [← Table.find_drop_other _ hj, hitems, Table.find_drop_other _ hj]
  intro n
  obtain ⟨hload, hnodup, hown, hothers⟩ := h n
  rw [hitems, hcomp]
  refine ⟨hload, hnodup, hown, fun j hj => ?_⟩
  rw [hitem j hj]
  exact hothers j hj

theorem StowedAs.setItem {o : Option ItemRecord} (h : StowedAs tag o s) (it : ItemRecord) : StowedAs tag o (s.setItem tag it) :=
  h.of_others (Table.drop_put ..) rfl

/-- Two records that stand for the same item aboard. -/
theorem StowedAs.congr {o p : Option ItemRecord} (h : StowedAs tag o s) (hmass : ∀ n, massIn p n = massIn o n)
    (haboard : ∀ n, (∃ it, p = some it ∧ aboardIn it n = true) ↔ ∃ it, o = some it ∧ aboardIn it n = true) : StowedAs tag p s := by
  intro n
  rw [hmass, haboard]
  exact h n

theorem aboardIn_false {it : ItemRecord} (h : it.state ≠ .aboard) (n : Nat) : aboardIn it n = false := by
  rw [Bool.eq_false_iff, Ne, aboardIn_iff]
  exact fun hx => h hx.1

/-- An item that is not ABOARD is stowed as none is. -/
theorem massIn_not_aboard {it : ItemRecord} (h : it.state ≠ .aboard) (n : Nat) : massIn (some it) n = 0 := by
  show (if aboardIn it n then it.mass else 0) = 0
  rw [aboardIn_false h]
  rfl

theorem not_stowed {it : ItemRecord} (h : it.state ≠ .aboard) (n : Nat) : ¬ ∃ k, some it = some k ∧ aboardIn k n = true := by
  rintro ⟨k, ⟨⟩, hin⟩
  rw [aboardIn_false h] at hin
  cases hin

theorem StowedAs.of_not_aboard {it : ItemRecord} (h : StowedAs tag none s) (hit : it.state ≠ .aboard) : StowedAs tag (some it) s :=
  h.congr (massIn_not_aboard hit) fun n => ⟨fun hx => absurd hx (not_stowed hit n), fun ⟨_, hk, _⟩ => (nomatch hk)⟩

theorem StowedAs.none_of_not_aboard {it : ItemRecord} (h : StowedAs tag (some it) s) (hit : it.state ≠ .aboard) :
    StowedAs tag none s :=
  h.congr (fun n => (massIn_not_aboard hit n).symm) fun n => ⟨fun ⟨_, hk, _⟩ => (nomatch hk), fun hx => absurd hx (not_stowed hit n)⟩

theorem aboardIn_eq {it : ItemRecord} {pl : Placement} (hstate : it.state = .aboard) (hactual : it.actual = some pl) (n : Nat) :
    aboardIn it n = (pl.comp == n) := by
  unfold aboardIn
  rw [hstate, hactual]
  rfl

theorem massIn_aboard {it : ItemRecord} {pl : Placement} (hstate : it.state = .aboard) (hactual : it.actual = some pl) (n : Nat) :
    massIn (some it) n = if n = pl.comp then it.mass else 0 := by
  show (if aboardIn it n then it.mass else 0) = _
  rw [aboardIn_eq hstate hactual]
  by_cases h : n = pl.comp
  · rw [if_pos h, h, beq_self_eq_true, if_pos rfl]
  · rw [if_neg h, beq_eq_false_iff_ne.2 (Ne.symm h)]
    rfl

theorem stowed_aboard_iff {it : ItemRecord} {pl : Placement} (hstate : it.state = .aboard) (hactual : it.actual = some pl) (n : Nat) :
    (∃ k, some it = some k ∧ aboardIn k n = true) ↔ n = pl.comp := by
  refine ⟨fun ⟨k, hk, hin⟩ => ?_, fun hn => ⟨it, rfl, ?_⟩⟩
  · cases hk
    rw [aboardIn_eq hstate hactual, beq_iff_eq] at hin
    exact hin.symm
  · rw [aboardIn_eq hstate hactual, hn, beq_self_eq_true]

/-- An ABOARD item that leaves its compartment is stowed nowhere. -/
theorem StowedAs.leaveComp {it : ItemRecord} (h : StowedAs tag (some it) s) (hactual : it.actual.isSome = true ↔ it.state = .aboard) :
    StowedAs tag none (leaveComp tag it s) := by
  by_cases hstate : it.state = .aboard
  · obtain ⟨pl, hpl⟩ := Option.isSome_iff_exists.1 (hactual.2 hstate)
    have hleave : Machine.leaveComp tag it s = stowOut tag it.mass pl.comp s := by
      unfold Machine.leaveComp
      rw [hstate, hpl]
    rw [hleave]
    intro n
    obtain ⟨hload, hnodup, hown, hothers⟩ := h n
    rw [massIn_aboard hstate hpl] at hload
    rw [stowed_aboard_iff hstate hpl] at hown
    unfold stowOut
    rw [comp_setComp]
    by_cases hn : n = pl.comp
    · rw [if_pos hn] at hload ⊢
      subst hn
      refine ⟨?_, hnodup.filter _, ⟨fun hmem => ?_, fun ⟨k, hk, _⟩ => (nomatch hk)⟩, fun j hj => ?_⟩
      · show (s.comp pl.comp).load - it.mass = massAboard (s.cond.items.drop tag) pl.comp + 0
        omega
      · simp at hmem
      · refine Iff.trans ?_ (hothers j hj)
        simp [hj]
    · rw [if_neg hn] at hload ⊢
      exact ⟨hload, hnodup, ⟨fun hmem => absurd (hown.1 hmem) hn, fun ⟨k, hk, _⟩ => (nomatch hk)⟩, hothers⟩
  · have hleave : Machine.leaveComp tag it s = s := by
      unfold Machine.leaveComp
      split
      · next hs _ => exact absurd hs hstate
      · rfl
    rw [hleave]
    exact h.none_of_not_aboard hstate

/-- An item stowed in a compartment. -/
theorem StowedAs.stowIn (h : StowedAs tag none s) {it : ItemRecord} {pl : Placement} (hstate : it.state = .aboard)
    (hactual : it.actual = some pl) : StowedAs tag (some it) (stowIn tag it.mass pl.comp s) := by
  intro n
  obtain ⟨hload, hnodup, hown, hothers⟩ := h n
  have hout : tag ∉ (s.comp n).stow := fun hmem => by
    obtain ⟨k, hk, -⟩ := hown.1 hmem
    cases hk
  rw [massIn_aboard hstate hactual, stowed_aboard_iff hstate hactual]
  unfold Machine.stowIn
  rw [comp_setComp]
  by_cases hn : n = pl.comp
  · rw [if_pos hn, if_pos hn]
    subst hn
    refine ⟨?_, ?_, ⟨fun _ => rfl, fun _ => by simp⟩, fun j hj => ?_⟩
    · show (s.comp pl.comp).load + it.mass = massAboard (s.cond.items.drop tag) pl.comp + it.mass
      rw [hload]
      show massAboard _ _ + 0 + _ = _
      omega
    · exact List.nodup_append.2 ⟨hnodup, List.nodup_singleton _, fun x hx y hy hxy => hout (by
        rw [List.mem_singleton.1 hy] at hxy
        exact hxy ▸ hx)⟩
    · refine Iff.trans ?_ (hothers j hj)
      simp [hj]
  · rw [if_neg hn, if_neg hn]
    exact ⟨hload, hnodup, ⟨fun hmem => absurd hmem hout, fun hx => absurd hx hn⟩, hothers⟩

/-- The mass of an item amended, and its compartment's load with it (R40). -/
theorem StowedAs.shiftLoad {it : ItemRecord} (h : StowedAs tag (some it) s) (hactual : it.actual.isSome = true ↔ it.state = .aboard)
    (m dport : Int) : StowedAs tag (some { it with mass := m, dport := dport }) (shiftLoad it (m - it.mass) s) := by
  by_cases hstate : it.state = .aboard
  · obtain ⟨pl, hpl⟩ := Option.isSome_iff_exists.1 (hactual.2 hstate)
    have hshift : Machine.shiftLoad it (m - it.mass) s =
        s.setComp pl.comp { s.comp pl.comp with load := (s.comp pl.comp).load + (m - it.mass) } := by
      unfold Machine.shiftLoad
      rw [hstate, hpl]
    rw [hshift]
    intro n
    obtain ⟨hload, hnodup, hown, hothers⟩ := h n
    rw [massIn_aboard hstate hpl] at hload
    rw [stowed_aboard_iff hstate hpl] at hown
    rw [massIn_aboard (it := { it with mass := m, dport := dport }) hstate hpl,
      stowed_aboard_iff (it := { it with mass := m, dport := dport }) hstate hpl, comp_setComp]
    by_cases hn : n = pl.comp
    · rw [if_pos hn] at hload
      rw [if_pos hn, if_pos hn]
      subst hn
      refine ⟨?_, hnodup, hown, hothers⟩
      show (s.comp pl.comp).load + (m - it.mass) = massAboard (s.cond.items.drop tag) pl.comp + m
      omega
    · rw [if_neg hn] at hload
      rw [if_neg hn, if_neg hn]
      exact ⟨hload, hnodup, hown, hothers⟩
  · have hshift : Machine.shiftLoad it (m - it.mass) s = s := by
      unfold Machine.shiftLoad
      split
      · next hs _ => exact absurd hs hstate
      · rfl
    rw [hshift]
    exact (h.none_of_not_aboard hstate).of_not_aboard hstate

end Sys2Proof.Machine
end

section
namespace Sys2Proof.Machine
open Sys2Proof

/-! ### Items written, and the hooks -/

/-- What the hooks ask of an item: its kind, its state and its lift link. -/
def ItemRecord.hung (it : ItemRecord) : ItemKind × ItemState × Option Crane := (it.kind, it.state, it.link)

/-- The items fit the carries still when each is as it was, or is one that no record names and that is not SLUNG. -/
theorem HooksFit.of_items {carry : Crane → Option Carry} {item item' : Nat → Option ItemRecord} (h : HooksFit carry item)
    (hsame : ∀ j, (item' j).map ItemRecord.hung = (item j).map ItemRecord.hung ∨
      ((∀ c v, carry c = some v → v.tag ≠ j) ∧ ∀ it, item' j = some it → it.state ≠ .slung)) : HooksFit carry item' := by
  obtain ⟨hcarried, hhung⟩ := h
  refine ⟨fun c v hv => ?_, fun tag it hit hs => ?_⟩
  · obtain ⟨it, hit, hkind, hslung⟩ := hcarried c v hv
    rcases hsame v.tag with heq | ⟨hnone, -⟩
    · rw [hit] at heq
      obtain ⟨k, hk, hcore⟩ := Option.map_eq_some_iff.1 heq
      simp only [ItemRecord.hung, Prod.mk.injEq] at hcore
      obtain ⟨hk1, hk2, -⟩ := hcore
      exact ⟨k, hk, hk1.trans hkind, hk2 ▸ hslung⟩
    · exact absurd rfl (hnone c v hv)
  · rcases hsame tag with heq | ⟨-, hnot⟩
    · rw [hit] at heq
      obtain ⟨k, hk, hcore⟩ := Option.map_eq_some_iff.1 heq.symm
      simp only [ItemRecord.hung, Prod.mk.injEq] at hcore
      obtain ⟨-, hk2, hk3⟩ := hcore
      obtain ⟨c, v, hlink, hrest⟩ := hhung tag k hk (hk2.trans hs)
      exact ⟨c, v, hk3.symm.trans hlink, hrest⟩
    · exact absurd hs (hnot it hit)

/-- No record names an item when what none carries has its tag. -/
theorem named_eq_false {s : State} {tag : Nat} (h : s.named tag = false) (c : Crane) (v : Carry) (hv : s.carry c = some v) :
    v.tag ≠ tag := by
  intro ht
  have hnames := recordNames_iff.2 ⟨v, hv, ht⟩
  obtain ⟨h1, h2⟩ := Bool.or_eq_false_iff.1 h
  cases c with
  | crane1 => exact nomatch hnames.symm.trans h1
  | crane2 => exact nomatch hnames.symm.trans h2

theorem LiftSide.of_same {s t : State} (h : LiftSide s) (hlifts : t.lifts = s.lifts) (hattn : t.attn = s.attn)
    (heval : t.eval = s.eval) : LiftSide t := by
  obtain ⟨hunit, hshown, hwaiters, hteamed, hchecks⟩ := h
  refine ⟨hunit.of_records (by rw [hlifts]) (by rw [hlifts]) hattn, ?_, ?_, ?_, ?_⟩
  · unfold SilenceShown State.anySilent at *
    rwa [hlifts, hattn]
  · unfold WaitersOwn at *
    rwa [hlifts]
  · rwa [carry_of_lifts hlifts]
  · rwa [carry_of_lifts hlifts, heval]

/-- Work on the items and the compartments alone. -/
theorem LiftsAgree.of_store {s t : State} (h : LiftsAgree s) (hlifts : t.lifts = s.lifts) (hattn : t.attn = s.attn)
    (heval : t.eval = s.eval) (hstore : StoreSide t) (hsame : ∀ j, (t.item j).map ItemRecord.hung = (s.item j).map ItemRecord.hung ∨
      ((∀ c v, s.carry c = some v → v.tag ≠ j) ∧ ∀ it, t.item j = some it → it.state ≠ .slung)) : LiftsAgree t := by
  obtain ⟨hlift, hhooks, -⟩ := (liftsAgree_iff s).1 h
  refine (liftsAgree_iff t).2 ⟨hlift.of_same hlifts hattn heval, ?_, hstore⟩
  rw [carry_of_lifts hlifts]
  exact hhooks.of_items hsame

/-! ### The item table -/

theorem StoreSide.item_shaped {s : State} (h : StoreSide s) {tag : Nat} {it : ItemRecord} (hit : s.item tag = some it) :
    tag ≠ 0 ∧ it.Shaped := h.items.2.2 _ (Table.mem_of_find hit)

/-- An item record written: over its own, or a new one while the table has room. -/
theorem ItemsShaped.put {items : Table ItemRecord} (hrising : items.Rising) (hlen : items.length ≤ Config.maxItems)
    (hall : ∀ e ∈ items, e.1 ≠ 0 ∧ e.2.Shaped) {tag : Nat} {it : ItemRecord} (htag : tag ≠ 0) (hit : it.Shaped)
    (hroom : (∃ k, items.find tag = some k) ∨ items.length < Config.maxItems) :
    (items.put tag it).Rising ∧ (items.put tag it).length ≤ Config.maxItems ∧ ∀ e ∈ items.put tag it, e.1 ≠ 0 ∧ e.2.Shaped := by
  refine ⟨Table.rising_put tag it hrising, ?_, fun e he => ?_⟩
  · rcases hroom with ⟨k, hk⟩ | hroom
    · exact (Table.length_put_of_find it hrising hk).trans_le hlen
    · exact (Table.length_put_le ..).trans hroom
  · rcases Table.mem_put he with rfl | he
    · exact ⟨htag, hit⟩
    · exact hall e he

theorem itemsShaped_setItem {s : State} (h : ItemsShaped s) {tag : Nat} {it : ItemRecord} (htag : tag ≠ 0) (hit : it.Shaped)
    (hroom : (∃ k, s.item tag = some k) ∨ s.cond.items.length < Config.maxItems) : ItemsShaped (s.setItem tag it) := by
  obtain ⟨hrising, hlen, hall⟩ := h
  exact ItemsShaped.put hrising hlen hall htag hit hroom

theorem item_setItem_same (s : State) (tag : Nat) (it : ItemRecord) : (s.setItem tag it).item tag = some it := by
  rw [item_setItem, if_pos rfl]

theorem rising_setComp {s : State} (h : s.cond.comps.Rising) (n : Nat) (cs : CompState) : (s.setComp n cs).cond.comps.Rising :=
  Table.rising_store _ n cs h

theorem rising_leaveComp {s : State} (h : s.cond.comps.Rising) (tag : Nat) (it : ItemRecord) :
    (leaveComp tag it s).cond.comps.Rising := by
  unfold leaveComp
  split
  · exact rising_setComp h ..
  · exact h

theorem items_leaveComp (tag : Nat) (it : ItemRecord) (s : State) : (leaveComp tag it s).cond.items = s.cond.items := by
  rw [leaveComp_eq]
  rfl

/-! ### The changes -/

/-- What an entry that passes its tests creates is shaped, and its tag is new (R38, R39). -/
theorem entryFault_none_shaped {s : State} {e : Entry} (h : entryFault s e = none) :
    e.tag ≠ 0 ∧ (entryRecord e).Shaped ∧ s.item e.tag = none ∧ s.cond.items.length < Config.maxItems := by
  unfold entryFault at h
  split_ifs at h with hform hused hplace hplan hfull
  rw [entryMalformed_iff] at hform
  simp only [not_or, not_and, not_lt, ne_eq, not_not] at hform
  obtain ⟨htag, hkind, hstate, hlow, hhigh, hdlow, hdhigh, hconstant, hpending, haboard⟩ := hform
  refine ⟨htag, ?_, Option.not_isSome_iff_eq_none.1 hused, Nat.lt_of_not_le hfull⟩
  have hfields := And.intro hlow (And.intro hhigh (And.intro hdlow hdhigh))
  unfold entryRecord
  split
  · next pl hs hp =>
    refine ⟨⟨fun _ => rfl, fun _ => rfl⟩, ⟨fun hx => (nomatch hx), fun hx => (nomatch hx)⟩, fun hx => (nomatch hx), fun hk => ?_, hfields⟩
    cases hek : e.kind with
    | none => exact absurd hek hkind
    | some k =>
      obtain rfl : k = .constant := by rw [hek] at hk; exact hk
      exact ⟨rfl, (hconstant hek).2⟩
  · next hno =>
    have hpend : e.state = some .pending := by
      cases hs : e.state with
      | none => exact absurd hs hstate
      | some st =>
        cases st with
        | pending => rfl
        | aboard =>
          cases hp : e.place with
          | ashore => exact absurd hp (haboard hs)
          | place pl => exact absurd hp (hno pl hs)
    refine ⟨⟨fun hx => (nomatch hx), fun hx => (nomatch hx)⟩, ⟨fun hx => (nomatch hx), fun hx => (nomatch hx)⟩, fun _ => rfl, fun hk => ?_, hfields⟩
    exfalso
    cases hek : e.kind with
    | none => exact absurd hek hkind
    | some k =>
      obtain rfl : k = .constant := by rw [hek] at hk; exact hk
      exact (hconstant hek).1 hpend

/-- Where an entry is applied its item is stowed as its record says. -/
theorem storeSide_applyEntry {s : State} (h : StoreSide s) {e : Entry} (hfault : entryFault s e = none) :
    StoreSide (applyEntry s e) := by
  obtain ⟨htag, hshaped, hnew, hroom⟩ := entryFault_none_shaped hfault
  have hput := itemsShaped_setItem h.items htag hshaped (.inr hroom)
  have hbare : StowedAs e.tag none (s.setItem e.tag (entryRecord e)) :=
    (hnew ▸ (loadsAgree_iff h.items.1 e.tag).1 h.loads).setItem _
  have hown := item_setItem_same s e.tag (entryRecord e)
  unfold applyEntry
  split
  · next pl hs hp =>
    have hrecord : entryRecord e = ⟨e.kind.getD .cargo, .aboard, e.mass, e.dport, some pl, e.plan, none⟩ := by
      unfold entryRecord
      rw [hs, hp]
    have hstowed := hbare.stowIn (it := entryRecord e) (pl := pl) (by rw [hrecord]) (by rw [hrecord])
    rw [entryRecord_mass, ← hown] at hstowed
    exact ⟨hput, (loadsAgree_iff (s := stowIn e.tag e.mass pl.comp (s.setItem e.tag (entryRecord e))) hput.1 e.tag).2 hstowed,
      rising_setComp (s := s.setItem e.tag (entryRecord e)) h.comps ..⟩
  · next hno =>
    refine ⟨hput, (loadsAgree_iff hput.1 e.tag).2 ?_, h.comps⟩
    rw [hown]
    refine hbare.of_not_aboard fun haboard => ?_
    unfold entryRecord at haboard
    split at haboard
    · next pl hs hp => exact hno pl hs hp
    · cases haboard

theorem liftsAgree_applyEntry {s : State} (h : LiftsAgree s) {e : Entry} (hfault : entryFault s e = none) :
    LiftsAgree (applyEntry s e) := by
  obtain ⟨-, ⟨hcarried, -⟩, hstore⟩ := (liftsAgree_iff s).1 h
  obtain ⟨-, -, hnew, -⟩ := entryFault_none_shaped hfault
  have hitem (j : Nat) : (applyEntry s e).item j = if j = e.tag then some (entryRecord e) else s.item j := by
    rw [← item_setItem]
    unfold applyEntry
    split <;> rfl
  have hsame : (applyEntry s e).lifts = s.lifts ∧ (applyEntry s e).attn = s.attn ∧ (applyEntry s e).eval = s.eval := by
    unfold applyEntry
    split <;> exact ⟨rfl, rfl, rfl⟩
  obtain ⟨hlifts, hattn, heval⟩ := hsame
  refine h.of_store hlifts hattn heval (storeSide_applyEntry hstore hfault) fun j => ?_
  rw [hitem]
  by_cases hj : j = e.tag
  · rw [if_pos hj]
    refine .inr ⟨fun c v hv ht => ?_, fun it hit hs => ?_⟩
    · obtain ⟨it, hit, -⟩ := hcarried c v hv
      rw [ht, hj, hnew] at hit
      cases hit
    · cases hit
      unfold entryRecord at hs
      split at hs <;> cases hs
  · rw [if_neg hj]
    exact .inl rfl

theorem liftsAgree_addEntries {es : List Entry} {k : Nat} {s t : State} (hs : LiftsAgree s) (h : addEntries k s es = .ok t) :
    LiftsAgree t := by
  induction es generalizing k s with
  | nil =>
    obtain rfl : s = t := Except.ok.inj h
    exact hs
  | cons e es ih =>
    unfold addEntries at h
    split at h
    · cases h
    · next hfault => exact ih (liftsAgree_applyEntry hs hfault) h

/-- An item record rewritten with its kind, its state and its link as they were hangs as it did. -/
theorem hung_setItem {s t : State} {tag : Nat} {it x : ItemRecord} (hit : s.item tag = some it) (hx : x.hung = it.hung)
    (ht : ∀ j, t.item j = if j = tag then some x else s.item j) (j : Nat) :
    (t.item j).map ItemRecord.hung = (s.item j).map ItemRecord.hung := by
  rw [ht]
  split
  · next hj =>
    rw [hj, hit]
    exact congrArg some hx
  · rfl

theorem liftsAgree_amended {s : State} (h : LiftsAgree s) {tag : Nat} {it : ItemRecord} {mass dport : Option Int}
    (hit : s.item tag = some it) (hmass : mass.elim true (within 1 60000) = true) (hdport : dport.elim true (within 0 15) = true) :
    LiftsAgree (shiftLoad it (mass.getD it.mass - it.mass)
      (s.setItem tag { it with mass := mass.getD it.mass, dport := dport.getD it.dport })) := by
  obtain ⟨-, -, hstore⟩ := (liftsAgree_iff s).1 h
  obtain ⟨htag, hactual, hlink, hplan, hconstant, hlow, hhigh, hdlow, hdhigh⟩ := hstore.item_shaped hit
  have hm : 1 ≤ mass.getD it.mass ∧ mass.getD it.mass ≤ 60000 := by
    cases mass with
    | none => exact ⟨hlow, hhigh⟩
    | some m => exact (within_iff _ _ _).1 hmass
  have hd : 0 ≤ dport.getD it.dport ∧ dport.getD it.dport ≤ 15 := by
    cases dport with
    | none => exact ⟨hdlow, hdhigh⟩
    | some d => exact (within_iff _ _ _).1 hdport
  set x : ItemRecord := { it with mass := mass.getD it.mass, dport := dport.getD it.dport } with hx
  have hput := itemsShaped_setItem hstore.items htag (it := x)
    ⟨hactual, hlink, hplan, hconstant, hm.1, hm.2, hd.1, hd.2⟩ (.inl ⟨it, hit⟩)
  have hbefore : StowedAs tag (some it) (s.setItem tag x) :=
    (hit ▸ (loadsAgree_iff hstore.items.1 tag).1 hstore.loads).setItem x
  have hshift : (shiftLoad it (mass.getD it.mass - it.mass) (s.setItem tag x)).cond.items = (s.setItem tag x).cond.items := by
    rw [shiftLoad_eq]
    rfl
  have hitem : (shiftLoad it (mass.getD it.mass - it.mass) (s.setItem tag x)).item = (s.setItem tag x).item := by
    unfold State.item
    rw [hshift]
  refine h.of_store (by rw [shiftLoad_eq]; rfl) (by rw [shiftLoad_eq]; rfl) (by rw [shiftLoad_eq]; rfl) ⟨?_, ?_, ?_⟩
    fun j => .inl (hung_setItem (x := x) hit rfl (fun j => (congrFun hitem j).trans (item_setItem ..)) j)
  · unfold ItemsShaped
    rw [hshift]
    exact hput
  · refine (loadsAgree_iff (by rw [hshift]; exact hput.1) tag).2 ?_
    rw [hitem, item_setItem_same]
    exact hbefore.shiftLoad hactual _ _
  · unfold shiftLoad
    split
    · exact rising_setComp (s := s.setItem tag x) hstore.comps ..
    · exact hstore.comps

theorem liftsAgree_replanned {s : State} (h : LiftsAgree s) {tag : Nat} {it : ItemRecord} {plan : Option Goal}
    (hit : s.item tag = some it) (hset : plan ≠ none → it.kind ≠ .constant) (hunset : plan = none → it.state ≠ .pending) :
    LiftsAgree (s.setItem tag { it with plan := plan }) := by
  obtain ⟨-, -, hstore⟩ := (liftsAgree_iff s).1 h
  obtain ⟨htag, hactual, hlink, hplan, hconstant, hrest⟩ := hstore.item_shaped hit
  have hshaped : ItemRecord.Shaped { it with plan := plan } := by
    refine ⟨hactual, hlink, fun hs => ?_, fun hk => ⟨(hconstant hk).1, by_contra fun hp => hset hp hk⟩, hrest⟩
    exact Option.isSome_iff_ne_none.2 fun hp => hunset hp hs
  have hput := itemsShaped_setItem hstore.items htag hshaped (.inl ⟨it, hit⟩)
  refine h.of_store rfl rfl rfl ⟨hput, (loadsAgree_iff hput.1 tag).2 ?_, hstore.comps⟩
    fun j => .inl (hung_setItem (x := { it with plan := plan }) hit rfl (item_setItem s · tag _) j)
  rw [item_setItem_same]
  refine ((hit ▸ (loadsAgree_iff hstore.items.1 tag).1 hstore.loads).setItem _).congr (fun n => rfl) fun n => ?_
  exact ⟨fun ⟨k, hk, hin⟩ => ⟨it, rfl, by cases hk; exact hin⟩, fun ⟨k, hk, hin⟩ => ⟨_, rfl, by cases hk; exact hin⟩⟩

/-! ### Deletion (R45) -/

theorem hung_dropPlanRest (tag : Nat) (it : ItemRecord) : (dropPlanRest tag it).hung = it.hung := by
  unfold dropPlanRest
  split
  · split <;> rfl
  · rfl

theorem aboardIn_dropPlanRest (tag : Nat) (it : ItemRecord) (n : Nat) : aboardIn (dropPlanRest tag it) n = aboardIn it n := by
  unfold dropPlanRest
  split
  · split <;> rfl
  · rfl

theorem shaped_dropPlanRest {it : ItemRecord} (h : it.Shaped) (tag : Nat) : (dropPlanRest tag it).Shaped := by
  obtain ⟨h1, h2, h3, h4, h5⟩ := h
  unfold dropPlanRest
  split
  · next pl hp =>
    split
    · exact ⟨h1, h2, fun _ => rfl, fun hk => (nomatch hp.symm.trans (h4 hk).2), h5⟩
    · exact ⟨h1, h2, h3, h4, h5⟩
  · exact ⟨h1, h2, h3, h4, h5⟩

/-- An item deleted that is stowed nowhere: the others are as they were but for the plans that rested on it. -/
theorem storeSide_deleted {s t : State} (h : ItemsShaped s) (hrising : t.cond.comps.Rising) {tag : Nat} (hstowed : StowedAs tag none s)
    (hitems : t.cond.items = (s.cond.items.drop tag).mapVals (fun _ x => dropPlanRest tag x)) (hcomps : t.cond.comps = s.cond.comps) :
    StoreSide t ∧ ∀ j, t.item j = if j = tag then none else (s.item j).map (dropPlanRest tag) := by
  obtain ⟨hup, hlen, hall⟩ := h
  have hitem (j : Nat) : t.item j = if j = tag then none else (s.item j).map (dropPlanRest tag) := by
    unfold State.item
    rw [hitems, Table.find_mapVals]
    split
    · next hj => rw [hj, Table.find_drop_same]; rfl
    · next hj => rw [Table.find_drop_other _ hj]
  have hcomp : t.comp = s.comp := by unfold State.comp; rw [hcomps]
  refine ⟨⟨⟨?_, ?_, fun e he => ?_⟩, fun n => ?_, hrising⟩, hitem⟩
  · rw [hitems]
    exact Table.rising_mapVals _ (Table.rising_drop tag hup)
  · rw [hitems]
    unfold Table.mapVals
    rw [List.length_map]
    exact (Table.length_drop_le ..).trans hlen
  · rw [hitems] at he
    obtain ⟨x, hx, rfl⟩ := List.mem_map.1 he
    obtain ⟨htag, hshaped⟩ := hall x (List.mem_filter.1 hx).1
    exact ⟨htag, shaped_dropPlanRest hshaped tag⟩
  · obtain ⟨hload, hnodup, hown, hothers⟩ := hstowed n
    rw [hcomp, hitems, massAboard_mapVals (fun _ it => dropPlanRest_mass tag it) fun _ it n => aboardIn_dropPlanRest tag it n]
    refine ⟨hload.trans (Int.add_zero _), hnodup, fun j => ?_⟩
    rw [hitem]
    by_cases hj : j = tag
    · rw [if_pos hj, hj]
      exact hown.trans ⟨fun ⟨_, hk, _⟩ => (nomatch hk), fun ⟨_, hk, _⟩ => (nomatch hk)⟩
    · rw [if_neg hj, hothers j hj]
      constructor
      · rintro ⟨it, hit, hin⟩
        exact ⟨_, congrArg (Option.map (dropPlanRest tag)) hit, (aboardIn_dropPlanRest tag it n).trans hin⟩
      · rintro ⟨x, hx, hin⟩
        obtain ⟨it, hit, rfl⟩ := Option.map_eq_some_iff.1 hx
        exact ⟨it, hit, (aboardIn_dropPlanRest tag it n).symm.trans hin⟩

theorem itemsShaped_leaveComp {s : State} (h : ItemsShaped s) (tag : Nat) (it : ItemRecord) : ItemsShaped (leaveComp tag it s) := by
  unfold ItemsShaped at *
  rwa [items_leaveComp]

/-- An item that leaves its compartment is stowed nowhere. -/
theorem stowedAs_left {s : State} (h : StoreSide s) {tag : Nat} {it : ItemRecord} (hit : s.item tag = some it) :
    StowedAs tag none (leaveComp tag it s) := by
  obtain ⟨-, hactual, -⟩ := h.item_shaped hit
  exact (hit ▸ (loadsAgree_iff h.items.1 tag).1 h.loads).leaveComp hactual

/-- What a deletion leaves of the store. -/
theorem storeSide_deleteItem {s : State} (h : StoreSide s) {tag : Nat} {it : ItemRecord} (hit : s.item tag = some it) :
    StoreSide (deleteItem tag s) ∧ ∀ j, (deleteItem tag s).item j = if j = tag then none else (s.item j).map (dropPlanRest tag) := by
  have hitem : (leaveComp tag it s).item = s.item := by unfold State.item; rw [items_leaveComp]
  rw [← hitem]
  refine storeSide_deleted (itemsShaped_leaveComp h.items tag it) ?_ (stowedAs_left h hit) ?_ ?_
  · rw [deleteItem_eq hit]
    exact rising_leaveComp h.comps tag it
  · rw [deleteItem_eq hit, items_leaveComp]
    rfl
  · rw [deleteItem_eq hit]
    rfl

theorem liftsAgree_removed {s : State} (h : LiftsAgree s) {tag : Nat} {it : ItemRecord} (hit : s.item tag = some it)
    (hfree : s.itemBusy tag it = false) : LiftsAgree (deleteItem tag s) := by
  obtain ⟨-, -, hstore⟩ := (liftsAgree_iff s).1 h
  obtain ⟨hdeleted, hitem⟩ := storeSide_deleteItem hstore hit
  refine h.of_store (by rw [deleteItem_eq hit]; rfl) (by rw [deleteItem_eq hit]; rfl) (by rw [deleteItem_eq hit]; rfl) hdeleted
    fun j => ?_
  rw [hitem]
  by_cases hj : j = tag
  · rw [if_pos hj, hj]
    exact .inr ⟨named_eq_false (Bool.or_eq_false_iff.1 hfree).2, fun _ hx => (nomatch hx)⟩
  · rw [if_neg hj, Option.map_map]
    exact .inl (congrArg (fun f => (s.item j).map f) (funext fun x => hung_dropPlanRest tag x))

/-! ### Compartments (R46, R47) -/

theorem liftsAgree_flagged {s : State} (h : LiftsAgree s) (n : Nat) (f : OpenFlag) :
    LiftsAgree (s.setComp n { s.comp n with flag := f }) := by
  obtain ⟨-, -, hstore⟩ := (liftsAgree_iff s).1 h
  refine h.of_store rfl rfl rfl ⟨hstore.items, fun m => ?_, rising_setComp hstore.comps ..⟩ fun j => .inl rfl
  obtain ⟨hload, hnodup, hmem⟩ := hstore.loads m
  rw [comp_setComp]
  split
  · next hm => subst hm; exact ⟨hload, hnodup, hmem⟩
  · exact ⟨hload, hnodup, hmem⟩

/-- A compartment table rewritten without its default entries. -/
theorem value_mapped {f : CompState → CompState} (hf : f .empty = .empty) {t : Table CompState} (h : t.Rising) (n : Nat) :
    Table.value .empty n ((t.mapVals (fun _ cs => f cs)).filter (fun e => e.2 != .empty)) = f (t.value .empty n) := by
  rw [Table.value_filter _ _ (Table.rising_mapVals _ h)]
  unfold Table.value
  rw [Table.find_mapVals]
  cases t.find n with
  | none => exact hf.symm
  | some cs => rfl

/-- The store with no item and no load. -/
theorem storeSide_emptied {s t : State} (h : s.cond.comps.Rising) (hitems : t.cond.items = [])
    (hcomps : t.cond.comps = (s.cond.comps.mapVals (fun _ cs => { cs with load := 0, stow := [] })).filter (fun e => e.2 != .empty)) :
    StoreSide t := by
  have hitem (j : Nat) : t.item j = none := by unfold State.item; rw [hitems]; rfl
  refine ⟨⟨?_, ?_, fun e he => ?_⟩, fun n => ?_, ?_⟩
  · rw [hitems]
    exact .nil
  · rw [hitems]
    exact Nat.zero_le _
  · rw [hitems] at he
    cases he
  · have hcomp : t.comp n = { s.comp n with load := 0, stow := [] } := by
      unfold State.comp
      rw [hcomps]
      exact value_mapped (f := fun cs => { cs with load := 0, stow := [] }) rfl h n
    rw [hcomp, hitems]
    refine ⟨rfl, List.nodup_nil, fun j => ?_⟩
    rw [hitem]
    exact ⟨fun hx => (nomatch hx), fun ⟨_, hx, _⟩ => (nomatch hx)⟩
  · rw [hcomps]
    exact Table.rising_filter _ (Table.rising_mapVals _ h)

theorem carry_none_of_inactive {s : State} (h : s.liftsActive = false) (c : Crane) : s.carry c = none := by
  rw [liftsActive_eq_false_iff] at h
  refine carryOf_inactive ?_
  simpa using (liftActive_eq_false_iff _).1 (h c)

theorem liftsAgree_emptied {s : State} (h : LiftsAgree s) (hactive : s.liftsActive = false) :
    LiftsAgree (((emptyStows s).withTanks { (emptyStows s).tanks with fills := [] }).withTrials ⟨[], false⟩) := by
  obtain ⟨-, -, hstore⟩ := (liftsAgree_iff s).1 h
  refine h.of_store rfl rfl rfl (storeSide_emptied hstore.comps rfl rfl) fun j => .inr ⟨fun c v hv => ?_, fun _ hx => (nomatch hx)⟩
  rw [carry_none_of_inactive hactive] at hv
  cases hv

end Sys2Proof.Machine
end

section
namespace Sys2Proof.Machine
open Sys2Proof

/-! ### HOOK ON (R137, R138) -/

/-- A move of a crew is that of the same cranes in another order. -/
theorem CrewStep.swap {c d : Crane} {o : Option LiftState} {s t : State} (h : CrewStep [c, d] o s t) : CrewStep [d, c] o s t := by
  have hmem (e : Crane) : e ∈ [d, c] ↔ e ∈ [c, d] := by simp [or_comm]
  exact ⟨h.unit, h.shown, h.waiters, fun e he => h.others e (mt (hmem e).2 he), fun e he => h.quiet e ((hmem e).1 he),
    fun e he => h.moved e ((hmem e).1 he), h.eval, h.cond⟩

/-- A GRANTED record is SLUNG at a hook point. -/
theorem crewStep_slingRecord {s : State} {d : Crane} {w : Carry} (hunit : UnitFits s) (hw : s.carry d = some w)
    (hstate : w.state = .granted) (q : Point) : CrewStep [d] (some .slung) s (slingRecord d q s) := by
  obtain ⟨-, l, hl, rfl⟩ := carryOf_eq_some.1 hw
  replace hstate : (s.record d).state = .granted := hstate
  have hquiet : (s.record d).silent = false := Bool.eq_false_iff.2 fun hs => nomatch (hunit.silent d hs).symm.trans hstate
  have hshaped := hunit.shaped d
  have hslung : (slungRecord s (s.record d) q).Shaped := by
    have h := hshaped.slung hl (some q) (fun hq => nomatch hq) (t := some (freshTimer s .report)) (fun u hu => by cases hu; rfl)
      (no_outcome hshaped (by rw [hstate]; exact fun hx => (nomatch hx))) (s.record d).silent
    rwa [show (some { l with hook := (some q).or l.hook } : Option Lift) =
      (s.record d).lift.map (fun l => { l with hook := some q }) by rw [hl]; rfl] at h
  show CrewStep [d] (some .slung) s (s.setRecord d (slungRecord s (s.record d) q))
  refine ⟨hunit.setRecord hslung (fun _ => rfl) ⟨fun hs => (nomatch hs), fun hs => (nomatch hs.symm.trans hstate)⟩, fun _ hb => hb,
    fun hwait => hwait, fun e he => ?_, fun e he => ?_, fun e he => ?_, rfl, rfl⟩
  · rw [record_setRecord, if_neg (mt List.mem_singleton.2 he)]
  · rw [record_setRecord, if_pos (List.mem_singleton.1 he)]
    exact hquiet
  · obtain rfl := List.mem_singleton.1 he
    rw [carry_setRecord, if_pos rfl, hw]
    refine carryOf_of rfl rfl ?_ ?_
    · show ((s.record e).lift.map _).map Lift.role = _
      rw [hl]
      rfl
    · show ((s.record e).lift.map _).map Lift.tag = _
      rw [hl]
      rfl

/-- The item of a HOOK ON leaves its compartment and hangs on the hook. -/
theorem storeSide_slingItem {s : State} (h : StoreSide s) {tag : Nat} {it : ItemRecord} (hit : s.item tag = some it)
    (hkind : it.kind = .cargo) (c : Crane) : StoreSide (slingItem tag c s) ∧
      ∀ j, (slingItem tag c s).item j = if j = tag then some { it with state := .slung, actual := none, link := some c } else s.item j := by
  obtain ⟨htag, hactual, hlink, hplan, hconstant, hrest⟩ := h.item_shaped hit
  have hsling : slingItem tag c s =
      (leaveComp tag it s).setItem tag { it with state := .slung, actual := none, link := some c } := by
    unfold slingItem
    rw [hit]
  have hitem : (leaveComp tag it s).item = s.item := by unfold State.item; rw [items_leaveComp]
  have hshaped : ItemRecord.Shaped { it with state := .slung, actual := none, link := some c } :=
    ⟨⟨fun hx => (nomatch hx), fun hx => (nomatch hx)⟩, ⟨fun _ => rfl, fun _ => rfl⟩, fun hx => (nomatch hx),
      fun hk => (nomatch hkind.symm.trans hk), hrest⟩
  have hput := itemsShaped_setItem (itemsShaped_leaveComp h.items tag it) htag hshaped (.inl ⟨it, by rw [hitem]; exact hit⟩)
  rw [hsling]
  refine ⟨⟨hput, (loadsAgree_iff hput.1 tag).2 ?_, rising_leaveComp h.comps tag it⟩, fun j => ?_⟩
  · rw [item_setItem_same]
    exact ((stowedAs_left h hit).setItem _).of_not_aboard fun hx => (nomatch hx)
  · rw [item_setItem, hitem]

theorem liftsAgree_hooked {s : State} (h : LiftsAgree s) {c : Crane} {q : Point} {l : Lift}
    (hrole : liftRole (s.record c) ≠ some .partner) (hstate : (s.record c).state = .granted) (hl : (s.record c).lift = some l) :
    LiftsAgree (slingRecord c q (if s.ledTandem c then slingPartner (otherCrane c) (slingItem l.tag c s) else slingItem l.tag c s)) := by
  obtain ⟨hlift, hhooks, hstore⟩ := (liftsAgree_iff s).1 h
  obtain ⟨v, hcrew, hv⟩ := isCrew_granted h hstate hrole
  have htag : v.tag = l.tag := by
    have := tag_of_carry hcrew.own
    rw [hl] at this
    exact (Option.some.inj this).symm
  obtain ⟨it, hit, hkind, -⟩ := hhooks.1 c v hcrew.own
  rw [htag] at hit
  obtain ⟨hstore', hitem⟩ := storeSide_slingItem hstore hit hkind c
  set u := slingItem l.tag c s with hu
  have hsame : u.lifts = s.lifts ∧ u.attn = s.attn ∧ u.eval = s.eval := by
    rw [hu, slingItem_eq c hit]
    exact ⟨rfl, rfl, rfl⟩
  obtain ⟨hlifts, hattn, heval⟩ := hsame
  have hside : LiftSide u := hlift.of_same hlifts hattn heval
  have hcarry := carry_of_lifts hlifts
  have hown : u.carry c = some v := (congrFun hcarry c).trans hcrew.own
  have hstep : CrewStep (s.crew c) (some .slung) u
      (slingRecord c q (if s.ledTandem c then slingPartner (otherCrane c) u else u)) := by
    have hmoves := hcrew
    rw [crew_eq] at hmoves ⊢
    by_cases hled : s.ledTandem c = true
    · rw [if_pos hled] at hmoves
      rw [if_pos hled, if_pos hled]
      cases hmoves with
      | pair _ _ _ hbeside =>
        have hother : u.carry (otherCrane c) = some { v with role := .partner } := (congrFun hcarry _).trans hbeside
        obtain ⟨-, k, hk, -⟩ := carryOf_eq_some.1 hother
        have hpartner : slingPartner (otherCrane c) u = slingRecord (otherCrane c) k.outreach u := by
          unfold slingPartner recordOutreach
          rw [hk]
          rfl
        rw [hpartner]
        have hfirst := crewStep_slingRecord hside.unit hother hv k.outreach
        refine (hfirst.both (crewStep_slingRecord hfirst.unit ?_ hv q) (otherCrane_ne c)).swap
        exact (congrArg carryOf (hfirst.others c (by simp [(otherCrane_ne c).symm]))).trans hown
    · rw [if_neg hled, if_neg hled]
      exact crewStep_slingRecord hside.unit hown hv q
  have hcrew' : IsCrew u.carry c v (s.crew c) := hcarry ▸ hcrew
  have hquiet : ∀ d ∈ s.crew c, (u.record d).silent = false := fun d hd => Bool.eq_false_iff.2 fun hs => by
    obtain ⟨x, hx, hxs, -⟩ := hcrew'.carries hd
    exact nomatch (hside.unit.silent d hs).symm.trans ((state_of_carry hx).trans (hxs.trans hv))
  refine (liftsAgree_iff _).2 ⟨⟨hstep.unit, ?_, hstep.waiters hside.waiters, ?_, fun d => ?_⟩, ?_,
    hstore'.of_same (by rw [hstep.cond]) (by rw [hstep.cond])⟩
  · rw [hstep.same_marks hquiet]
    exact hstep.shown _ hside.shown
  · rw [hstep.carry]
    exact hcrew'.teamed hside.teamed (fun hx => (nomatch hx)) fun hx => (nomatch hv.symm.trans hx)
  · rw [hstep.carry, hstep.eval]
    exact hcrew'.checks (o := some .slung) hside.checks (by rw [hv]; exact fun hx => (nomatch hx)) (fun hx => (nomatch hx)) d
  · rw [hstep.carry, item_of_cond hstep.cond, hcarry]
    exact hcrew.hooks_slung hlift.teamed hhooks (it := it) (by rw [htag]; exact hit) fun j => by rw [htag]; exact hitem j

/-! ### LANDED (R141 to R144) -/

/-- The item of a LANDED is set down, or deleted. -/
theorem storeSide_setDown {s : State} (h : StoreSide s) {tag : Nat} {it : ItemRecord} (hit : s.item tag = some it)
    (hslung : it.state = .slung) (g : Goal) : StoreSide (setDown tag g s) ∧
      (∀ x, (setDown tag g s).item tag = some x → x.state ≠ .slung) ∧
      ∀ j, j ≠ tag → ((setDown tag g s).item j).map ItemRecord.hung = (s.item j).map ItemRecord.hung := by
  cases g with
  | ashore =>
    obtain ⟨hdeleted, hitem⟩ := storeSide_deleteItem h hit
    refine ⟨hdeleted, fun x hx => ?_, fun j hj => ?_⟩
    · cases ((hitem tag).trans (if_pos rfl)).symm.trans hx
    · show ((deleteItem tag s).item j).map ItemRecord.hung = _
      rw [hitem, if_neg hj, Option.map_map]
      exact congrArg (fun f => (s.item j).map f) (funext fun x => hung_dropPlanRest tag x)
  | place pl =>
    obtain ⟨htag, hactual, hlink, hplan, hconstant, hrest⟩ := h.item_shaped hit
    let x : ItemRecord := { it with
      state := .aboard, actual := some pl, link := none, plan := if it.plan = some (.place pl) then none else it.plan }
    have hshaped : x.Shaped := ⟨⟨fun _ => rfl, fun _ => rfl⟩, ⟨fun hx => (nomatch hx), fun hx => (nomatch hx)⟩, fun hx => (nomatch hx),
      fun hk => (nomatch hslung.symm.trans (hconstant hk).1), hrest⟩
    have hdown : setDown tag (.place pl) s = stowIn tag x.mass pl.comp (s.setItem tag x) := by
      unfold setDown
      dsimp only
      rw [hit]
    have hput := itemsShaped_setItem h.items htag hshaped (.inl ⟨it, hit⟩)
    have hnowhere : StowedAs tag none s :=
      (hit ▸ (loadsAgree_iff h.items.1 tag).1 h.loads).none_of_not_aboard (by rw [hslung]; exact fun hx => (nomatch hx))
    have hstowed := (hnowhere.setItem x).stowIn (it := x) (pl := pl) rfl rfl
    have hitem (j : Nat) : (stowIn tag x.mass pl.comp (s.setItem tag x)).item j = if j = tag then some x else s.item j :=
      item_setItem s j tag x
    rw [hdown]
    refine ⟨⟨hput, (loadsAgree_iff (s := stowIn tag x.mass pl.comp (s.setItem tag x)) hput.1 tag).2 ?_,
      rising_setComp (s := s.setItem tag x) h.comps ..⟩, fun y hy => ?_, fun j hj => ?_⟩
    · rw [hitem, if_pos rfl]
      exact hstowed
    · rw [hitem, if_pos rfl] at hy
      cases hy
      exact fun hx => (nomatch hx)
    · rw [hitem, if_neg hj]

theorem setDown_same {s : State} {tag : Nat} {it : ItemRecord} (hit : s.item tag = some it) (g : Goal) :
    (setDown tag g s).lifts = s.lifts ∧ (setDown tag g s).attn = s.attn ∧ (setDown tag g s).eval = s.eval := by
  cases g with
  | ashore =>
    show (deleteItem tag s).lifts = _ ∧ (deleteItem tag s).attn = _ ∧ (deleteItem tag s).eval = _
    rw [deleteItem_eq hit]
    exact ⟨rfl, rfl, rfl⟩
  | place pl =>
    rw [setDown_place hit]
    exact ⟨rfl, rfl, rfl⟩

theorem liftsAgree_landed {s : State} (h : LiftsAgree s) {c : Crane} {l : Lift} (hrole : liftRole (s.record c) ≠ some .partner)
    (hstate : (s.record c).state = .slung) (hl : (s.record c).lift = some l) (code : OutcomeCode) (g : Goal) (mass : Int) :
    LiftsAgree (finishLift code (some g) mass (s.crew c) (setDown l.tag g s)) := by
  obtain ⟨hlift, hhooks, hstore⟩ := (liftsAgree_iff s).1 h
  have hv := carryOf_active (by rw [hstate]; exact fun hx => (nomatch hx)) (by rw [hstate]; exact fun hx => (nomatch hx)) hl
  have hcrew := isCrew_crew hlift hv fun hr => hrole ((liftRole_of_carry hv).trans (congrArg some hr))
  obtain ⟨it, hit, -, hslung⟩ := hhooks.1 c _ hv
  obtain ⟨hstore', hown, hothers⟩ := storeSide_setDown hstore hit (hslung.2 hstate) g
  obtain ⟨hlifts, hattn, heval⟩ := setDown_same hit g
  have hside : LiftSide (setDown l.tag g s) := hlift.of_same hlifts hattn heval
  have hcarry := carry_of_lifts hlifts
  have hcrew' := hcrew
  rw [← hcarry] at hcrew'
  obtain ⟨hend, hendCarry⟩ := liftSide_finishLift hside hcrew' (by show (s.record c).state ≠ _; rw [hstate]; exact fun hx => (nomatch hx)) code (some g) mass
  have hcond := finishLift_cond hside hcrew' code (some g) mass
  refine (liftsAgree_iff _).2 ⟨hend, ?_, hstore'.of_same (by rw [hcond]) (by rw [hcond])⟩
  rw [hendCarry, item_of_cond hcond, hcarry]
  exact hcrew.hooks_ended hlift.teamed hhooks hown hothers

/-! ### Every change -/

theorem ChangeWork.agree {s u : State} (h : ChangeWork s u) (hs : LiftsAgree s) : LiftsAgree u := by
  cases h with
  | added h => exact liftsAgree_addEntries hs h
  | amended hit _ hmass hdport => exact liftsAgree_amended hs hit hmass hdport
  | replanned hit _ hset hunset => exact liftsAgree_replanned hs hit hset hunset
  | removed hit hfree => exact liftsAgree_removed hs hit hfree
  | flagged n f => exact liftsAgree_flagged hs n f
  | emptied hactive => exact liftsAgree_emptied hs hactive
  | weighed d => exact Aside.agree (s := s) ⟨rfl, rfl, rfl, rfl, rfl, id, id⟩ hs
  | sounded pairs => exact (aside_withTanks ..).agree hs
  | hooked hrole hstate hlift => exact liftsAgree_hooked hs hrole hstate hlift
  | moved hstate => exact liftsAgree_hookAt hs hstate _
  | landed hrole hstate hlift => exact liftsAgree_landed hs hrole hstate hlift _ _ _

theorem liftsAgree_applyChange {s : State} (h : LiftsAgree s) (p : Port) (ch : Change) : LiftsAgree (applyChange p ch s).1 := by
  rcases applyChange_done p ch s with heq | ⟨u, hu, heq⟩
  · rw [heq]
    exact h
  · rw [heq]
    exact (aside_advance u).agree (hu.agree h)

theorem liftsAgree_changeArrives {s : State} (h : LiftsAgree s) (p : Port) (ch : Change) : LiftsAgree (changeArrives p ch s) := by
  unfold changeArrives
  split
  · exact liftsAgree_hookArrives h _
  · exact liftsAgree_reportArrives h _
  · exact liftsAgree_reportArrives h _
  · exact h

theorem liftsAgree_takeChange {s : State} (h : LiftsAgree s) (ch : Change) (q : Caller) : LiftsAgree (takeChange ch q s) := by
  have harrived := liftsAgree_changeArrives h q.port ch
  unfold takeChange
  dsimp only
  split_ifs
  · exact (aside_answer ..).agree h
  · exact (aside_answer ..).agree harrived
  · refine (aside_defer ..).agree (Aside.agree ?_ harrived)
    exact ⟨rfl, rfl, rfl, rfl, rfl, id, id⟩
  · exact (aside_answer ..).agree (liftsAgree_applyChange harrived ..)

end Sys2Proof.Machine
end

section
namespace Sys2Proof.Machine
open Sys2Proof

/-! ### Jobs (R78 to R84, R133) -/

theorem firstLift_pending {e : EvalUnit} {c : Crane} (h : firstLift e = some c) : checkPending e c = true := by
  unfold firstLift at h
  unfold checkPending
  cases h1 : e.slotC1 <;> cases h2 : e.slotC2 <;> rw [h1, h2] at h
  · cases h
  · cases h; rfl
  · cases h; rfl
  · cases c <;> rfl

theorem firstLift_none {e : EvalUnit} (h : firstLift e = none) : e.slotC1 = none ∧ e.slotC2 = none := by
  unfold firstLift at h
  cases h1 : e.slotC1 <;> cases h2 : e.slotC2 <;> rw [h1, h2] at h
  · exact ⟨rfl, rfl⟩
  · cases h
  · cases h
  · dsimp only at h
    split at h <;> cases h

/-- Where a check waits, its record holds the lift to check. -/
theorem lift_of_pending {s : State} (h : LiftsAgree s) {c : Crane} (hc : checkPending s.eval c = true) :
    ∃ l, (s.record c).lift = some l := by
  obtain ⟨hlift, -⟩ := (liftsAgree_iff s).1 h
  obtain ⟨v, hv, -⟩ := (hlift.checks c).1.1 (by rw [hc, Bool.true_or])
  obtain ⟨-, l, hl, -⟩ := carryOf_eq_some.1 hv
  exact ⟨l, hl⟩

/-- Work on the evaluation unit alone. -/
theorem LiftsAgree.withEval {s : State} (h : LiftsAgree s) {e : EvalUnit} (he : ∀ c, CheckFits e c (s.carry c)) :
    LiftsAgree (s.withEval e) := by
  obtain ⟨⟨hunit, hshown, hwaiters, hteamed, -⟩, hhooks, hstore⟩ := (liftsAgree_iff s).1 h
  exact (liftsAgree_iff _).2 ⟨⟨hunit.of_records rfl rfl rfl, hshown, hwaiters, hteamed, he⟩, hhooks, hstore.of_same rfl rfl⟩

/-- A check that starts runs in place of waiting. -/
theorem liftsAgree_startLiftCheck {s : State} (h : LiftsAgree s) {c : Crane} (hc : checkPending s.eval c = true)
    (hfree : s.eval.engine = none) : LiftsAgree (startLiftCheck c s) := by
  obtain ⟨l, hl⟩ := lift_of_pending h hc
  obtain ⟨hlift, -⟩ := (liftsAgree_iff s).1 h
  have hstart : startLiftCheck c s = s.withEval { (dropLiftSlot c s).eval with
      engine := some ⟨.capturing, s.cond.version, .lift c (pathCapture s c l) (finalCapture s c l)⟩ } := by
    unfold startLiftCheck
    rw [hl]
    cases c <;> rfl
  rw [hstart]
  refine h.withEval fun d => ?_
  have hrunning : checkRunning s.eval d = false := by
    unfold checkRunning
    rw [hfree]
  have hfit := hlift.checks d
  unfold CheckFits at hfit ⊢
  rw [hrunning] at hfit
  have hnow : checkRunning { (dropLiftSlot c s).eval with
      engine := some ⟨.capturing, s.cond.version, .lift c (pathCapture s c l) (finalCapture s c l)⟩ } d = (c == d) := rfl
  rw [hnow]
  by_cases hd : d = c
  · subst hd
    have hpending : checkPending { (dropLiftSlot d s).eval with
        engine := some ⟨.capturing, s.cond.version, .lift d (pathCapture s d l) (finalCapture s d l)⟩ } d = false := by
      cases d <;> rfl
    rw [hpending, beq_self_eq_true]
    rw [hc] at hfit
    exact ⟨hfit.1, rfl⟩
  · have hpending : checkPending { (dropLiftSlot c s).eval with
        engine := some ⟨.capturing, s.cond.version, .lift c (pathCapture s c l) (finalCapture s c l)⟩ } d =
        checkPending s.eval d := by
      obtain rfl : d = otherCrane c := (eq_or_eq_other c d).resolve_left hd
      cases c <;> rfl
    rw [hpending, beq_eq_false_iff_ne.2 (Ne.symm hd)]
    exact hfit

/-- A job that is no lift check starts or ends beside the lift checks. -/
theorem aside_job {s : State} {x : EvalUnit} (h1 : x.slotC1 = s.eval.slotC1) (h2 : x.slotC2 = s.eval.slotC2)
    (hbefore : ∀ c, checkRunning s.eval c = false) (hafter : ∀ c, checkRunning x c = false)
    (hclock : ClockKept s.eval → ClockKept x) : Aside s (s.withEval x) := by
  refine ⟨rfl, rfl, rfl, ?_, funext fun c => (hafter c).trans (hbefore c).symm, hclock, id⟩
  funext c
  cases c
  · exact congrArg Option.isSome h1
  · exact congrArg Option.isSome h2

theorem checkRunning_free {e : EvalUnit} (h : e.engine = none) (c : Crane) : checkRunning e c = false := by
  unfold checkRunning
  rw [h]

theorem liftsAgree_startJob {s : State} (h : LiftsAgree s) : LiftsAgree (startJob s) := by
  unfold startJob
  split
  · next hcond =>
    obtain ⟨-, hfree⟩ := hcond
    split
    · next hfirst => exact liftsAgree_startLiftCheck h (firstLift_pending hfirst) hfree
    · exact Aside.agree (s := s) (aside_job (s := s) rfl rfl (checkRunning_free hfree) (fun _ => rfl) id) h
    · split
      · exact Aside.agree (s := s) (aside_job (s := s) rfl rfl (checkRunning_free hfree) (fun _ => rfl) id) h
      · exact h
  · exact h

theorem liftsAgree_arbitrate {s : State} (h : LiftsAgree s) (e : EvalUnit) : LiftsAgree (arbitrate e s) := by
  unfold arbitrate
  split
  · exact liftsAgree_startJob h
  · exact h

/-- A routine job that ends frees the engine beside the lift checks (R97). -/
theorem aside_completeRoutine {s : State} {v : Version} {cap : Capture} {slung : Bool} {d : DraftCapture}
    (h : s.eval.engine = some ⟨.computing, v, .routine cap slung d⟩) (f : FigureSet) (dis : Option Int) :
    Aside s (completeRoutine v slung f dis s) := by
  have hbefore : ∀ c, checkRunning s.eval c = false := fun c => by unfold checkRunning; rw [h]
  have hwork : ∃ u, Aside s u ∧ completeRoutine v slung f dis s = u.withEval { u.eval with engine := none } := by
    refine ⟨_, ?_, rfl⟩
    refine .trans ?_ (aside_startInterval _)
    refine .trans ?_ (aside_raiseAll (by decide) (by decide) _)
    exact .trans (aside_judgeResult ..) (aside_withEval rfl rfl rfl id)
  obtain ⟨u, hu, heq⟩ := hwork
  rw [heq]
  exact hu.trans (aside_job rfl rfl (fun c => (congrFun hu.running c).trans (hbefore c)) (fun _ => rfl) id)

/-- So does a prospective job (R175). -/
theorem aside_completeProspect {s : State} {v : Version} {sc : Scope} {cap : Capture} {n a k : Nat} {lost : Bool} {q : Caller}
    (h : s.eval.engine = some ⟨.computing, v, .prospect sc cap n a k lost q⟩) (r : ProspectResult) :
    Aside s (completeProspect q r s) :=
  .trans (t := s.withEval { s.eval with prospect := some r, lastProspectSeq := r.header.seq, engine := none })
    (aside_job rfl rfl (fun c => by unfold checkRunning; rw [h]) (fun _ => rfl) id) (aside_deliver ..)

theorem liftsAgree_applyHeld {s : State} (h : LiftsAgree s) (x : Held) : LiftsAgree (applyHeld s x) :=
  (aside_deliver ..).agree (liftsAgree_applyChange h ..)

/-- The end of a capture applies the held changes and leaves the lift that its job checks (R84). -/
theorem liftsAgree_capturesComplete {s : State} (h : LiftsAgree s) : LiftsAgree (capturesComplete s) := by
  unfold capturesComplete
  split
  · exact h
  · next j hj =>
    split
    · have hstart : LiftsAgree (s.withCond { s.cond with hold := [] }) := Aside.agree (s := s) ⟨rfl, rfl, rfl, rfl, rfl, id, id⟩ h
      have hturns (l : List Held) (t : State) (ht : LiftsAgree t) : LiftsAgree (l.foldl applyHeld t) := by
        induction l generalizing t with
        | nil => exact ht
        | cons x l ih => exact ih _ (liftsAgree_applyHeld ht x)
      have hdone := hturns s.cond.hold _ hstart
      have hengine : (s.cond.hold.foldl applyHeld (s.withCond { s.cond with hold := [] })).eval.engine = some j :=
        (applyHeld_foldl_keeps s.cond.hold _).2.trans hj
      refine hdone.withEval fun c => ?_
      have hfit := ((liftsAgree_iff _).1 hdone).1.checks c
      have hrunning : checkRunning { (s.cond.hold.foldl applyHeld (s.withCond { s.cond with hold := [] })).eval with
          engine := some { j with stage := .computing } } c =
          checkRunning (s.cond.hold.foldl applyHeld (s.withCond { s.cond with hold := [] })).eval c := by
        unfold checkRunning
        rw [hengine]
      have hpending : checkPending { (s.cond.hold.foldl applyHeld (s.withCond { s.cond with hold := [] })).eval with
          engine := some { j with stage := .computing } } c =
          checkPending (s.cond.hold.foldl applyHeld (s.withCond { s.cond with hold := [] })).eval c := by
        cases c <;> rfl
      unfold CheckFits at hfit ⊢
      rw [hrunning, hpending]
      exact hfit
    · exact h

/-! ### The ship data store (R14, R16, R19, R20) -/

theorem liftsAgree_loadSlots {s : State} (h : LiftsAgree s) : LiftsAgree (loadSlots s) := by
  obtain ⟨-, -, hstore⟩ := (liftsAgree_iff s).1 h
  let u := s.withCond { s.cond with
    comps := (s.cond.comps.mapVals (fun _ cs => { cs with flag := .opened })).filter (fun e => e.2 != .empty) }
  have hu : LiftsAgree u := by
    refine h.of_store rfl rfl rfl ⟨hstore.items, fun n => ?_, Table.rising_filter _ (Table.rising_mapVals _ hstore.comps)⟩ fun _ => .inl rfl
    have hcomp : u.comp n = { s.comp n with flag := .opened } := comp_opened _ hstore.comps n
    rw [hcomp]
    exact hstore.loads n
  refine Aside.agree (.trans (aside_withMon u { s.mon with
    slots := s.ship.image.slots, rangeStart := s.ship.image.range.1, rangeStop := s.ship.image.range.2 })
    (.trans (aside_withShip _ { s.ship with slotsUnloaded := false }) (aside_settle _))) hu

theorem liftsAgree_verifyEnds {s : State} (h : LiftsAgree s) : LiftsAgree (verifyEnds s) := by
  unfold verifyEnds
  split_ifs
  · exact h
  · exact (aside_changeMode ..).agree h
  · exact (aside_changeMode ..).agree h
  · exact (aside_enterService _).agree (liftsAgree_loadSlots h)
  · exact (aside_enterService _).agree h

theorem liftsAgree_commitEnds {s : State} (h : LiftsAgree s) : LiftsAgree (commitEnds s) := by
  unfold commitEnds
  split
  · exact h
  · refine (aside_deliver ..).agree ((aside_enterService _).agree (liftsAgree_loadSlots ?_))
    exact (aside_withShip ..).agree h

/-- The agreement of records that carry nothing with items of which none hangs. -/
theorem liftsAgree_of_inactive {t : State} (hunit : UnitFits t) (hshown : SilenceShown t t.anySilent) (hwaiters : WaitersOwn t)
    (hnone : ∀ c, t.carry c = none) (hidle : ∀ c, checkPending t.eval c = false ∧ checkRunning t.eval c = false)
    (hstore : StoreSide t) (hitems : t.cond.items = []) : LiftsAgree t := by
  refine (liftsAgree_iff t).2 ⟨⟨hunit, hshown, hwaiters, fun c => ?_, fun c => ?_⟩, ⟨fun c v hv => ?_, fun tag it hit => ?_⟩, hstore⟩
  · rw [hnone, hnone]
    exact teamed_none
  · obtain ⟨hpending, hrunning⟩ := hidle c
    unfold CheckFits
    rw [hpending, hrunning, hnone]
    exact ⟨⟨fun hx => (nomatch hx), fun ⟨_, hv, _⟩ => (nomatch hv)⟩, rfl⟩
  · cases (hnone c).symm.trans hv
  · unfold State.item at hit
    rw [hitems] at hit
    cases hit

/-- A COLD restart leaves what the agreement rests on as the reset does. -/
theorem liftsAgree_coldRestart (straps : Straps) (s : State) : LiftsAgree (coldRestart straps s) := by
  rw [coldRestart_eq]
  exact Aside.agree (s := State.reset) ⟨rfl, rfl, rfl, rfl, rfl, fun _ hx => (nomatch hx),
    fun h => h.of_same rfl (fun _ => Iff.rfl) fun _ => Iff.rfl⟩ reset_liftsAgree

end Sys2Proof.Machine
end

section
namespace Sys2Proof.Machine
open Sys2Proof

/-! ### A WARM restart (R148, R192) -/

/-- What a record carries through a WARM restart: a SLUNG lift alone (R148). -/
def keptSlung (a : Option Carry) : Option Carry := a.filter (fun v => v.state == .slung)

theorem keptSlung_eq_some {a : Option Carry} {v : Carry} : keptSlung a = some v ↔ a = some v ∧ v.state = .slung := by
  unfold keptSlung
  rw [Option.filter_eq_some_iff, beq_iff_eq]

theorem adjustRecord_slung {r : LiftRecord} (h : r.state = .slung) : adjustRecord r = { r with timer := none, silent := true } := by
  cases r
  subst h
  rfl

theorem carryOf_adjustRecord (r : LiftRecord) : carryOf (adjustRecord r) = keptSlung (carryOf r) := by
  by_cases hs : r.state = .slung
  · have hkept : keptSlung (carryOf r) = carryOf r := by
      cases hr : carryOf r with
      | none => rfl
      | some v => exact keptSlung_eq_some.2 ⟨rfl, (state_of_carry hr).symm.trans hs⟩
    rw [hkept, adjustRecord_slung hs]
    exact carryOf_congr rfl rfl
  · have hdropped : keptSlung (carryOf r) = none := by
      cases hr : keptSlung (carryOf r) with
      | none => rfl
      | some v =>
        obtain ⟨hv, hvs⟩ := keptSlung_eq_some.1 hr
        exact absurd ((state_of_carry hv).trans hvs) hs
    rw [hdropped]
    unfold adjustRecord
    cases h : r.state with
    | slung => exact absurd h hs
    | idle => exact carryOf_inactive (.inl h)
    | done => exact carryOf_inactive (.inr h)
    | joining => exact carryOf_inactive (.inl rfl)
    | checking => exact carryOf_inactive (.inl rfl)
    | granted => exact carryOf_inactive (.inr rfl)

theorem Beside.keptSlung {a b : Option Carry} (h : Beside a b) : Beside (keptSlung a) (keptSlung b) := by
  intro v hv
  obtain ⟨ha, hs⟩ := keptSlung_eq_some.1 hv
  obtain ⟨hpartner, hlead, hnames⟩ := h v ha
  refine ⟨fun hr => ?_, fun hr hj => keptSlung_eq_some.2 ⟨hlead hr hj, hs⟩, fun w hw => hnames w (keptSlung_eq_some.1 hw).1⟩
  obtain ⟨hj, hb⟩ := hpartner hr
  exact ⟨hj, keptSlung_eq_some.2 ⟨hb, hs⟩⟩

theorem shaped_adjustRecord {r : LiftRecord} (h : r.Shaped) : (adjustRecord r).Shaped := by
  unfold adjustRecord
  split
  · exact h
  · exact h
  · exact shaped_idle _
  · exact shaped_idle _
  · next hstate =>
    obtain ⟨l, hl⟩ := h.lift_of (by rw [hstate]; exact fun hx => (nomatch hx))
    exact h.finished hl .grantLapsed
  · exact h.stopped true

/-- Only a SLUNG record is SILENT after a WARM restart. -/
theorem silent_adjustRecord {r : LiftRecord} (h : r.silent = true → r.state = .slung) :
    (adjustRecord r).silent = true → (adjustRecord r).state = .slung := by
  unfold adjustRecord
  split
  · exact h
  · exact h
  · exact fun hx => (nomatch hx)
  · exact fun hx => (nomatch hx)
  · exact fun hx => (nomatch hx)
  · next hstate => exact fun _ => hstate

/-- An outcome record is kept through a WARM restart exactly by a record that is then DONE. -/
theorem adjustEnded_isSome {s : State} {c : Crane} (hshaped : (s.record c).Shaped)
    (hended : (s.lifts.ended.get c).isSome = true ↔ (s.record c).state = .done) :
    (adjustEnded s c).isSome = true ↔ (adjustRecord (s.record c)).state = .done := by
  by_cases hs : (s.record c).state = .slung
  · rw [adjustRecord_slung hs]
    unfold adjustEnded
    rw [hs]
    exact ⟨fun hx => (nomatch hx), fun hx => (nomatch hx)⟩
  unfold adjustEnded adjustRecord
  cases h : (s.record c).state with
  | granted =>
    obtain ⟨l, hl⟩ := hshaped.lift_of (by rw [h]; exact fun hx => (nomatch hx))
    rw [hl]
    exact ⟨fun _ => rfl, fun _ => rfl⟩
  | done => exact hended
  | idle => exact ⟨fun hx => (nomatch hx), fun hx => (nomatch hx.symm.trans h)⟩
  | slung => exact absurd h hs
  | joining => exact ⟨fun hx => (nomatch hx), fun hx => (nomatch hx)⟩
  | checking => exact ⟨fun hx => (nomatch hx), fun hx => (nomatch hx)⟩

theorem mem_restartCauses (ended silent : Bool) : (Cause.outcomeReady ∈ restartCauses ended silent ↔ ended = true) ∧
    (Cause.silentLift ∈ restartCauses ended silent ↔ silent = true) := by
  cases ended <;> cases silent <;> decide

theorem liftsAgree_warmRestart {s : State} (h : LiftsAgree s) (cause : RestartCause) (straps : Straps) :
    LiftsAgree (warmRestart cause straps s) := by
  obtain ⟨hlift, ⟨hcarried, hhung⟩, hstore⟩ := (liftsAgree_iff s).1 h
  have hrec (c : Crane) : (warmRestart cause straps s).record c = adjustRecord (s.record c) := by
    rw [warmRestart_eq]
    cases c <;> rfl
  have hcarry (c : Crane) : (warmRestart cause straps s).carry c = keptSlung (s.carry c) := by
    rw [State.carry, hrec, carryOf_adjustRecord]
    rfl
  have hended (c : Crane) : (warmRestart cause straps s).lifts.ended.get c = adjustEnded s c := by
    rw [warmRestart_eq]
    cases c <;> rfl
  have hready (c : Crane) : Cause.outcomeReady ∈ ((warmRestart cause straps s).attn.get (cranePort c)).pending ↔
      (adjustRecord (s.record c)).state = .done := by
    rw [← beq_iff_eq, warmRestart_eq]
    cases c <;> exact (mem_restartCauses _ _).1
  have hnot (p : Port) (hp : p = .portP ∨ p = .portB) :
      Cause.outcomeReady ∉ ((warmRestart cause straps s).attn.get p).pending := by
    rw [warmRestart_eq]
    rcases hp with rfl | rfl <;> exact fun hx => nomatch (mem_restartCauses _ _).1.1 hx
  have hshown (p : Port) : Cause.silentLift ∈ ((warmRestart cause straps s).attn.get p).pending ↔
      (warmRestart cause straps s).anySilent = true := by
    rw [warmRestart_eq]
    cases p <;> exact (mem_restartCauses _ _).2
  have hitem : (warmRestart cause straps s).item = s.item := by rw [warmRestart_eq]; rfl
  refine (liftsAgree_iff _).2 ⟨⟨⟨fun c => ?_, fun c => ?_, fun c => ?_, fun c => ?_, hnot .portP (.inl rfl), hnot .portB (.inr rfl)⟩,
    hshown, fun c q hq => ?_, fun c => ?_, fun c => ?_⟩, ⟨fun c v hv => ?_, fun tag it hit hs => ?_⟩,
    hstore.of_same (by rw [warmRestart_eq]) (by rw [warmRestart_eq])⟩
  · rw [hrec]
    exact shaped_adjustRecord (hlift.unit.shaped c)
  · rw [hrec]
    exact silent_adjustRecord (hlift.unit.silent c)
  · rw [hrec, hended]
    exact adjustEnded_isSome (hlift.unit.shaped c) (hlift.unit.ended c)
  · rw [hrec]
    exact hready c
  · rw [warmRestart_eq] at hq
    cases c <;> cases hq
  · rw [hcarry, hcarry]
    exact ⟨(hlift.teamed c).1.keptSlung, (hlift.teamed c).2.keptSlung⟩
  · have hidle : checkPending (warmRestart cause straps s).eval c = false ∧
        checkRunning (warmRestart cause straps s).eval c = false := by
      rw [warmRestart_eq]
      cases c <;> exact ⟨rfl, rfl⟩
    unfold CheckFits
    rw [hidle.1, hidle.2, hcarry]
    refine ⟨⟨fun hx => (nomatch hx), fun ⟨v, hv, hs, _⟩ => ?_⟩, rfl⟩
    exact nomatch hs.symm.trans (keptSlung_eq_some.1 hv).2
  · rw [hcarry] at hv
    rw [hitem]
    exact hcarried c v (keptSlung_eq_some.1 hv).1
  · rw [hitem] at hit
    obtain ⟨c, v, hlink, hv, hvs, hrest⟩ := hhung tag it hit hs
    exact ⟨c, v, hlink, (hcarry c).trans (keptSlung_eq_some.2 ⟨hv, hvs⟩), hvs, hrest⟩

/-! ### OPEN DATA (R10) -/

/-- The end of one record keeps the records, their marks and the callers in order, whatever stands beside it. -/
theorem finishLift_unit {s : State} {c : Crane} {v : Carry} (hunit : UnitFits s) (hshown : SilenceShown s s.anySilent)
    (hwaiters : WaitersOwn s) (hv : s.carry c = some v) (code : OutcomeCode) (final : Option Goal) (mass : Int) :
    UnitFits (finishLift code final mass [c] s) ∧
      SilenceShown (finishLift code final mass [c] s) (finishLift code final mass [c] s).anySilent ∧
      WaitersOwn (finishLift code final mass [c] s) := by
  have hstep := crewStep_finishOne hunit hv code final mass
  obtain ⟨hlifts, -⟩ := endSilence_same s (finishOne code final mass c s)
  refine ⟨hstep.unit.endSilence s, silenceShown_endSilence (hstep.shown _ hshown) hstep.marks, ?_⟩
  have hwait := hstep.waiters hwaiters
  unfold WaitersOwn at hwait ⊢
  show ∀ d q, (endSilence s (finishOne code final mass c s)).lifts.waiting.get d = some q → _
  rwa [hlifts]

theorem abortSlung_unit {s : State} (hunit : UnitFits s) (hshown : SilenceShown s s.anySilent) (hwaiters : WaitersOwn s) (c : Crane) :
    UnitFits (abortSlung c s) ∧ SilenceShown (abortSlung c s) (abortSlung c s).anySilent ∧ WaitersOwn (abortSlung c s) := by
  unfold abortSlung
  split
  · next hstate =>
    obtain ⟨l, hl⟩ := (hunit.shaped c).lift_of (by rw [hstate]; exact fun hx => (nomatch hx))
    exact finishLift_unit hunit hshown hwaiters
      (carryOf_active (by rw [hstate]; exact fun hx => (nomatch hx)) (by rw [hstate]; exact fun hx => (nomatch hx)) hl) _ _ _
  · exact ⟨hunit, hshown, hwaiters⟩

/-- After the SLUNG records have been ended no record is active where OPEN DATA is accepted (R10). -/
theorem abortBoth_inactive {s : State} (h : LiftsAgree s) (hopen : openFault s = none) (c : Crane) : (abortBoth s).carry c = none := by
  have hslung : SlungHoldsLift s := fun d hd => by
    obtain ⟨l, hl⟩ := (h.shaped.1 d).lift_of (by rw [hd]; exact fun hx => (nomatch hx))
    rw [hl]
    rfl
  have hblocks : blocksOpen s.ship.mode (s.record c) = false := by
    unfold openFault at hopen
    split_ifs at hopen with hcommit hblock
    obtain ⟨h1, h2⟩ := Bool.or_eq_false_iff.1 (Bool.eq_false_iff.2 hblock)
    cases c
    · exact h1
    · exact h2
  rw [State.carry, abortBoth_record hslung]
  unfold abortedRecord
  split
  · exact carryOf_inactive (.inr rfl)
  · next hstate =>
    unfold carryOf
    rw [if_neg]
    intro hactive
    unfold blocksOpen at hblocks
    rw [hactive] at hblocks
    simp [hstate] at hblocks

theorem aside_rejectHeld (s : State) : Aside s (rejectHeld s) := by
  have hfold (l : List Held) (t : State) : Aside t (l.foldl (fun t h => deliver h.caller (bare .notInService) t) t) := by
    induction l generalizing t with
    | nil => exact .refl t
    | cons x l ih => exact (aside_deliver ..).trans (ih _)
  exact .trans (t := s.withCond { s.cond with hold := [] }) ⟨rfl, rfl, rfl, rfl, rfl, id, id⟩ (hfold _ _)

/-- The condition, the results and the jobs emptied beside records of which none is active. -/
theorem liftsAgree_emptiedAll {u : State} (hunit : UnitFits u) (hshown : SilenceShown u u.anySilent) (hwaiters : WaitersOwn u)
    (hnone : ∀ c, u.carry c = none) (hcomps : u.cond.comps.Rising) :
    LiftsAgree (emptyResults (abandonJobs (emptyCondition (eraseImage u)))) :=
  liftsAgree_of_inactive (hunit.of_records rfl rfl rfl) hshown hwaiters hnone (fun c => by cases c <;> exact ⟨rfl, rfl⟩)
    (storeSide_emptied hcomps rfl rfl) rfl

theorem liftsAgree_takeOpenData {s : State} (h : LiftsAgree s) (q : Caller) : LiftsAgree (takeOpenData q s) := by
  unfold takeOpenData
  split
  · exact (aside_answer ..).agree h
  · next hopen =>
    refine (aside_answer ..).agree ?_
    obtain ⟨hlift, -, hstore⟩ := (liftsAgree_iff s).1 h
    obtain ⟨hunit1, hshown1, hwait1⟩ := abortSlung_unit hlift.unit hlift.shown hlift.waiters .crane1
    obtain ⟨hunit2, hshown2, hwait2⟩ := abortSlung_unit hunit1 hshown1 hwait1 .crane2
    have hcomps : (abortBoth s).cond.comps.Rising := by
      rw [abortBoth_frame]
      exact hstore.comps
    have hemptied := liftsAgree_emptiedAll (u := abortBoth s) hunit2 hshown2 hwait2 (abortBoth_inactive h hopen) hcomps
    exact (((aside_rejectHeld _).trans (aside_withMon ..)).trans ((aside_settle _).trans (aside_changeMode ..))).agree hemptied

end Sys2Proof.Machine
end

section
namespace Sys2Proof.Machine
open Sys2Proof

/-! ### Every move keeps the agreement -/

theorem liftsAgree_serve {s : State} (h : LiftsAgree s) (r : Request) (q : Caller) : LiftsAgree (serve r q s) := by
  by_cases hr : writesLiftsOrItems r = true
  · cases r with
    | openData => exact liftsAgree_takeOpenData h q
    | change ch => exact liftsAgree_takeChange h ch q
    | liftRequest t d o hk p sh => exact liftsAgree_takeLiftRequest h t d o hk p sh q
    | joinLift l t o => exact liftsAgree_takeJoinLift h l t o q
    | abortLift => exact liftsAgree_takeAbortLift h q
    | collectOutcome => exact liftsAgree_takeCollectOutcome h q
    | _ => cases hr
  · exact (aside_serve (Bool.eq_false_iff.2 hr) q s).agree h

theorem Move.agree {s t : State} (h : Move s t) (hs : LiftsAgree s) : LiftsAgree t := by
  cases h with
  | ports x => exact (aside_withPorts s x).agree hs
  | lineError p => exact (aside_raiseAt (by decide) (by decide) p s).agree hs
  | queue x => exact Aside.agree (s := s) ⟨rfl, rfl, rfl, rfl, rfl, id, id⟩ hs
  | request r q _ => exact liftsAgree_arbitrate (liftsAgree_serve hs r q) _
  | second => exact liftsAgree_tick hs
  | cold straps => exact liftsAgree_coldRestart straps s
  | warm cause straps => exact liftsAgree_warmRestart hs cause straps
  | verified => exact liftsAgree_arbitrate (liftsAgree_verifyEnds hs) _
  | committed => exact liftsAgree_arbitrate (liftsAgree_commitEnds hs) _
  | job => exact liftsAgree_startJob hs
  | captured => exact liftsAgree_capturesComplete hs
  | routine f dis hj => exact liftsAgree_arbitrate ((aside_completeRoutine hj f dis).agree hs) _
  | checked p f hj => exact liftsAgree_arbitrate (liftsAgree_completeLift hs hj p f) _
  | prospect r hj => exact liftsAgree_arbitrate ((aside_completeProspect hj r).agree hs) _
  | interval _ => exact liftsAgree_arbitrate (((aside_raiseRoutine s).trans (aside_startInterval _)).agree hs) _
  | joinWindow c => exact liftsAgree_joinWindowExpires hs c
  | grantLapse c => exact liftsAgree_grantLapses hs c
  | reportLapse c => exact liftsAgree_reportLapses hs c
  | stale => exact (aside_readingStales s).agree hs
  | pulse p => exact (aside_pulseEnds p s).agree hs

/-! ### The arbiter and the interval timer (R80, R92) -/

/-- The arbiter's agreement rests on the mode and the evaluation unit. -/
theorem ArbiterKept.of_same {s t : State} (h : ArbiterKept s) (hmode : t.ship.mode = s.ship.mode) (heval : t.eval = s.eval) :
    ArbiterKept t := by
  unfold ArbiterKept at *
  rwa [hmode, heval]

/-- With no job, no pending slot and no interval timer the arbiter is in order in every mode. -/
theorem arbiterKept_idle {t : State} (hslots : SlotsEmpty t.eval) (hengine : t.eval.engine = none)
    (htimer : t.eval.intervalTimer = none) : ArbiterKept t :=
  ⟨fun _ => hslots, fun hx => (nomatch (congrArg Option.isSome hengine).symm.trans hx),
    fun hx => (nomatch (congrArg Option.isSome htimer).symm.trans hx)⟩

theorem ArbiterKept.clock {s : State} (h : ArbiterKept s) : ClockKept s.eval := fun ht => (h.2.2 ht).2

/-- The start of a job leaves the interval timer and the routine mode. -/
theorem startJob_clock (s : State) : (startJob s).eval.intervalTimer = s.eval.intervalTimer ∧
    (startJob s).eval.routineMode = s.eval.routineMode := by
  have hdrop (c : Crane) : (dropLiftSlot c s).eval.intervalTimer = s.eval.intervalTimer ∧
      (dropLiftSlot c s).eval.routineMode = s.eval.routineMode := by cases c <;> exact ⟨rfl, rfl⟩
  unfold startJob
  split
  · split
    · unfold startLiftCheck
      split
      · exact hdrop _
      · exact hdrop _
    · exact ⟨rfl, rfl⟩
    · split <;> exact ⟨rfl, rfl⟩
  · exact ⟨rfl, rfl⟩

theorem arbitrate_clock (e : EvalUnit) (s : State) : ClockKept s.eval → ClockKept (arbitrate e s).eval := by
  unfold arbitrate
  split
  · obtain ⟨htimer, hmode⟩ := startJob_clock s
    unfold ClockKept
    rw [htimer, hmode]
    exact id
  · exact id

/-- IN SERVICE a job is started wherever a slot is pending and the engine free: a waiting check has its lift (R79, R80). -/
theorem startJob_settles {t : State} (h : LiftsAgree t) (hmode : t.ship.mode = .inService)
    (hfree : (startJob t).eval.engine = none) : SlotsEmpty (startJob t).eval := by
  by_cases hbusy : t.eval.engine.isSome = true
  · rw [startJob_busy hbusy] at hfree
    rw [hfree] at hbusy
    cases hbusy
  · have hidle : t.eval.engine = none := Option.not_isSome_iff_eq_none.1 hbusy
    unfold startJob at hfree ⊢
    rw [if_pos ⟨hmode, hidle⟩] at hfree ⊢
    split at hfree
    · next hfirst =>
      obtain ⟨l, hl⟩ := lift_of_pending h (firstLift_pending hfirst)
      unfold startLiftCheck at hfree
      rw [hl] at hfree
      cases hfree
    · cases hfree
    · next hfirst hprospect =>
      split at hfree
      · cases hfree
      · next hroutine =>
        rw [if_neg hroutine]
        obtain ⟨h1, h2⟩ := firstLift_none hfirst
        exact ⟨h1, h2, hprospect, Bool.eq_false_iff.2 hroutine⟩

/-- IN SERVICE the arbiter leaves no request waiting for a free engine, where none did before the step. -/
theorem arbitrate_settles {s t : State} (h : ArbiterKept s) (ht : LiftsAgree t) (hmode : t.ship.mode = .inService)
    (hfree : (arbitrate s.eval t).eval.engine = none) : SlotsEmpty (arbitrate s.eval t).eval := by
  unfold arbitrate at hfree ⊢
  split at hfree
  · next hacts =>
    rw [if_pos hacts]
    exact startJob_settles ht hmode hfree
  · next hacts =>
    rw [if_neg hacts]
    obtain ⟨hpending, hfreed⟩ := Bool.or_eq_false_iff.1 (Bool.eq_false_iff.2 hacts)
    have hbefore : s.eval.engine = none := by
      unfold becameFree at hfreed
      rw [hfree] at hfreed
      cases he : s.eval.engine with
      | none => rfl
      | some j =>
        rw [he] at hfreed
        cases hfreed
    obtain ⟨h1, h2, h3, h4⟩ := h.1 (.inl hbefore)
    unfold becamePending at hpending
    rw [h1, h2, h3, h4] at hpending
    simp only [Option.isNone_none, Bool.true_and, Bool.not_false, Bool.or_eq_false_iff, Option.isSome_eq_false_iff,
      Option.isNone_iff_eq_none] at hpending
    obtain ⟨⟨⟨g1, g2⟩, g3⟩, g4⟩ := hpending
    exact ⟨g1, g2, g3, g4⟩

/-- A step IN SERVICE that ends with the arbiter. -/
theorem arbiterKept_arbitrate {s t : State} (h : ArbiterKept s) (ht : LiftsAgree t) (hmode : t.ship.mode = .inService)
    (hclock : ClockKept t.eval) : ArbiterKept (arbitrate s.eval t) := by
  have hafter : (arbitrate s.eval t).ship.mode = .inService := by rw [arbitrate_ship, hmode]
  exact ⟨fun hx => hx.elim (arbitrate_settles h ht hmode) (absurd hafter), fun _ => hafter,
    fun hx => ⟨hafter, arbitrate_clock _ _ hclock hx⟩⟩

end Sys2Proof.Machine
end

section
namespace Sys2Proof.Machine
open Sys2Proof

/-! ### What a request does to the interval timer and the mode -/

/-- The agreement of the timer rests on the evaluation unit alone. -/
theorem ClockKept.of_eval {e f : EvalUnit} (h : ClockKept e) (hf : f = e) : ClockKept f := hf ▸ h

theorem clock_raiseLiftCheck {s : State} (c : Crane) (h : ClockKept s.eval) : ClockKept (raiseLiftCheck c s).eval := by
  cases c <;> exact h

theorem clock_applyChange {s : State} (p : Port) (ch : Change) (h : ClockKept s.eval) :
    ClockKept (applyChange p ch s).1.eval := by
  rcases applyChange_done p ch s with hsame | ⟨u, hwork, hdone⟩
  · exact h.of_eval (congrArg State.eval hsame)
  · rw [hdone]
    exact (aside_advance u).clock (h.of_eval hwork.stows.eval)

theorem clock_takeChange {s : State} (ch : Change) (q : Caller) (h : ClockKept s.eval) :
    ClockKept (takeChange ch q s).eval := by
  have harrived : ClockKept (changeArrives q.port ch s).eval := h.of_eval (stows_changeArrives ..).eval
  unfold takeChange
  dsimp only
  split_ifs
  · exact h
  · exact harrived
  · exact harrived
  · exact clock_applyChange _ _ harrived

theorem clock_takeLiftRequest {s : State} (tag : Nat) (dest : Option Goal) (outreach hook : Point) (partner : Option PortRef)
    (share : Option Nat) (q : Caller) (h : ClockKept s.eval) :
    ClockKept (takeLiftRequest tag dest outreach hook partner share q s).eval := by
  unfold takeLiftRequest
  split
  · split
    · exact h
    · split
      · exact h
      · unfold startLift
        dsimp only
        split
        · exact clock_raiseLiftCheck (s := s.setRecord _ _) _ h
        · exact h
  · exact h

theorem clock_takeJoinLift {s : State} (lead : PortRef) (tag : Nat) (outreach : Point) (q : Caller) (h : ClockKept s.eval) :
    ClockKept (takeJoinLift lead tag outreach q s).eval := by
  unfold takeJoinLift
  split
  · exact h
  · split_ifs
    · exact h
    · exact h
    · split
      · exact h
      · exact clock_raiseLiftCheck (s := (s.setRecord _ _).setRecord _ _) _ h
      · exact h

theorem takeAbortLift_eval (q : Caller) (s : State) : (takeAbortLift q s).eval = s.eval := by
  unfold takeAbortLift
  split
  · rfl
  · split_ifs
    · rfl
    · rfl
    · split
      · rfl
      · exact (stows_finishLift ..).eval
      · rfl
      · exact (stows_finishLift ..).eval
      · rfl
      · rfl

theorem takeCollectOutcome_eval (q : Caller) (s : State) : (takeCollectOutcome q s).eval = s.eval := by
  unfold takeCollectOutcome
  split
  · rfl
  · split <;> rfl

/-- A request but OPEN DATA keeps the interval timer to the CONTINUOUS mode (R92). -/
theorem clock_serve {s : State} {r : Request} (hr : r ≠ .openData) (q : Caller) (h : ClockKept s.eval) :
    ClockKept (serve r q s).eval := by
  by_cases hw : writesLiftsOrItems r = true
  · cases r with
    | openData => exact absurd rfl hr
    | change ch => exact clock_takeChange ch q h
    | liftRequest t d o hk p sh => exact clock_takeLiftRequest t d o hk p sh q h
    | joinLift l t o => exact clock_takeJoinLift l t o q h
    | abortLift => exact h.of_eval (takeAbortLift_eval q s)
    | collectOutcome => exact h.of_eval (takeCollectOutcome_eval q s)
    | _ => cases hw
  · exact (aside_serve (Bool.eq_false_iff.2 hw) q s).clock h

/-- A request that does not write the ship data store leaves the mode. -/
theorem serve_ship {r : Request} (hr : writesStore r = false) (q : Caller) (s : State) : (serve r q s).ship = s.ship := by
  by_cases hw : writesStoreOrMonitor r = true
  · exact (tunes_serve hw hr q s).ship
  · exact (carries_serve (Bool.eq_false_iff.2 hw) q s).ship

/-- IN SERVICE the ship data store is written by OPEN DATA alone (R15). -/
theorem writesStore_inService {r : Request} (hr : r ≠ .openData) (h : modeAnswer .inService r.kind = none) :
    writesStore r = false := by
  cases r with
  | openData => exact absurd rfl hr
  | writeData => cases h
  | closeData => cases h
  | _ => rfl

/-- The requests that some mode beside IN SERVICE accepts, but OPEN DATA (R15). -/
def servedOutside : Request → Bool
  | .identify | .readLineStatus | .attentionQuery | .setAttention .. | .writeData .. | .closeData _ => true
  | _ => false

theorem servedOutside_of_accepted {m : ServiceMode} {r : Request} (hm : m ≠ .inService) (hr : r ≠ .openData)
    (h : modeAnswer m r.kind = none) : servedOutside r = true := by
  cases m with
  | inService => exact absurd rfl hm
  | _ =>
    cases r with
    | openData => exact absurd rfl hr
    | identify | readLineStatus | attentionQuery | setAttention | writeData | closeData => rfl
    | change ch => cases ch <;> cases h
    | _ => cases h

theorem takeWriteData_outside (kind index : Nat) (fields : List FieldWord) (q : Caller) (s : State) :
    (takeWriteData kind index fields q s).eval = s.eval ∧ (takeWriteData kind index fields q s).ship.mode = s.ship.mode := by
  unfold takeWriteData
  split
  · exact ⟨rfl, rfl⟩
  · split <;> exact ⟨rfl, rfl⟩

theorem takeCloseData_outside (w : CheckWord) (q : Caller) {s : State} (hm : s.ship.mode ≠ .inService) :
    (takeCloseData w q s).eval = s.eval ∧ (takeCloseData w q s).ship.mode ≠ .inService := by
  unfold takeCloseData
  split
  · exact ⟨rfl, hm⟩
  · split
    · refine ⟨changeMode_eval .., ?_⟩
      rw [(tunes_answer ..).ship, changeMode_ship]
      exact fun hx => nomatch hx
    · exact ⟨rfl, hm⟩

theorem takeAttentionQuery_eval (q : Caller) (s : State) : (takeAttentionQuery q s).eval = s.eval := by
  show (queried q.port (s.attn.get q.port).head s).eval = s.eval
  unfold queried
  split
  · rfl
  · split <;> rfl

theorem takeSetAttention_eval (u : List Nat) (m : Option LineMode) (q : Caller) (s : State) :
    (takeSetAttention u m q s).eval = s.eval := by
  unfold takeSetAttention
  split
  · rfl
  · split <;> rfl

/-- They leave the evaluation unit, and bring the receiver into no service. -/
theorem serve_outside {r : Request} (hr : servedOutside r = true) (q : Caller) {s : State} (hm : s.ship.mode ≠ .inService) :
    (serve r q s).eval = s.eval ∧ (serve r q s).ship.mode ≠ .inService := by
  cases r with
  | identify => exact ⟨rfl, hm⟩
  | readLineStatus => exact ⟨rfl, hm⟩
  | attentionQuery => exact ⟨takeAttentionQuery_eval q s, by rwa [serve_ship rfl]⟩
  | setAttention u m => exact ⟨takeSetAttention_eval u m q s, by rwa [serve_ship rfl]⟩
  | writeData k i fs =>
    obtain ⟨heval, hmode⟩ := takeWriteData_outside k i fs q s
    exact ⟨heval, hmode.trans_ne hm⟩
  | closeData w => exact takeCloseData_outside w q hm
  | _ => cases hr

/-! ### Every move keeps the arbiter in order (R80, R92) -/

/-- Outside IN SERVICE the evaluation unit is idle, and work that leaves it does so in any mode. -/
theorem ArbiterKept.outside {s t : State} (h : ArbiterKept s) (hs : s.ship.mode ≠ .inService) (heval : t.eval = s.eval) :
    ArbiterKept t := by
  obtain ⟨hslots, hengine, htimer⟩ := h
  refine arbiterKept_idle (heval ▸ hslots (.inr hs)) (heval ▸ ?_) (heval ▸ ?_)
  · exact Option.not_isSome_iff_eq_none.1 fun hx => hs (hengine hx)
  · exact Option.not_isSome_iff_eq_none.1 fun hx => hs (htimer hx).1

theorem arbiterKept_takeOpenData {s : State} (h : ArbiterKept s) (q : Caller) :
    ArbiterKept (arbitrate s.eval (takeOpenData q s)) := by
  unfold takeOpenData
  split
  · next st _ =>
    have hquiet := arbitrate_quiet (answer q (bare st) s)
    rw [answer_eval] at hquiet
    rw [hquiet]
    exact h.of_same rfl rfl
  · have hmode : (answer q (bare .done) (openLoad s)).ship.mode ≠ .inService := by
      rw [openLoad_eq]
      exact fun hx => nomatch hx
    rw [arbitrate_outside hmode, openLoad_eq]
    exact arbiterKept_idle ⟨rfl, rfl, rfl, rfl⟩ rfl rfl

theorem arbiterKept_request {s : State} (hs : LiftsAgree s) (h : ArbiterKept s) (r : Request) (q : Caller)
    (hmode : modeAnswer s.ship.mode r.kind = none) : ArbiterKept (arbitrate s.eval (serve r q s)) := by
  by_cases hopen : r = .openData
  · subst hopen
    exact arbiterKept_takeOpenData h q
  by_cases hin : s.ship.mode = .inService
  · rw [hin] at hmode
    refine arbiterKept_arbitrate h (liftsAgree_serve hs r q) ?_ (clock_serve hopen q h.clock)
    rw [serve_ship (writesStore_inService hopen hmode), hin]
  · obtain ⟨heval, hafter⟩ := serve_outside (servedOutside_of_accepted hin hopen hmode) q hin
    rw [arbitrate_outside hafter]
    exact h.outside hin heval

/-- The entry into service: a routine request, and the interval timer in the CONTINUOUS mode (R16). -/
theorem arbiterKept_enterService {s u : State} (h : ArbiterKept s) (hu : LiftsAgree u) (heval : u.eval = s.eval) :
    ArbiterKept (arbitrate s.eval (enterService u)) :=
  arbiterKept_arbitrate h ((aside_enterService u).agree hu) (by rw [enterService_eq]) ((aside_enterService u).clock (heval ▸ h.clock))

theorem arbiterKept_verifyEnds {s : State} (hs : LiftsAgree s) (h : ArbiterKept s) :
    ArbiterKept (arbitrate s.eval (verifyEnds s)) := by
  have hfault (r : FaultReason) (hm : s.ship.mode ≠ .inService) :
      ArbiterKept (arbitrate s.eval (changeMode .dataFault (some r) s)) := by
    have hmode : (changeMode .dataFault (some r) s).ship.mode ≠ .inService := by
      rw [changeMode_ship]
      exact fun hx => nomatch hx
    rw [arbitrate_outside hmode]
    exact h.outside hm (changeMode_eval ..)
  by_cases hv : s.ship.mode = .verify
  · have hm : s.ship.mode ≠ .inService := by
      rw [hv]
      exact fun hx => nomatch hx
    unfold verifyEnds
    rw [if_neg (not_not.2 hv)]
    split
    · exact hfault _ hm
    · split
      · exact hfault _ hm
      · split
        · exact arbiterKept_enterService h (liftsAgree_loadSlots hs) (settle_eval _)
        · exact arbiterKept_enterService h hs rfl
  · unfold verifyEnds
    rw [if_pos hv, arbitrate_quiet]
    exact h

theorem arbiterKept_commitEnds {s : State} (hs : LiftsAgree s) (h : ArbiterKept s) :
    ArbiterKept (arbitrate s.eval (commitEnds s)) := by
  cases hq : s.ship.committing with
  | none =>
    have hsame : commitEnds s = s := by
      unfold commitEnds
      rw [hq]
    rw [hsame, arbitrate_quiet]
    exact h
  | some q =>
    refine arbiterKept_arbitrate h (liftsAgree_commitEnds hs) (by rw [commitEnds_eq hq]) ?_
    unfold commitEnds
    rw [hq]
    refine ((aside_enterService _).trans (aside_deliver ..)).clock (h.clock.of_eval ?_)
    exact settle_eval _

theorem arbiterKept_startJob {s : State} (hs : LiftsAgree s) (h : ArbiterKept s) : ArbiterKept (startJob s) := by
  by_cases hin : s.ship.mode = .inService
  · obtain ⟨htimer, hmode⟩ := startJob_clock s
    have hafter : (startJob s).ship.mode = .inService := by rw [startJob_ship, hin]
    refine ⟨fun hx => hx.elim (startJob_settles hs hin) (absurd hafter), fun _ => hafter, fun hx => ⟨hafter, ?_⟩⟩
    rw [hmode]
    exact h.clock (htimer ▸ hx)
  · rw [startJob_outside hin]
    exact h

theorem clock_applyHeld (l : List Held) (s : State) (h : ClockKept s.eval) : ClockKept (l.foldl applyHeld s).eval := by
  induction l generalizing s with
  | nil => exact h
  | cons x l ih => exact ih _ ((aside_deliver ..).clock (clock_applyChange _ _ h))

theorem clock_capturesComplete {s : State} (h : ClockKept s.eval) : ClockKept (capturesComplete s).eval := by
  unfold capturesComplete
  split
  · exact h
  · split
    · exact clock_applyHeld s.cond.hold (s.withCond { s.cond with hold := [] }) h
    · exact h

theorem arbiterKept_capturesComplete {s : State} (h : ArbiterKept s) : ArbiterKept (capturesComplete s) := by
  have hclock := clock_capturesComplete h.clock
  rcases capturesComplete_cases s with hsame | ⟨j, u, hj, hu, heq⟩
  · rw [hsame]
    exact h
  · rw [heq] at hclock ⊢
    have hmode : u.ship.mode = .inService := hu.ship ▸ h.2.1 (by rw [hj]; rfl)
    exact ⟨fun hx => hx.elim (fun he => (nomatch he)) (absurd hmode), fun _ => hmode, fun hx => ⟨hmode, hclock hx⟩⟩

theorem settleCheck_eval (lead : Crane) (r : CheckReport) (s : State) (c : Crane) :
    (settleCheck lead r s c).eval = s.eval := by
  unfold settleCheck
  split
  · simp
  · rfl

theorem clock_completeLift {s : State} (lead : Crane) (v : Version) (p f : FigureSet) (h : ClockKept s.eval) :
    ClockKept (completeLift lead v p f s).eval := by
  have hturns (l : List Crane) (r : CheckReport) (t : State) : (l.foldl (settleCheck lead r) t).eval = t.eval := by
    induction l generalizing t with
    | nil => rfl
    | cons c l ih => exact (ih _).trans (settleCheck_eval ..)
  have hsame := hturns (s.crew lead) (checkReport s v p f) s
  unfold completeLift
  show ClockKept { ((s.crew lead).foldl (settleCheck lead (checkReport s v p f)) s).eval with engine := none }
  rw [hsame]
  exact h

/-- A job that ends does so IN SERVICE, and the arbiter then acts (R80). -/
theorem arbiterKept_completed {s t : State} {j : Job} (h : ArbiterKept s) (hj : s.eval.engine = some j) (ht : LiftsAgree t)
    (hship : t.ship = s.ship) (hclock : ClockKept t.eval) : ArbiterKept (arbitrate s.eval t) :=
  arbiterKept_arbitrate h ht (hship ▸ h.2.1 (by rw [hj]; rfl)) hclock

theorem joinWindowExpires_eval (c : Crane) (s : State) : (joinWindowExpires c s).eval = s.eval := by
  unfold joinWindowExpires
  dsimp only
  split
  · rw [deliverTo_eval, awaitLift_eval, (stows_finishLift ..).eval]
  · rfl

theorem grantLapses_eval (c : Crane) (s : State) : (grantLapses c s).eval = s.eval := by
  unfold grantLapses
  split
  · exact (stows_finishLift ..).eval
  · rfl

theorem reportLapses_eval (c : Crane) (s : State) : (reportLapses c s).eval = s.eval := by
  unfold reportLapses
  split <;> rfl

theorem readingStales_eval (s : State) : (readingStales s).eval = s.eval := by
  unfold readingStales
  split <;> rfl

theorem pulseEnds_eval (p : Port) (s : State) : (pulseEnds p s).eval = s.eval := by
  unfold pulseEnds
  split <;> rfl

/-- Work that leaves the ship data store and the evaluation unit. -/
theorem ArbiterKept.of_carries {s t : State} (h : ArbiterKept s) (k : Carries s t) (heval : t.eval = s.eval) : ArbiterKept t :=
  h.of_same (by rw [k.ship]) heval

theorem arbiterKept_tick {s : State} (h : ArbiterKept s) : ArbiterKept (tick s) :=
  ⟨h.1, h.2.1, fun hx => h.2.2 ((Option.isSome_map ..).symm.trans hx)⟩

theorem Move.arbiter {s t : State} (h : Move s t) (hs : LiftsAgree s) (ha : ArbiterKept s) : ArbiterKept t := by
  cases h with
  | ports x => exact ha.of_same rfl rfl
  | lineError p => exact ha.of_same rfl rfl
  | queue x => exact ha.of_same rfl rfl
  | request r q hmode => exact arbiterKept_request hs ha r q hmode
  | second => exact arbiterKept_tick ha
  | cold straps =>
    rw [coldRestart_eq]
    exact arbiterKept_idle ⟨rfl, rfl, rfl, rfl⟩ rfl rfl
  | warm cause straps =>
    rw [warmRestart_eq]
    exact arbiterKept_idle ⟨rfl, rfl, rfl, rfl⟩ rfl rfl
  | verified => exact arbiterKept_verifyEnds hs ha
  | committed => exact arbiterKept_commitEnds hs ha
  | job => exact arbiterKept_startJob hs ha
  | captured => exact arbiterKept_capturesComplete ha
  | @routine v cap slung d f dis hj =>
    obtain ⟨u, hu, heq⟩ := completeRoutine_tunes v slung f dis s
    have hwork := aside_completeRoutine hj f dis
    exact arbiterKept_completed ha hj (hwork.agree hs) (heq ▸ hu.ship) (hwork.clock ha.clock)
  | @checked v lead _ _ p f hj =>
    obtain ⟨u, hu, heq⟩ := completeLift_carries lead v p f s
    exact arbiterKept_completed ha hj (liftsAgree_completeLift hs hj p f) (heq ▸ hu.ship) (clock_completeLift lead v p f ha.clock)
  | @prospect _ _ _ _ _ _ _ q r hj =>
    have hwork := aside_completeProspect hj r
    exact arbiterKept_completed ha hj (hwork.agree hs) (completeProspect_carries q r s).ship (hwork.clock ha.clock)
  | interval htimer =>
    have hwork := (aside_raiseRoutine s).trans (aside_startInterval _)
    have hmode : (startInterval (raiseRoutine s)).ship.mode = .inService := by
      rw [(carries_startInterval _).ship]
      exact (ha.2.2 htimer).1
    exact arbiterKept_arbitrate ha (hwork.agree hs) hmode (hwork.clock ha.clock)
  | joinWindow c => exact ha.of_carries (carries_joinWindowExpires c s) (joinWindowExpires_eval c s)
  | grantLapse c => exact ha.of_carries (carries_grantLapses c s) (grantLapses_eval c s)
  | reportLapse c => exact ha.of_carries (carries_reportLapses c s) (reportLapses_eval c s)
  | stale => exact ha.of_carries (carries_readingStales s) (readingStales_eval s)
  | pulse p => exact ha.of_carries (carries_pulseEnds p s) (pulseEnds_eval p s)

/-- Settles O58: a step is a chain of moves, and each move keeps the agreement and, from it, the arbiter's order. -/
theorem everyStepKeepsLiftsAndItemsAgreed : Obligations.EveryStepKeepsLiftsAndItemsAgreed := by
  intro s t hs hst
  have hmoves := moves_step hst
  refine ⟨hmoves.keep (fun h k => k.agree h) hs, fun ha => ?_⟩
  exact (hmoves.keep (P := fun u => LiftsAgree u ∧ ArbiterKept u) (fun ⟨h, ha⟩ k => ⟨k.agree h, k.arbiter h ha⟩) ⟨hs, ha⟩).2

end Sys2Proof.Machine
end

section
/-!
SUPPORT. Rounded quotients (R51): the rule for a numerator that is not negative, and its mirror image.
-/

namespace Sys2Proof.Machine
open Sys2Proof

/-- The rounded quotient of a number that is not negative: the doubled product does not exceed the doubled numerator by
more than the divisor, and the next whole number's does (R51). -/
theorem roundDiv_eq_iff_of_nonneg {n d q : Int} (hn : 0 ≤ n) (hd : 0 < d) :
    roundDiv n d = q ↔ 2 * (q * d) ≤ 2 * n + d ∧ 2 * n + d < 2 * (q * d) + 2 * d := by
  have hquot : roundDiv n d = (2 * n + d) / (2 * d) := by
    unfold roundDiv
    dsimp only
    rw [if_neg (not_lt.2 hn), Int.natAbs_of_nonneg hn]
  have hlow : q * (2 * d) = 2 * (q * d) := by ring
  have hhigh : (q + 1) * (2 * d) = 2 * (q * d) + 2 * d := by ring
  have hle := Int.le_ediv_iff_mul_le (a := q) (b := 2 * n + d) (c := 2 * d) (by omega)
  have hlt := Int.ediv_lt_iff_lt_mul (a := 2 * n + d) (b := q + 1) (c := 2 * d) (by omega)
  rw [hquot]
  omega

/-- A number and its negative have opposite rounded quotients, so a tie goes away from zero on both sides (R51). -/
theorem roundDiv_neg (n : Int) {d : Int} (hd : 0 < d) : roundDiv (-n) d = -roundDiv n d := by
  rcases lt_trichotomy n 0 with hn | rfl | hn
  · unfold roundDiv
    dsimp only
    rw [if_neg (by omega), if_pos hn, Int.natAbs_neg, neg_neg]
  · have hzero : roundDiv 0 d = 0 := (roundDiv_eq_iff_of_nonneg le_rfl hd).2 (by omega)
    rw [neg_zero, hzero, neg_zero]
  · unfold roundDiv
    dsimp only
    rw [if_pos (by omega), if_neg (by omega), Int.natAbs_neg]

/-- A quotient of R51's rule: within half a divisor of the exact one, and on a tie the farther one from zero. -/
def NearestQuotient (n d q : Int) : Prop :=
  2 * (q * d - n).natAbs ≤ d.natAbs ∧ (2 * (q * d - n).natAbs = d.natAbs → n.natAbs < (q * d).natAbs)

theorem nearestQuotient_neg {n d q : Int} : NearestQuotient (-n) d (-q) ↔ NearestQuotient n d q := by
  have hproduct : -q * d = -(q * d) := neg_mul q d
  have hdifference : -(q * d) - -n = -(q * d - n) := by ring
  unfold NearestQuotient
  rw [hproduct, hdifference, Int.natAbs_neg, Int.natAbs_neg, Int.natAbs_neg]

/-- Below zero a product lies a whole divisor away, so the rule and the bounds agree on every candidate. -/
theorem roundDiv_eq_iff_nearest_of_nonneg {n d q : Int} (hn : 0 ≤ n) (hd : 0 < d) :
    roundDiv n d = q ↔ NearestQuotient n d q := by
  rw [roundDiv_eq_iff_of_nonneg hn hd]
  unfold NearestQuotient
  rcases lt_or_ge q 0 with hq | hq
  · have : q * d ≤ -1 * d := mul_le_mul_of_nonneg_right (by omega) hd.le
    omega
  · have := mul_nonneg hq hd.le
    omega

/-- Settles O51: the rule for a numerator that is not negative, and its mirror image for one that is. -/
theorem roundingIsNearestTiesAwayFromZero : Obligations.RoundingIsNearestTiesAwayFromZero := by
  intro n d q hd
  rcases le_total 0 n with hn | hn
  · exact roundDiv_eq_iff_nearest_of_nonneg hn hd
  · have hmirror := roundDiv_eq_iff_nearest_of_nonneg (n := -n) (q := -q) (by omega) hd
    rw [roundDiv_neg n hd, neg_inj, nearestQuotient_neg] at hmirror
    exact hmirror

end Sys2Proof.Machine
end

section
/-!
SUPPORT. The ten stages (R58 to R75): what stage 3 answers, the first greatest lever, the parts of a weight aft of a
station, the greatest ratio, and what a figure set that forms holds.
-/

namespace Sys2Proof.Machine
open Sys2Proof

/-! ### Values within bounds (R52, R62, R65, R72) -/

theorem bringInto_eq_max_min {lo hi : Int} (h : lo ≤ hi) (v : Int) : bringInto lo hi v = max lo (min v hi) := by
  unfold bringInto
  split_ifs <;> omega

/-- A value brought into a span is unchanged exactly when it lies within it. -/
theorem bringInto_eq_self {lo hi v : Int} (h : lo ≤ hi) : bringInto lo hi v = v ↔ within lo hi v = true := by
  rw [bringInto_eq_max_min h]
  unfold within
  rw [Bool.and_eq_true, decide_eq_true_eq, decide_eq_true_eq]
  omega

theorem hold32_mono {a b : Int} (h : a ≤ b) : hold32 a ≤ hold32 b := by
  unfold hold32
  rw [bringInto_eq_max_min (by omega), bringInto_eq_max_min (by omega)]
  omega

/-! ### Stage 3 (R60, R61) -/

/-- What stage 3 answers: a row's own quantities beyond an end of the table, and interpolated ones between two rows. -/
theorem hydroAt_cases {deq : Int} {rows : List HydroRow} {x : HydroAt} (h : hydroAt deq rows = some x) :
    ∃ first last, rows.head? = some first ∧ rows.getLast? = some last ∧
      ((deq < first.d ∧ x = ⟨rowValues first, true, false⟩) ∨
       (first.d ≤ deq ∧ last.d < deq ∧ x = ⟨rowValues last, false, true⟩) ∨
       (first.d ≤ deq ∧ deq ≤ last.d ∧
         ∃ lo hi, bracket deq rows = some (lo, hi) ∧ x = ⟨interpolate lo hi deq, false, false⟩)) := by
  unfold hydroAt at h
  split at h
  · next first last hfirst hlast =>
    refine ⟨first, last, hfirst, hlast, ?_⟩
    split at h
    · next hlow => exact .inl ⟨hlow, (Option.some.inj h).symm⟩
    · next hlow =>
      split at h
      · next hhigh => exact .inr (.inl ⟨not_lt.1 hlow, hhigh, (Option.some.inj h).symm⟩)
      · next hhigh =>
        split at h
        · next lo hi hrows =>
          exact .inr (.inr ⟨not_lt.1 hlow, not_lt.1 hhigh, lo, hi, hrows, (Option.some.inj h).symm⟩)
        · cases h
  · cases h

/-- The lowest two neighbouring rows on either side of a displacement are the ones taken (R60). -/
theorem bracket_of_lowest {deq : Int} {rows : List HydroRow} {i : Nat} {lo hi : HydroRow} (hlo : rows[i]? = some lo)
    (hhi : rows[i + 1]? = some hi) (hbetween : lo.d ≤ deq ∧ deq ≤ hi.d)
    (hlowest : ∀ (j : Nat) (a b : HydroRow), j < i → rows[j]? = some a → rows[j + 1]? = some b → ¬ (a.d ≤ deq ∧ deq ≤ b.d)) :
    bracket deq rows = some (lo, hi) := by
  induction i generalizing rows with
  | zero =>
    match rows, hlo, hhi with
    | a :: b :: rest, hlo, hhi =>
      obtain rfl : a = lo := by simpa using hlo
      obtain rfl : b = hi := by simpa using hhi
      unfold bracket
      exact if_pos hbetween
  | succ i ih =>
    match rows, hlo, hhi with
    | a :: b :: rest, hlo, hhi =>
      unfold bracket
      rw [if_neg (hlowest 0 a b (Nat.succ_pos i) rfl rfl)]
      exact ih hlo hhi fun j x y hj hx hy => hlowest (j + 1) x y (Nat.succ_lt_succ hj) hx hy

/-! ### Stage 8: the first greatest lever (R69) -/

/-- The step of the search for the first greatest lever: an entry is taken only where its lever is greater. -/
def takeGreater (best e : Int × Int) : Int × Int := if best.2 < e.2 then e else best

theorem greatestAngle_cons (best : Int × Int) (l : List (Int × Int)) :
    greatestAngle (best :: l) = (l.foldl takeGreater best).1 := rfl

/-- The step of the search keeps the first of the greatest entries: those before it are less, those after it not greater. -/
theorem foldl_takeGreater (best : Int × Int) (l : List (Int × Int)) :
    ∃ pre post, best :: l = pre ++ l.foldl takeGreater best :: post ∧ (∀ x ∈ pre, x.2 < (l.foldl takeGreater best).2) ∧
      ∀ x ∈ post, x.2 ≤ (l.foldl takeGreater best).2 := by
  induction l generalizing best with
  | nil => exact ⟨[], [], rfl, fun _ h => (nomatch h), fun _ h => (nomatch h)⟩
  | cons a l ih =>
    rw [List.foldl_cons, takeGreater]
    split
    · next hless =>
      obtain ⟨pre, post, hsplit, hpre, hpost⟩ := ih a
      generalize l.foldl _ a = e at hsplit hpre hpost ⊢
      refine ⟨best :: pre, post, by rw [hsplit, List.cons_append], fun x hx => ?_, hpost⟩
      rcases List.mem_cons.1 hx with rfl | hx
      · cases pre with
        | nil => obtain ⟨rfl, -⟩ := List.cons.inj hsplit; exact hless
        | cons b pre => obtain ⟨rfl, -⟩ := List.cons.inj hsplit; exact hless.trans (hpre a (.head _))
      · exact hpre x hx
    · next hless =>
      obtain ⟨pre, post, hsplit, hpre, hpost⟩ := ih best
      generalize l.foldl _ best = e at hsplit hpre hpost ⊢
      cases pre with
      | nil =>
        obtain ⟨rfl, rfl⟩ := List.cons.inj hsplit
        exact ⟨[], a :: l, rfl, hpre, List.forall_mem_cons.2 ⟨not_lt.1 hless, hpost⟩⟩
      | cons b pre =>
        obtain ⟨rfl, rfl⟩ := List.cons.inj hsplit
        have hbest := hpre best (.head _)
        exact ⟨best :: a :: pre, post, rfl,
          List.forall_mem_cons.2 ⟨hbest, List.forall_mem_cons.2 ⟨by omega, fun x hx => hpre x (.tail _ hx)⟩⟩, hpost⟩

/-- The angle found stands beside the first greatest lever of the list. -/
theorem greatestAngle_spec (best : Int × Int) (l : List (Int × Int)) :
    ∃ (i : Nat) (g : Int), (best :: l)[i]? = some (greatestAngle (best :: l), g) ∧ (∀ x ∈ best :: l, x.2 ≤ g) ∧
      ∀ (j : Nat) (x : Int × Int), j < i → (best :: l)[j]? = some x → x.2 < g := by
  obtain ⟨pre, post, hsplit, hpre, hpost⟩ := foldl_takeGreater best l
  rw [greatestAngle_cons]
  generalize l.foldl _ best = e at hsplit hpre hpost ⊢
  rw [hsplit]
  refine ⟨pre.length, e.2, by simp, fun x hx => ?_, fun j x hj hx => ?_⟩
  · rcases List.mem_append.1 hx with hx | hx
    · exact (hpre x hx).le
    · exact (List.mem_cons.1 hx).elim (fun h => h ▸ le_rfl) (hpost x)
  · rw [List.getElem?_append_left hj] at hx
    exact hpre x (List.mem_of_getElem? hx)

/-- The angle of maximum lever of six levers, 10.0 to 60.0 degrees in steps of 10.0 (R69). -/
theorem greatestAngle_tens (g1 g2 g3 g4 g5 g6 : Int) :
    ∃ (i : Nat) (g : Int), [g1, g2, g3, g4, g5, g6][i]? = some g ∧
      greatestAngle [(100, g1), (200, g2), (300, g3), (400, g4), (500, g5), (600, g6)] = 100 * (i + 1) ∧
      (∀ x ∈ [g1, g2, g3, g4, g5, g6], x ≤ g) ∧
      ∀ (j : Nat) (x : Int), j < i → [g1, g2, g3, g4, g5, g6][j]? = some x → x < g := by
  obtain ⟨i, g, hi, hmax, hfirst⟩ :=
    greatestAngle_spec (100, g1) [(200, g2), (300, g3), (400, g4), (500, g5), (600, g6)]
  have hangles : ∀ a, [100, 200, 300, 400, 500, 600][i]? = some a → a = 100 * ((i : Int) + 1) := by
    intro a ha
    have hlt : i < 6 := (List.getElem?_eq_some_iff.1 ha).1
    interval_cases i <;> exact (Option.some.inj ha).symm
  have hlevers : [g1, g2, g3, g4, g5, g6] =
      [((100 : Int), g1), (200, g2), (300, g3), (400, g4), (500, g5), (600, g6)].map Prod.snd := rfl
  refine ⟨i, g, ?_, hangles _ ?_, fun x hx => ?_, fun j x hj hx => ?_⟩
  · rw [hlevers, List.getElem?_map, hi]
    rfl
  · exact (List.getElem?_map (f := Prod.fst) ..).trans (congrArg (Option.map Prod.fst) hi)
  · rw [hlevers] at hx
    obtain ⟨e, he, rfl⟩ := List.mem_map.1 hx
    exact hmax e he
  · rw [hlevers, List.getElem?_map, Option.map_eq_some_iff] at hx
    obtain ⟨e, he, rfl⟩ := hx
    exact hfirst j e hj he

/-! ### Stages 9 and 10 (R70, R74, R75) -/

/-- The part of a weight aft of a station and its moment are taken by the same tests (R70). -/
theorem partAft_momentAft (w : Weight) (xk : Int) :
    (if w.xa = w.xf then (if w.xa ≤ xk then (w.m, w.m * (xk - w.xa)) else (0, 0))
     else if w.xf ≤ xk then (w.m, roundDiv (w.m * (2 * xk - w.xa - w.xf)) 2)
     else if xk ≤ w.xa then (0, 0)
     else (roundDiv (w.m * (xk - w.xa)) (w.xf - w.xa), roundDiv (w.m * ((xk - w.xa) * (xk - w.xa))) (2 * (w.xf - w.xa)))) =
    (partAft w xk, momentAft w xk) := by
  unfold partAft momentAft
  split_ifs <;> rfl

theorem foldl_max_spec (a : Int) (l : List Int) :
    a ≤ l.foldl max a ∧ (∀ x ∈ l, x ≤ l.foldl max a) ∧ (l.foldl max a = a ∨ l.foldl max a ∈ l) := by
  induction l generalizing a with
  | nil => exact ⟨le_rfl, fun _ h => (nomatch h), .inl rfl⟩
  | cons b l ih =>
    rw [List.foldl_cons]
    obtain ⟨hle, hall, heq⟩ := ih (max a b)
    refine ⟨(le_max_left a b).trans hle, List.forall_mem_cons.2 ⟨(le_max_right a b).trans hle, hall⟩, ?_⟩
    rcases heq with heq | hmem
    · rw [heq]
      exact (max_choice a b).imp_right fun h => by rw [h]; exact .head _
    · exact .inr (.tail _ hmem)

/-- The greatest ratio is not negative and not below any of the list, and it is 0 or one of them. -/
theorem greatest_spec (l : List Int) :
    0 ≤ greatest l ∧ (∀ x ∈ l, x ≤ greatest l) ∧ (greatest l = 0 ∨ greatest l ∈ l) := foldl_max_spec 0 l

/-- The greatest of ratios that are not negative is one of them. -/
theorem greatest_mem {l : List Int} (hne : l ≠ []) (hl : ∀ x ∈ l, 0 ≤ x) : greatest l ∈ l := by
  obtain ⟨-, hall, hzero | hmem⟩ := greatest_spec l
  · obtain ⟨x, hx⟩ := List.exists_mem_of_ne_nil l hne
    have hle := hall x hx
    rwa [show greatest l = x from le_antisymm (hzero ▸ hl x hx) hle]
  · exact hmem

/-- The greatest of a ratio over the stations is held as the greatest of the held ratios. -/
theorem held_greatest_ratio {sts : List StationFigures} {ratio : StationFigures → Int}
    (hheld : ∀ x, ratio x.held = hold32 (ratio x)) (hnonneg : ∀ x ∈ sts, 0 ≤ ratio x) :
    (∀ x ∈ sts.map StationFigures.held, ratio x ≤ hold32 (greatest (sts.map ratio))) ∧
    (sts.map StationFigures.held ≠ [] →
      ∃ x ∈ sts.map StationFigures.held, ratio x = hold32 (greatest (sts.map ratio))) := by
  refine ⟨fun x hx => ?_, fun hne => ?_⟩
  · obtain ⟨y, hy, rfl⟩ := List.mem_map.1 hx
    obtain ⟨-, hall, -⟩ := greatest_spec (sts.map ratio)
    rw [hheld]
    exact hold32_mono (hall _ (List.mem_map_of_mem hy))
  · have hmem : greatest (sts.map ratio) ∈ sts.map ratio :=
      greatest_mem (fun h => hne (by rw [List.map_eq_nil_iff.1 h]; rfl)) fun x hx => by
        obtain ⟨y, hy, rfl⟩ := List.mem_map.1 hx
        exact hnonneg y hy
    obtain ⟨y, hy, hratio⟩ := List.mem_map.1 hmem
    exact ⟨y.held, List.mem_map_of_mem hy, by rw [hheld, hratio]⟩

/-- The per-mille ratio of a magnitude to a positive permissible figure is not negative (R74). -/
theorem magnitudeRatio_nonneg (v : Int) {p : Int} (hp : 0 < p) : 0 ≤ roundDiv (1000 * magnitude v) p := by
  unfold magnitude
  exact roundDiv_nonneg (by omega) hp

/-! ### The figure set -/

/-- The figures of the stations, as computed from what stage 3 answers. -/
def stationsFrom (img : Image) (cap : Capture) (h : Hydro) : List StationFigures :=
  img.stationList.map (stationFigures cap.weights (totalsOf cap).delta (trimOf img.lbp (totalsOf cap) h).t)

/-- A figure set that forms holds the figures as computed from what stage 3 answers, and its stations have positive
permissible figures (R52, R57, R77). -/
theorem figureSet_cases {img : Image} {cap : Capture} {f : FigureSet} (h : figureSet img cap = some f) :
    (∀ st ∈ img.stationList, 0 < st.sp ∧ 0 < st.bp) ∧
    ∃ x, hydroAt (totalsOf cap).deq img.rowList = some x ∧
      f = { totals := (totalsOf cap).held
            hydro := x.values.held
            trim := (trimOf img.lbp (totalsOf cap) x.values).held
            stab := (stabilityOf (totalsOf cap) x.values).held
            levers := (leversOf (totalsOf cap) x.values (stabilityOf (totalsOf cap) x.values)).held
            stations := (stationsFrom img cap x.values).map StationFigures.held
            maxShear := hold32 (greatest ((stationsFrom img cap x.values).map StationFigures.shear))
            maxBend := hold32 (greatest ((stationsFrom img cap x.values).map StationFigures.bend))
            loadRatio := hold32 (loadRatioOf img cap.weights)
            flags := ⟨x.offLow, x.offHigh, trimSaturated (totalsOf cap) x.values,
              decide ((stabilityOf (totalsOf cap) x.values).gm ≤ 0)⟩ } := by
  unfold figureSet at h
  split at h
  · next hdivisors =>
    unfold divisorsPositive at hdivisors
    simp only [Bool.and_eq_true, List.all_eq_true, decide_eq_true_eq] at hdivisors
    obtain ⟨⟨-, hstations⟩, -⟩ := hdivisors
    refine ⟨hstations, ?_⟩
    split at h
    · cases h
    · next x hx => exact ⟨x, hx, (Option.some.inj h).symm⟩
  · cases h

/-- The quantities and the OFF TABLE flags that stage 3 gives to a displacement (R60, R61). -/
def Stage3 (rows : List HydroRow) (deq : Int) (x : HydroAt) : Prop :=
  (∀ first, rows.head? = some first → deq < first.d → x.values = rowValues first) ∧
  (∀ last, rows.getLast? = some last → (∀ first, rows.head? = some first → first.d ≤ deq) → last.d < deq →
    x.values = rowValues last) ∧
  (∀ (i : Nat) (lo hi : HydroRow), rows[i]? = some lo → rows[i + 1]? = some hi → lo.d ≤ deq → deq ≤ hi.d →
    (∀ first last, rows.head? = some first → rows.getLast? = some last → first.d ≤ deq ∧ deq ≤ last.d) →
    (∀ (j : Nat) (a b : HydroRow), j < i → rows[j]? = some a → rows[j + 1]? = some b → ¬ (a.d ≤ deq ∧ deq ≤ b.d)) →
    x.values = interpolate lo hi deq) ∧
  (x.offLow = true ↔ ∀ first, rows.head? = some first → deq < first.d) ∧
  (x.offHigh = true ↔ x.offLow = false ∧ ∀ last, rows.getLast? = some last → last.d < deq)

theorem stage3_of_hydroAt {rows : List HydroRow} {deq : Int} {x : HydroAt} (h : hydroAt deq rows = some x) :
    Stage3 rows deq x := by
  obtain ⟨first, last, hfirst, hlast, hcase⟩ := hydroAt_cases h
  unfold Stage3
  simp only [hfirst, hlast, Option.some.injEq, forall_eq']
  rcases hcase with ⟨hlow, rfl⟩ | ⟨hlow, hhigh, rfl⟩ | ⟨hlow, hhigh, lo, hi, hbracket, rfl⟩
  · refine ⟨fun _ => rfl, fun hle => absurd hle (not_le.2 hlow), fun i lo hi _ _ _ _ hwithin => ?_, by simpa, by simp⟩
    exact absurd (hwithin first last rfl rfl).1 (not_le.2 hlow)
  · refine ⟨fun hlt => absurd hlow (not_le.2 hlt), fun _ _ => rfl, fun i lo hi _ _ _ _ hwithin => ?_, by simpa, by simpa⟩
    exact absurd (hwithin first last rfl rfl).2 (not_le.2 hhigh)
  · refine ⟨fun hlt => absurd hlow (not_le.2 hlt), fun _ hlt => absurd hhigh (not_le.2 hlt),
      fun i lo' hi' hlo hhi hle hge _ hlowest => ?_, by simpa, by simpa⟩
    have hsame := hbracket.symm.trans (bracket_of_lowest hlo hhi ⟨hle, hge⟩ hlowest)
    obtain ⟨rfl, rfl⟩ := Prod.mk.inj (Option.some.inj hsame)
    rfl

/-- The trim is saturated exactly when it is not the trim before saturation (R62). -/
theorem trimSaturated_iff (tot : Totals) (h : Hydro) :
    trimSaturated tot h = true ↔ bringInto (-2000) 2000 (rawTrim tot h) ≠ rawTrim tot h := by
  unfold trimSaturated
  rw [ne_eq, bringInto_eq_self (by omega), Bool.not_eq_true', Bool.not_eq_true]

theorem heelOf_of_pos {gm : Int} (h : 0 < gm) (tcg : Int) :
    heelOf gm tcg = max (-300) (min (roundDiv (573 * tcg) gm) 300) := by
  unfold heelOf
  rw [if_pos h, bringInto_eq_max_min (by omega)]

theorem heelOf_of_nonpos {gm : Int} (h : gm ≤ 0) (tcg : Int) : heelOf gm tcg = if tcg < 0 then -300 else 300 := by
  unfold heelOf
  rw [if_neg (not_lt.2 h)]
  split_ifs <;> omega

/-- The load ratio is not negative, not below any compartment's, and 0 or one of theirs (R75). -/
theorem loadRatioOf_spec (img : Image) (ws : List Weight) :
    0 ≤ loadRatioOf img ws ∧ (∀ e ∈ img.comps, compRatio ws e.1 e.2 ≤ loadRatioOf img ws) ∧
    (loadRatioOf img ws = 0 ∨ ∃ e ∈ img.comps, compRatio ws e.1 e.2 = loadRatioOf img ws) := by
  obtain ⟨hnonneg, hall, hmem⟩ := greatest_spec (img.comps.map (fun e => compRatio ws e.1 e.2))
  exact ⟨hnonneg, fun e he => hall _ (List.mem_map_of_mem he), hmem.imp_right List.mem_map.1⟩

/-- Settles O52: the values as computed are the model's stages, each of which meets its equation. -/
theorem figureSetFollowsTheTenStages : Obligations.FigureSetFollowsTheTenStages := by
  intro img cap f hf sum rows stations own span
  obtain ⟨hpositive, x, hx, rfl⟩ := figureSet_cases hf
  obtain ⟨hbelow, habove, hbetween, hoffLow, hoffHigh⟩ := stage3_of_hydroAt hx
  have hratios : ∀ y ∈ stationsFrom img cap x.values, 0 ≤ y.shear ∧ 0 ≤ y.bend := fun y hy => by
    obtain ⟨st, hst, rfl⟩ := List.mem_map.1 hy
    obtain ⟨hsp, hbp⟩ := hpositive st hst
    exact ⟨magnitudeRatio_nonneg _ hsp, magnitudeRatio_nonneg _ hbp⟩
  obtain ⟨hshearLe, hshearMem⟩ :=
    held_greatest_ratio (ratio := StationFigures.shear) (fun _ => rfl) fun y hy => (hratios y hy).1
  obtain ⟨hbendLe, hbendMem⟩ :=
    held_greatest_ratio (ratio := StationFigures.bend) (fun _ => rfl) fun y hy => (hratios y hy).2
  have hratio : ∀ e : Nat × CompRecord, compRatio cap.weights e.1 e.2 = (match e.2.use with
      | .stow _ m => roundDiv (1000 * sum (fun w => if w.comp = some e.1 then w.m else 0)) m
      | .tank .. => 0) := fun e => by
    unfold compRatio
    cases e.2.use <;> rfl
  refine ⟨totalsOf cap, x.values, trimOf img.lbp (totalsOf cap) x.values, stabilityOf (totalsOf cap) x.values,
    leversOf (totalsOf cap) x.values (stabilityOf (totalsOf cap) x.values), stationsFrom img cap x.values,
    ⟨rfl, rfl, rfl, rfl, rfl, rfl⟩, rfl, hbelow, habove, hbetween, ?trim, rfl, rfl, rfl, rfl, rfl, rfl, ?heelPositive,
    ?heelNot, rfl, ?levers, rfl, rfl, rfl, ?angle, ?count, ?station, ?ratiosLe, ?ratiosMem, ?load, hoffLow, hoffHigh,
    trimSaturated_iff _ _, decide_eq_true_iff⟩
  case trim => exact bringInto_eq_max_min (by omega) _
  case heelPositive => exact fun h => heelOf_of_pos h _
  case heelNot => exact fun h => heelOf_of_nonpos h _
  case levers =>
    simp only [List.forall_mem_cons, List.not_mem_nil, false_implies, implies_true, and_true]
    exact ⟨rfl, rfl, rfl, rfl, rfl, rfl⟩
  case angle => exact greatestAngle_tens ..
  case count => exact (List.length_map _).trans rfl
  case station =>
    intro k p y hp hy aft b
    have hcomputed : (stationsFrom img cap x.values)[k]? = some
        (stationFigures cap.weights (totalsOf cap).delta (trimOf img.lbp (totalsOf cap) x.values).t p) :=
      (List.getElem?_map ..).trans (congrArg _ hp)
    obtain rfl := Option.some.inj (hcomputed.symm.trans hy)
    have haft : aft = fun w => (partAft w p.x, momentAft w p.x) := funext fun w => partAft_momentAft w p.x
    have hb : b = roundDiv ((totalsOf cap).delta * buoyancyTerm p (trimOf img.lbp (totalsOf cap) x.values).t) 1000000 := by
      unfold buoyancyTerm
      rw [bringInto_eq_max_min (by omega)]
    rw [haft, hb]
    exact ⟨rfl, rfl, rfl, rfl⟩
  case ratiosLe => exact fun y hy => ⟨hshearLe y hy, hbendLe y hy⟩
  case ratiosMem => exact fun hne => ⟨hshearMem hne, hbendMem hne⟩
  case load =>
    obtain ⟨hnonneg, hall, hmem⟩ := loadRatioOf_spec img cap.weights
    refine ⟨_, rfl, hnonneg, fun e he => ?_, hmem.imp_right fun ⟨e, he, heq⟩ => ⟨e, he, ?_⟩⟩
    · exact (hratio e).symm.trans_le (hall e he)
    · exact (hratio e).symm.trans heq

end Sys2Proof.Machine
end

section
/-!
SUPPORT. What each job captures (R53 to R56, R86 to R90, R153, R154, R173): a capture by the fills of its tanks, the
weights of an item by its state, and the prospective set after each layer.
-/

namespace Sys2Proof.Machine
open Sys2Proof

/-! ### Captures by the fills of their tanks (R54, R56, R153, R154) -/

/-- The weights of one compartment's content at the fills given. -/
def contentWeights (fill : Nat → Nat) (e : Nat × CompRecord) : List Weight :=
  match e.2.use with
  | .stow .. => []
  | .tank m cx cy _ => if fill e.1 = 0 then [] else
      [⟨.tank e.1, roundDiv (m * fill e.1) 1000, cx, cx, cy,
        e.2.zFloor + roundDiv ((e.2.zTop - e.2.zFloor) * fill e.1) 2000, none⟩]

/-- The moment of one compartment's free surface at the fills given. -/
def contentMoment (fill : Nat → Nat) (e : Nat × CompRecord) : Int :=
  match e.2.use with
  | .stow .. => 0
  | .tank _ _ _ fsm => if 20 < fill e.1 ∧ fill e.1 < 980 then fsm else 0

/-- The capture record with the given items whose tanks stand at the fills given. -/
def captureAt (s : State) (fill : Nat → Nat) (items : List Weight) : Capture :=
  ⟨s.ship.image.lightshipWeights ++ items ++ s.ship.image.comps.flatMap (contentWeights fill), s.cond.density,
    (s.ship.image.comps.map (contentMoment fill)).sum⟩

theorem slack_iff (fill : Nat) : slack fill = true ↔ 20 < fill ∧ fill < 980 := by
  unfold slack
  rw [Bool.and_eq_true, decide_eq_true_eq, decide_eq_true_eq]

theorem tankWeight_eq (fills : Table Nat) (e : Nat × CompRecord) :
    tankWeight fills e.1 e.2 = contentWeights (fun n => fills.value 0 n) e := by
  unfold tankWeight contentWeights
  cases e.2.use <;> rfl

theorem tankMoment_eq (fills : Table Nat) (e : Nat × CompRecord) :
    tankMoment fills e.1 e.2 = contentMoment (fun n => fills.value 0 n) e := by
  unfold tankMoment contentMoment
  cases e.2.use with
  | stow k m => rfl
  | tank m cx cy fsm => exact if_congr (slack_iff _) rfl rfl

/-- A capture record depends on its table of fills by the fill of each tank alone. -/
theorem captureOf_eq {s : State} {fills : Table Nat} {fill : Nat → Nat} (h : ∀ n, fills.value 0 n = fill n)
    (items : List Weight) : captureOf s fills items = captureAt s fill items := by
  obtain rfl : (fun n => fills.value 0 n) = fill := funext h
  unfold captureOf captureAt Image.tankWeights Image.freeSurface
  simp only [tankWeight_eq, tankMoment_eq]

/-! ### Items by their state (R55, R86) -/

theorem routineItem_pending {s : State} {tag : Nat} {it : ItemRecord} (h : it.state = .pending) :
    routineItem s tag it = [] := by
  unfold routineItem
  rw [h]

theorem routineItem_aboard {s : State} {tag : Nat} {it : ItemRecord} {pl : Placement} (h : it.state = .aboard)
    (hactual : it.actual = some pl) : routineItem s tag it = [itemAt tag it.mass pl] := by
  unfold routineItem
  rw [h, hactual]

/-- A SLUNG item hangs on the hooks of the lift that its link names (R86). -/
theorem routineItem_slung {s : State} {tag : Nat} {it : ItemRecord} {c : Crane} {l : Lift} (h : it.state = .slung)
    (hlink : it.link = some c) (hlift : (s.record c).lift = some l) :
    routineItem s tag it = hookWeights tag it.mass l l.hook (recordHook (s.record (otherCrane c))) := by
  have hread : (s.lifts.records.get c).lift = some l := hlift
  unfold routineItem
  rw [h, hlink]
  dsimp only
  rw [hread]
  rfl

theorem hookWeights_single {l : Lift} (h : l.role = .single) (tag : Nat) (m : Int) (own : Point) (other : Option Point) :
    hookWeights tag m l (some own) other = [hookAtPoint tag m own] := by
  unfold hookWeights
  rw [h]
  rfl

/-- A tandem load is shared: the lead mass on the record's own hook, the remainder on the other (R55). -/
theorem hookWeights_tandem {l : Lift} {n : Nat} (h : l.role ≠ .single) (hshare : l.share = some n) (tag : Nat) (m : Int)
    (own other : Point) : hookWeights tag m l (some own) (some other) =
      [hookAtPoint tag (roundDiv (m * n) 1000) own, hookAtPoint tag (m - roundDiv (m * n) 1000) other] := by
  unfold hookWeights
  rw [hshare]
  cases hrole : l.role with
  | single => exact absurd hrole h
  | lead => rfl
  | partner => rfl

/-! ### The items beside the one checked (R87) -/

/-- Another item at a check: at the other record's outreach point where that record is GRANTED for it. -/
def besideItem (s : State) (x : LiftRecord) (tag : Nat) (it : ItemRecord) : List Weight :=
  match x.lift with
  | some k => if x.state = .granted ∧ k.tag = tag then [hookAtPoint tag it.mass k.outreach] else routineItem s tag it
  | none => routineItem s tag it

/-- A record is GRANTED for an item exactly when its state is GRANTED and its lift has the item's tag. -/
theorem granted_names_iff {r : LiftRecord} {k : Lift} (hlift : r.lift = some k) (tag : Nat) :
    (r.state == .granted && recordNames r tag) = true ↔ r.state = .granted ∧ k.tag = tag := by
  unfold recordNames liftActive
  rw [hlift]
  cases r.state <;> simp

theorem otherItem_eq (s : State) (c : Crane) (tag : Nat) (it : ItemRecord) :
    otherItem s c tag it = besideItem s (s.record (otherCrane c)) tag it := by
  show (if ((s.record (otherCrane c)).state == .granted && recordNames (s.record (otherCrane c)) tag) = true
    then hookAtMaybe tag it.mass (recordOutreach (s.record (otherCrane c))) else routineItem s tag it) = _
  generalize s.record (otherCrane c) = x
  unfold besideItem
  cases hlift : x.lift with
  | none =>
    have hnames : recordNames x tag = false := by simp [recordNames, hlift]
    rw [hnames, Bool.and_false]
    rfl
  | some k =>
    have hpoint : recordOutreach x = some k.outreach := by simp [recordOutreach, hlift]
    rw [hpoint]
    exact if_congr (granted_names_iff hlift tag) rfl rfl

/-- Both cases of a check have the item checked in its place and every other item beside it. -/
theorem checkItems_eq {s : State} {c : Crane} {l : Lift} {placed expected : Nat → ItemRecord → List Weight}
    (h : ∀ it, placed l.tag it = expected l.tag it) :
    placeItems s (fun tag it => if tag = l.tag then placed tag it else otherItem s c tag it) =
      placeItems s (fun tag it => if tag = l.tag then expected tag it else besideItem s (s.record (otherCrane c)) tag it) := by
  refine congrArg (placeItems s) (funext fun tag => funext fun it => ?_)
  rw [otherItem_eq]
  split
  · next htag => rw [htag, h]
  · rfl

/-! ### The base of a DEPARTURE prospect (R89) -/

theorem baseItem_planned {s : State} {tag : Nat} {it : ItemRecord} {g : Goal} (h : it.state ≠ .slung)
    (hplan : it.plan = some g) : baseItem s .departure tag it = itemAtGoal tag it.mass g := by
  unfold baseItem
  dsimp only
  rw [hplan]
  cases hstate : it.state with
  | slung => exact absurd hstate h
  | pending => rfl
  | aboard => rfl

theorem baseItem_unplanned {s : State} {tag : Nat} {it : ItemRecord} {pl : Placement} (h : it.state = .aboard)
    (hplan : it.plan = none) (hactual : it.actual = some pl) : baseItem s .departure tag it = [itemAt tag it.mass pl] := by
  unfold baseItem
  dsimp only
  rw [h, hplan, hactual]

theorem baseItem_slung {s : State} {tag : Nat} {it : ItemRecord} {g : Goal} (h : it.state = .slung)
    (hdest : s.slungDest tag = some g) : baseItem s .departure tag it = itemAtGoal tag it.mass g := by
  unfold baseItem
  dsimp only
  rw [h, hdest]

/-! ### Layers (R90, R173) -/

theorem Table.mapVals_cons {α β : Type} (f : Nat → α → β) (j : Nat) (w : α) (r : Table α) :
    Table.mapVals f ((j, w) :: r) = (j, f j w) :: Table.mapVals f r := rfl

theorem Table.mapVals_congr {α β : Type} {f g : Nat → α → β} {t : Table α} (h : ∀ e ∈ t, f e.1 e.2 = g e.1 e.2) :
    t.mapVals f = t.mapVals g := List.map_congr_left fun e he => congrArg (Prod.mk e.1) (h e he)

/-- The entry at a key that a table has, replaced under a map of the values. -/
theorem Table.put_mapVals {α β : Type} {t : Table α} {k : Nat} {a : α} (ht : t.Rising) (hk : t.find k = some a)
    (f : Nat → α → β) (v : β) : (t.mapVals f).put k v = t.mapVals (fun j b => if j = k then v else f j b) := by
  induction t with
  | nil => cases hk
  | cons e r ih =>
    obtain ⟨j, w⟩ := e
    obtain ⟨hhead, htail⟩ := List.pairwise_cons.1 ht
    rw [Table.mapVals_cons, Table.mapVals_cons, Table.put]
    by_cases hjk : j = k
    · subst hjk
      have hrest : Table.mapVals (fun i b => if i = j then v else f i b) r = Table.mapVals f r :=
        Table.mapVals_congr fun e he => if_neg (hhead e.1 (List.mem_map_of_mem he)).ne'
      rw [hrest, if_neg (lt_irrefl j), if_pos rfl, if_pos rfl]
    · have hfind : Table.find k r = some a := by rwa [Table.find, if_neg hjk] at hk
      have hlt : j < k := hhead k (List.mem_map_of_mem (Table.mem_of_find hfind))
      rw [if_neg (by omega), if_neg hjk, if_neg hjk, ih htail hfind]

/-- An item layer is skipped for an item that is missing from the item table or SLUNG (R173). -/
theorem layerSkips_item (s : State) (k : Nat) (g : Goal) :
    layerSkips s (.item k g) = (s.item k).all (fun it => it.state == .slung) := by
  dsimp only [layerSkips]
  cases s.item k <;> rfl

theorem layerSkips_tank (s : State) (k f : Nat) : layerSkips s (.tank k f) = false := rfl

/-- The fill that a layer gives a tank. -/
def layerFill (n : Nat) (l : Layer) : Option Nat :=
  match l with
  | .tank k f => if k = n then some f else none
  | .item .. => none

/-- The goal that a layer gives an item: none where the item is SLUNG. -/
def layerGoal (tag : Nat) (it : ItemRecord) (l : Layer) : Option Goal :=
  match l with
  | .item k g => if k = tag ∧ it.state ≠ .slung then some g else none
  | .tank .. => none

theorem layerFill_tank (n k f : Nat) : layerFill n (.tank k f) = if k = n then some f else none := rfl
theorem layerFill_item (n k : Nat) (g : Goal) : layerFill n (.item k g) = none := rfl
theorem layerGoal_tank (tag : Nat) (it : ItemRecord) (k f : Nat) : layerGoal tag it (.tank k f) = none := rfl
theorem layerGoal_item (tag : Nat) (it : ItemRecord) (k : Nat) (g : Goal) :
    layerGoal tag it (.item k g) = if k = tag ∧ it.state ≠ .slung then some g else none := rfl

/-- The fill of a tank under layers: that of the topmost layer that gives one, else its own. -/
def fillUnder (s : State) (layers : List Layer) (n : Nat) : Nat := (layers.reverse.findSome? (layerFill n)).getD (s.fill n)

/-- The weights of an item under layers: at the goal of the topmost layer that gives one, else as in the base. -/
def itemUnder (s : State) (sc : Scope) (layers : List Layer) (tag : Nat) (it : ItemRecord) : List Weight :=
  match layers.reverse.findSome? (layerGoal tag it) with
  | some g => itemAtGoal tag it.mass g
  | none => baseItem s sc tag it

theorem fillUnder_top (s : State) (layers : List Layer) (l : Layer) (n : Nat) :
    fillUnder s (layers ++ [l]) n = (layerFill n l).getD (fillUnder s layers n) := by
  unfold fillUnder
  rw [List.reverse_append, List.reverse_singleton, List.singleton_append, List.findSome?_cons]
  cases layerFill n l <;> rfl

theorem itemUnder_top_of_none {tag : Nat} {it : ItemRecord} {l : Layer} (h : layerGoal tag it l = none) (s : State) (sc : Scope)
    (layers : List Layer) : itemUnder s sc (layers ++ [l]) tag it = itemUnder s sc layers tag it := by
  unfold itemUnder
  rw [List.reverse_append, List.reverse_singleton, List.singleton_append, List.findSome?_cons, h]

theorem itemUnder_top_of_some {tag : Nat} {it : ItemRecord} {l : Layer} {g : Goal} (h : layerGoal tag it l = some g) (s : State)
    (sc : Scope) (layers : List Layer) : itemUnder s sc (layers ++ [l]) tag it = itemAtGoal tag it.mass g := by
  unfold itemUnder
  rw [List.reverse_append, List.reverse_singleton, List.singleton_append, List.findSome?_cons, h]

/-- The prospective set that the layers leave: its items and fills, and the counts of the layers applied and skipped. -/
structure LaidOver (s : State) (sc : Scope) (layers : List Layer) (q : ProspectSet) : Prop where
  items : q.items = s.cond.items.mapVals (itemUnder s sc layers)
  fills : ∀ n, q.fills.value 0 n = fillUnder s layers n
  applied : q.applied = (layers.filter (fun l => !layerSkips s l)).length
  skipped : q.skipped = (layers.filter (layerSkips s)).length

/-- A layer that gives no item of the table a goal leaves the items as they are. -/
theorem items_under_top {s : State} {l : Layer} (h : ∀ e ∈ s.cond.items, layerGoal e.1 e.2 l = none) (sc : Scope)
    (layers : List Layer) :
    s.cond.items.mapVals (itemUnder s sc (layers ++ [l])) = s.cond.items.mapVals (itemUnder s sc layers) :=
  Table.mapVals_congr fun e he => itemUnder_top_of_none (h e he) s sc layers

/-- A skipped layer only counts as one. -/
theorem LaidOver.skip {s : State} {sc : Scope} {layers : List Layer} {q : ProspectSet} (hq : LaidOver s sc layers q) {l : Layer}
    (hs : s.cond.items.Rising) (hskip : layerSkips s l = true) :
    LaidOver s sc (layers ++ [l]) { q with skipped := q.skipped + 1 } where
  items := by
    refine hq.items.trans (items_under_top (fun e he => ?_) sc layers).symm
    cases l with
    | tank k f => rfl
    | item k g =>
      refine if_neg fun ⟨htag, hstate⟩ => hstate ?_
      have hfind : s.item k = some e.2 := by rw [htag]; exact Table.find_of_mem hs he
      simpa [layerSkips_item, hfind] using hskip
  fills n := by
    cases l with
    | tank k f => cases hskip
    | item k g => rw [fillUnder_top, layerFill_item, Option.getD_none, hq.fills]
  applied := by rw [hq.applied]; simp [hskip]
  skipped := by rw [hq.skipped]; simp [hskip]

/-- A tank layer that is taken gives its tank its fill. -/
theorem LaidOver.tank {s : State} {sc : Scope} {layers : List Layer} {q : ProspectSet} (hq : LaidOver s sc layers q)
    (k f : Nat) : LaidOver s sc (layers ++ [.tank k f]) { q with fills := q.fills.store 0 k f, applied := q.applied + 1 } where
  items := hq.items.trans (items_under_top (fun _ _ => rfl) sc layers).symm
  fills n := by
    rw [fillUnder_top, layerFill_tank, ← hq.fills n]
    refine (Table.value_store 0 n k f q.fills).trans ?_
    by_cases h : k = n
    · rw [if_pos h, if_pos h.symm, Option.getD_some]
    · rw [if_neg h, if_neg (Ne.symm h), Option.getD_none]
  applied := by rw [hq.applied]; simp [layerSkips_tank]
  skipped := by rw [hq.skipped]; simp [layerSkips_tank]

/-- An item layer that is taken puts its item at its goal. -/
theorem LaidOver.item {s : State} {sc : Scope} {layers : List Layer} {q : ProspectSet} (hq : LaidOver s sc layers q) {k : Nat}
    {g : Goal} (hs : s.cond.items.Rising) {it : ItemRecord} (hit : s.item k = some it) (hstate : it.state ≠ .slung) :
    LaidOver s sc (layers ++ [.item k g])
      { q with items := q.items.put k (itemAtGoal k it.mass g), applied := q.applied + 1 } where
  items := by
    show q.items.put k _ = _
    rw [hq.items, Table.put_mapVals hs hit]
    refine Table.mapVals_congr fun e he => ?_
    by_cases h : e.1 = k
    · obtain rfl : it = e.2 := Option.some.inj (hit.symm.trans (h ▸ Table.find_of_mem hs he))
      have hgoal : layerGoal e.1 e.2 (.item k g) = some g := if_pos ⟨h.symm, hstate⟩
      exact (if_pos h).trans (h ▸ (itemUnder_top_of_some hgoal s sc layers).symm)
    · have hgoal : layerGoal e.1 e.2 (.item k g) = none := if_neg fun ⟨hk, _⟩ => h hk.symm
      exact (if_neg h).trans (itemUnder_top_of_none hgoal s sc layers).symm
  fills n := by rw [fillUnder_top, layerFill_item, Option.getD_none, hq.fills]
  applied := by rw [hq.applied]; simp [layerSkips_item, hit, hstate]
  skipped := by rw [hq.skipped]; simp [layerSkips_item, hit, hstate]

theorem laidOver_takeLayer {s : State} {sc : Scope} {layers : List Layer} {q : ProspectSet} (hs : s.cond.items.Rising)
    (hq : LaidOver s sc layers q) (l : Layer) : LaidOver s sc (layers ++ [l]) (takeLayer s q l) := by
  unfold takeLayer
  split
  · next hskip => exact hq.skip hs hskip
  · next htake =>
    cases l with
    | tank k f => exact hq.tank k f
    | item k g =>
      cases hit : s.item k with
      | none => simp [layerSkips_item, hit] at htake
      | some it =>
        dsimp only
        rw [hit]
        exact hq.item hs hit (by simpa [layerSkips_item, hit] using htake)

/-- The layers of the trial stack, bottom first, leave the prospective set that is laid over the base (R90, R173). -/
theorem laidOver_prospectSet {s : State} (hs : s.cond.items.Rising) (sc : Scope) :
    LaidOver s sc s.trials.layers (prospectSet s sc) := by
  unfold prospectSet
  induction s.trials.layers using List.reverseRecOn with
  | nil => exact ⟨rfl, fun _ => rfl, rfl, rfl⟩
  | append_singleton layers l ih =>
    rw [List.foldl_append]
    exact laidOver_takeLayer hs ih l

/-- The prospective capture has each item and each tank as the layers leave it (R90). -/
theorem prospectCapture_eq {s : State} (hs : s.cond.items.Rising) (sc : Scope) :
    prospectCapture s sc = captureAt s (fillUnder s s.trials.layers) (placeItems s (itemUnder s sc s.trials.layers)) := by
  obtain ⟨hitems, hfills, -, -⟩ := laidOver_prospectSet hs sc
  unfold prospectCapture
  dsimp only
  rw [captureOf_eq hfills, hitems]
  unfold placeItems Table.mapVals
  rw [List.flatMap_map]

/-! ### The capture of each job -/

/-- Settles O53: each capture by its items and its fills, and the weights of an item by its state, its lift and the layers. -/
theorem routineCaptureHoldsTheCondition : Obligations.RoutineCaptureHoldsTheCondition := by
  refine ⟨fun s => ?routine, fun s => ⟨fun c l => ⟨fun slung hslung => ?path, ?final⟩, fun tag it => ?base,
    fun sc hs => ?prospect⟩⟩
  case routine =>
    have hcapture : routineCapture s = captureAt s s.fill (placeItems s (routineItem s)) := captureOf_eq (fun _ => rfl) _
    dsimp only
    rw [hcapture]
    refine ⟨rfl, rfl, rfl, fun tag it => routineItem_pending, fun tag it pl => routineItem_aboard,
      fun tag it c l q hstate hlink hlift hhook => ⟨fun hrole => ?_, fun n x k hrole hshare hother hpoint => ?_⟩⟩
    · rw [routineItem_slung hstate hlink hlift, hhook]
      exact hookWeights_single hrole ..
    · have hotherHook : recordHook (s.record (otherCrane c)) = some k := by rw [recordHook, hother]; exact hpoint
      rw [routineItem_slung hstate hlink hlift, hhook, hotherHook]
      exact hookWeights_tandem hrole hshare ..
  case path =>
    refine (captureOf_eq (fun _ => rfl) _).trans (congrArg (captureAt s s.fill)
      (checkItems_eq (expected := fun _ it => slung it.mass) fun it => ?_))
    rcases hslung with ⟨hrole, rfl⟩ | ⟨n, k, hrole, hshare, hlift, rfl⟩
    · exact hookWeights_single hrole ..
    · have hpoint : recordOutreach (s.record (otherCrane c)) = some k.outreach := by rw [recordOutreach, hlift]; rfl
      exact (congrArg _ hpoint).trans (hookWeights_tandem hrole hshare ..)
  case final =>
    exact (captureOf_eq (fun _ => rfl) _).trans (congrArg (captureAt s s.fill)
      (checkItems_eq (expected := fun tag it => itemAtGoal tag it.mass l.dest) fun _ => rfl))
  case base =>
    exact ⟨rfl, fun g => baseItem_planned, fun pl => baseItem_unplanned,
      fun c l hstate hslung hlift htag hagree => baseItem_slung hstate (slungDest_eq hslung hlift htag hagree)⟩
  case prospect =>
    obtain ⟨-, -, happlied, hskipped⟩ := laidOver_prospectSet hs sc
    have hskips : layerSkips s = fun l => match l with
        | .tank .. => false
        | .item tag _ => (s.item tag).all (fun it => it.state == .slung) := funext fun l => by
      cases l with
      | tank k f => rfl
      | item k g => exact layerSkips_item s k g
    rw [hskips] at happlied hskipped
    exact ⟨prospectCapture_eq hs sc, happlied, hskipped⟩

end Sys2Proof.Machine
end

section
/-!
SUPPORT. The arbiter (R79, R80): the lift check that comes first, what each job start does, and when the arbiter acts.
-/

namespace Sys2Proof.Machine
open Sys2Proof

/-! ### The order of the arbiter (R79) -/

theorem firstLift_eq_crane1 {e : EvalUnit} {a : Nat} (h1 : e.slotC1 = some a) (hfirst : ∀ b, e.slotC2 = some b → a ≤ b) :
    firstLift e = some .crane1 := by
  unfold firstLift
  rw [h1]
  cases h2 : e.slotC2 with
  | none => rfl
  | some b => exact if_neg (Nat.not_lt.2 (hfirst b h2))

theorem firstLift_eq_crane2 {e : EvalUnit} {b : Nat} (h2 : e.slotC2 = some b) (hfirst : ∀ a, e.slotC1 = some a → b < a) :
    firstLift e = some .crane2 := by
  unfold firstLift
  rw [h2]
  cases h1 : e.slotC1 with
  | none => rfl
  | some a => exact if_pos (hfirst a h1)

theorem firstLift_eq_none {e : EvalUnit} (h1 : e.slotC1 = none) (h2 : e.slotC2 = none) : firstLift e = none := by
  unfold firstLift
  rw [h1, h2]

/-! ### What each job start does (R80, R82) -/

/-- The arbiter may start a job: the mode is IN SERVICE and the engine is free (R80). -/
abbrev CanStart (s : State) : Prop := s.ship.mode = .inService ∧ s.eval.engine = none

theorem startJob_unable {s : State} (h : ¬ CanStart s) : startJob s = s := if_neg h

/-- A lift check that comes first is started with both its cases captured (R79, R87, R88). -/
theorem startJob_lift {s : State} {c : Crane} {l : Lift} (h : CanStart s) (hfirst : firstLift s.eval = some c)
    (hlift : (s.record c).lift = some l) :
    startJob s = startWork (.lift c (pathCapture s c l) (finalCapture s c l)) (dropLiftSlot c s) := by
  unfold startJob
  rw [if_pos h, hfirst]
  dsimp only
  unfold startLiftCheck
  rw [hlift]

/-- With no lift check pending the prospective request comes first (R79). -/
theorem startJob_prospect {s : State} {sc : Scope} {q : Caller} (h : CanStart s) (hfirst : firstLift s.eval = none)
    (hslot : s.eval.slotProspect = some (sc, q)) : startJob s = startProspect sc q s := by
  unfold startJob
  rw [if_pos h, hfirst, hslot]

/-- The routine request comes last (R79). -/
theorem startJob_last {s : State} (h : CanStart s) (hfirst : firstLift s.eval = none) (hslot : s.eval.slotProspect = none) :
    startJob s = if s.eval.slotRoutine then startRoutine s else s := by
  unfold startJob
  rw [if_pos h, hfirst, hslot]

/-- The reading that a routine job captures is the held one, where its age is at most the freshness limit (R158). -/
theorem draftCapture_eq (s : State) : draftCapture s =
    ⟨(match s.tanks.reading with
      | some r => if (r.age : Int) ≤ s.ship.image.timerLengths.freshness then some (r.aft, r.fwd) else none
      | none => none), s.tanks.aftOffset, s.tanks.fwdOffset⟩ := by
  unfold draftCapture State.freshReading State.freshLimit
  cases s.tanks.reading with
  | none => rfl
  | some r =>
    rw [Option.filter_some]
    unfold readingFresh
    by_cases hage : (r.age : Int) ≤ s.ship.image.timerLengths.freshness <;> simp [hage]

/-! ### When the arbiter acts (R80) -/

theorem becamePending_iff (before now : EvalUnit) : becamePending before now = true ↔
    (before.slotC1 = none ∧ now.slotC1 ≠ none) ∨ (before.slotC2 = none ∧ now.slotC2 ≠ none) ∨
    (before.slotProspect = none ∧ now.slotProspect ≠ none) ∨ (before.slotRoutine = false ∧ now.slotRoutine = true) := by
  unfold becamePending
  simp only [Bool.or_eq_true, Bool.and_eq_true, Option.isNone_iff_eq_none, Option.isSome_iff_ne_none, Bool.not_eq_true',
    or_assoc]

theorem becameFree_iff (before now : EvalUnit) : becameFree before now = true ↔ before.engine ≠ none ∧ now.engine = none := by
  unfold becameFree
  rw [Bool.and_eq_true, Option.isSome_iff_ne_none, Option.isNone_iff_eq_none]

/-- The arbiter acts at the two events of R80 alone, and then does what JOB START does. -/
theorem arbitrate_eq_ite (before : EvalUnit) (t : State) : arbitrate before t =
    if becamePending before t.eval = true ∨ becameFree before t.eval = true then startJob t else t := by
  unfold arbitrate
  simp only [Bool.or_eq_true]

/-- Settles O29: the start of each job under its guard, by the order of R79, and the two events of R80. -/
theorem arbiterStartsTheFirstJob : Obligations.ArbiterStartsTheFirstJob := by
  refine ⟨fun s => ?starts, fun before t => ?acts⟩
  case starts =>
    intro can starts check without1 without2
    have hexec : exec .jobStart s = .next (startJob s) := rfl
    rw [hexec]
    refine ⟨fun hcannot => ?_, fun a l hcan h1 hfirst hlift => ?_, fun b l hcan h2 hfirst hlift => ?_,
      fun sc q hcan h1 h2 hslot => ?_, fun hcan h1 h2 hslot hroutine => ?_, fun hcan h1 h2 hslot hroutine => ?_⟩
    · rw [startJob_unable hcannot]
    · rw [startJob_lift hcan (firstLift_eq_crane1 h1 hfirst) hlift]; rfl
    · rw [startJob_lift hcan (firstLift_eq_crane2 h2 hfirst) hlift]; rfl
    · rw [startJob_prospect hcan (firstLift_eq_none h1 h2) hslot]; rfl
    · rw [startJob_last hcan (firstLift_eq_none h1 h2) hslot, if_pos hroutine, startRoutine, draftCapture_eq]; rfl
    · rw [startJob_last hcan (firstLift_eq_none h1 h2) hslot, if_neg (by simp [hroutine])]
  case acts =>
    intro raised freed
    have hevent : (becamePending before t.eval = true ∨ becameFree before t.eval = true) ↔ raised ∨ freed :=
      or_congr (becamePending_iff ..) (becameFree_iff ..)
    rw [arbitrate_eq_ite]
    exact ⟨fun h => congrArg _ (if_pos (hevent.2 h)), fun h => if_neg (mt hevent.1 h)⟩

end Sys2Proof.Machine
end

section
/-!
SUPPORT. The completions of a routine and of a prospective job (R95 to R97, R101, R109, R174, R175), each as its whole
effect on the state.
-/

namespace Sys2Proof.Machine
open Sys2Proof

/-! ### Prospect completion (R101, R174, R175) -/

theorem prospectCompletes_none {s : State}
    (h : ∀ v sc cap depth applied skipped lost q,
      s.eval.engine ≠ some ⟨.computing, v, .prospect sc cap depth applied skipped lost q⟩) : prospectCompletes s = .next s := by
  unfold prospectCompletes
  split
  · next hengine => exact (h _ _ _ _ _ _ _ _ hengine).elim
  · rfl

theorem prospectCompletes_faults {s : State} {v : Version} {sc : Scope} {cap : Capture} {depth applied skipped : Nat}
    {lost : Bool} {q : Caller}
    (hengine : s.eval.engine = some ⟨.computing, v, .prospect sc cap depth applied skipped lost q⟩)
    (hf : figureSet s.ship.image cap = none) : prospectCompletes s = .fault .divisorNotPositive := by
  unfold prospectCompletes
  rw [hengine]
  dsimp only
  rw [hf]

theorem prospectCompletes_writes {s : State} {v : Version} {sc : Scope} {cap : Capture} {depth applied skipped : Nat}
    {lost : Bool} {q : Caller} {f : FigureSet}
    (hengine : s.eval.engine = some ⟨.computing, v, .prospect sc cap depth applied skipped lost q⟩)
    (hf : figureSet s.ship.image cap = some f) : prospectCompletes s =
      .next (arbitrate s.eval (completeProspect q (prospectRecord s v ⟨sc, depth, applied, skipped, lost⟩ f) s)) := by
  unfold prospectCompletes
  rw [hengine]
  dsimp only
  rw [hf]

/-- The record is written and the engine freed, and then the deferred reply is sent if the port's entry still marks its
request (R175, R183). -/
theorem completeProspect_eq (q : Caller) (r : ProspectResult) (s : State) : completeProspect q r s = { s with
    eval := { s.eval with prospect := some r, lastProspectSeq := r.header.seq, engine := none }
    ports := if (s.ports.get q.port).deferred = some q then s.ports.modify q.port (fun z => { z with
        deferred := none, tx := z.tx ++ [⟨⟨replyKind q.kind, q.tag, ⟨.done, .prospect r.header⟩⟩, some q.mark⟩] })
      else s.ports } := by
  unfold completeProspect
  rw [deliver_eq, withEval_ports]
  split_ifs <;> rfl

/-- Settles O37: the completion with no prospective job, with no figure set, and with one. -/
theorem prospectCompletionWrites : Obligations.ProspectCompletionWrites := by
  intro s
  have hexec : exec .prospectCompletion s = prospectCompletes s := rfl
  rw [hexec]
  exact ⟨prospectCompletes_none, fun v sc cap d a k b q => prospectCompletes_faults,
    fun v sc cap depth applied skipped lost q f hengine hf => (prospectCompletes_writes hengine hf).trans
      (congrArg (fun t => Host.Outcome.next (arbitrate s.eval t)) (completeProspect_eq ..))⟩

/-! ### Routine completion (R95 to R97, R109) -/

theorem routineCompletes_none {s : State}
    (h : ∀ v cap slung d, s.eval.engine ≠ some ⟨.computing, v, .routine cap slung d⟩) : routineCompletes s = .next s := by
  unfold routineCompletes
  split
  · next hengine => exact (h _ _ _ _ hengine).elim
  · rfl

theorem routineCompletes_faults {s : State} {v : Version} {cap : Capture} {slung : Bool} {d : DraftCapture}
    (hengine : s.eval.engine = some ⟨.computing, v, .routine cap slung d⟩) (hf : figureSet s.ship.image cap = none) :
    routineCompletes s = .fault .divisorNotPositive := by
  unfold routineCompletes
  rw [hengine]
  dsimp only
  rw [hf]

theorem routineCompletes_judges {s : State} {v : Version} {cap : Capture} {slung : Bool} {d : DraftCapture} {f : FigureSet}
    (hengine : s.eval.engine = some ⟨.computing, v, .routine cap slung d⟩) (hf : figureSet s.ship.image cap = some f) :
    routineCompletes s = .next (arbitrate s.eval (completeRoutine v slung f (disagreement f slung d) s)) := by
  unfold routineCompletes
  rw [hengine]
  dsimp only
  rw [hf]

/-- The distance of two numbers, without a sign. -/
theorem magnitude_sub (a b : Int) : magnitude (a - b) = if a < b then b - a else a - b := by
  unfold magnitude
  split_ifs <;> omega

/-- The draft disagreement is the greater distance of a draft from its reading as the offset shifts it (R158, R159). -/
theorem disagreement_eq (f : FigureSet) (slung : Bool) (d : DraftCapture) :
    disagreement f slung d = if slung = true then none else d.reading.map (fun x =>
      max (if f.trim.ta < x.1 + d.aftOffset then x.1 + d.aftOffset - f.trim.ta else f.trim.ta - (x.1 + d.aftOffset))
        (if f.trim.tf < x.2 + d.fwdOffset then x.2 + d.fwdOffset - f.trim.tf else f.trim.tf - (x.2 + d.fwdOffset))) := by
  unfold disagreement
  simp only [magnitude_sub]
  cases d.reading <;> rfl

/-- The attention unit after a routine result: ACTION CLEARED for a fall, ACTION RAISED where a slot entered ALARM, and NEW
RESULT, in that order (R97, R109, R113). -/
def attnJudged (s : State) (now : Option Action) (entered : List Nat) : PerPort AttnPort :=
  (if entered = [] then attnAfter s now else (attnAfter s now).map (AttnPort.raise .actionRaised)).map
    (AttnPort.raise .newResult)

theorem mem_pending_attnAfter (s : State) (now : Option Action) (p : Port) (x : Cause) :
    x ∈ ((attnAfter s now).get p).pending ↔
      (x = .actionCleared ∧ actionRank now < actionRank s.mon.effective) ∨ x ∈ (s.attn.get p).pending := by
  unfold attnAfter
  split_ifs with h <;> simp [h]

theorem mem_pending_attnJudged (s : State) (now : Option Action) (entered : List Nat) (p : Port) (x : Cause) :
    x ∈ ((attnJudged s now entered).get p).pending ↔ x = .newResult ∨ (x = .actionRaised ∧ entered ≠ []) ∨
      (x = .actionCleared ∧ actionRank now < actionRank s.mon.effective) ∨ x ∈ (s.attn.get p).pending := by
  unfold attnJudged
  split_ifs with h <;> simp [h, mem_pending_attnAfter]

theorem attnAfter_mask_mode (s : State) (now : Option Action) (p : Port) :
    ((attnAfter s now).get p).unmasked = (s.attn.get p).unmasked ∧ ((attnAfter s now).get p).mode = (s.attn.get p).mode := by
  unfold attnAfter
  split_ifs <;> simp

theorem attnJudged_mask_mode (s : State) (now : Option Action) (entered : List Nat) (p : Port) :
    ((attnJudged s now entered).get p).unmasked = (s.attn.get p).unmasked ∧
    ((attnJudged s now entered).get p).mode = (s.attn.get p).mode := by
  unfold attnJudged
  split_ifs <;> simp [attnAfter_mask_mode]

/-- Judging a result as one event at the monitor: the slots move, the sticky sets take those that entered ALARM, the monitor
is primed, and the effective action, the lines and the causes follow (R109, R110 to R113). -/
theorem judgeResult_eq (g : Judging) (seq : Nat) (s : State) : judgeResult g seq s =
    let now := effectiveOf (g.judged.map Judged.slot)
    { s with
      mon := { s.mon with slots := g.judged.map Judged.slot, sticky := s.mon.sticky.map (slotUnion g.entered), primed := true,
                          effective := now, lastJudged := seq }
      lines := lineLevels s.ship.mode true now
      attn := if g.entered = [] then attnAfter s now else (attnAfter s now).map (AttnPort.raise .actionRaised) } := by
  unfold judgeResult
  dsimp only
  rw [settle_eq]
  cases g.entered <;> rfl

/-- A routine job's completion as its whole effect (R95 to R97, R109). -/
theorem completeRoutine_eq (v : Version) (slung : Bool) (f : FigureSet) (dis : Option Int) (s : State) :
    completeRoutine v slung f dis s =
      let g := judgeAll s.mon slung f dis
      let r := routineRecord s v slung f dis g
      let now := effectiveOf (g.judged.map Judged.slot)
      { s with
        eval := { s.eval with
          working := s.eval.prior, latest := some r, prior := s.eval.latest, lastSeq := r.seq, engine := none
          intervalTimer := if s.eval.routineMode = .continuous then some s.eval.interval else s.eval.intervalTimer }
        mon := { s.mon with slots := g.judged.map Judged.slot, sticky := s.mon.sticky.map (slotUnion g.entered), primed := true,
                            effective := now, lastJudged := r.seq }
        lines := lineLevels s.ship.mode true now
        attn := attnJudged s now g.entered } := by
  unfold completeRoutine
  dsimp only
  rw [startInterval_eq, judgeResult_eq]
  rfl

/-- Settles O34: the completion with no routine job, with no figure set, and with one, whose causes are those of its
attention unit. -/
theorem routineCompletionJudges : Obligations.RoutineCompletionJudges := by
  intro s
  have hexec : exec .routineCompletion s = routineCompletes s := rfl
  rw [hexec]
  refine ⟨routineCompletes_none, fun v cap slung d => routineCompletes_faults, fun v cap slung d f hengine hf => ?_⟩
  intro dist dis g seq slots now draft union
  have hdis : disagreement f slung d = dis := disagreement_eq f slung d
  refine ⟨completeRoutine v slung f dis s, hdis ▸ routineCompletes_judges hengine hf, ?_⟩
  rw [completeRoutine_eq]
  exact ⟨rfl, rfl, mem_pending_attnJudged s now g.entered, attnJudged_mask_mode s now g.entered⟩

end Sys2Proof.Machine
end

section
/-!
SUPPORT. The requests to the evaluation unit (R92 to R94, R101) IN SERVICE, and the interval timer.
-/

namespace Sys2Proof.Machine
open Sys2Proof

/-! ### Requests to the evaluation unit (R92 to R94, R101, R102) -/

/-- IN SERVICE a request goes to its owning block as its port's outstanding request, and the arbiter acts on what it
raised (R80, R182). -/
theorem exec_serving {i : Instr} {p : Port} {tag : Byte} {r : Request} {s : State} (hi : requestRow i = some (p, tag, r))
    (hs : Serving s p) (hr : roleAllows r.kind (portRole p) = true) (hm : modeAnswer .inService r.kind = none) :
    exec i s = .next (arbitrate s.eval
      (serve r (nextCaller s p (kindByte r.kind) tag) (openRequest (nextCaller s p (kindByte r.kind) tag) s))) := by
  rw [exec_requestRow s hi, request_serving hs hr hm]

/-- IN SERVICE a request that its block answers at once, changing nothing else, changes the ports alone. -/
theorem exec_answered {i : Instr} {p : Port} {tag : Byte} {r : Request} {s : State} {a : Answer}
    (hi : requestRow i = some (p, tag, r)) (hs : Serving s p) (hr : roleAllows r.kind (portRole p) = true)
    (hm : modeAnswer .inService r.kind = none) (ha : ∀ q t, t.eval = s.eval → t.ship = s.ship → serve r q t = answer q a t) :
    exec i s = answersOnly s p r.kind tag a := by
  obtain ⟨hready, hmode⟩ := hs
  rw [exec_requestRow s hi, request_answered hready (by simp [hmode]) hr (by rw [hmode]; exact hm) (ha _ _ rfl rfl)]
  rfl

/-- EVALUATE NOW raises a routine request in either mode and tells what stood before it (R93). -/
theorem exec_evaluateNow {tag : Byte} {s : State} {running : Bool} {seq : Nat} (hs : Serving s .portP)
    (hrunning : routineInFlight s.eval = running) (hseq : latestSeq s.eval = seq) :
    exec (.evaluateNow .portP tag) s = .next (arbitrate s.eval { s with
      eval := { s.eval with slotRoutine := true }
      ports := answeredPorts s .portP .evaluateNow tag ⟨.done, .evaluateNow (!s.eval.slotRoutine) running seq⟩ }) := by
  subst hrunning hseq
  rw [exec_serving (r := .evaluateNow) rfl hs rfl rfl]
  rfl

/-- SET EVALUATION with no mode, or with an interval outside 1 to 60 (R94). -/
theorem takeSetEvaluation_refused {mode : Option RoutineMode} {interval : Int} (h : mode = none ∨ interval < 1 ∨ 60 < interval)
    (q : Caller) (s : State) : takeSetEvaluation mode interval q s = answer q (bare .badArgument) s := by
  cases mode with
  | none => rfl
  | some m =>
    have hout : within 1 60 interval = false := by
      rw [← Bool.not_eq_true, within_iff]
      rcases h with h | h
      · cases h
      · omega
    exact if_pos hout

/-- SET EVALUATION with a mode and an interval of 1 to 60 (R92, R94). -/
theorem takeSetEvaluation_accepted (m : RoutineMode) {interval : Int} (hlow : 1 ≤ interval) (hhigh : interval ≤ 60)
    (q : Caller) (s : State) : takeSetEvaluation (some m) interval q s = answer q (bare .done) (s.withEval { s.eval with
      routineMode := m, interval := interval.toNat,
      intervalTimer := if m = .continuous then some interval.toNat else none }) := by
  have hin : within 1 60 interval = true := (within_iff ..).2 ⟨hlow, hhigh⟩
  unfold takeSetEvaluation
  dsimp only
  rw [if_neg (by simp [hin])]
  cases m <;> rfl

/-- An expiry of the running interval timer (R92). -/
theorem intervalExpires_running {s : State} {n : Nat} (h : s.eval.intervalTimer = some n) :
    intervalExpires s = arbitrate s.eval { s with
      eval := { s.eval with
        slotRoutine := true
        intervalTimer := some (if s.eval.routineMode = .continuous then s.eval.interval else n) } } := by
  unfold intervalExpires
  rw [h, startInterval_eq, raiseRoutine_eval]
  dsimp only
  rw [h, apply_ite some]
  rfl

/-- Settles O28: each of the three requests, refused and taken, and the interval timer with and without a run. -/
theorem evaluationRequests : Obligations.EvaluationRequests := by
  intro tag s
  refine ⟨fun hs => ?now, fun mode interval hs hbad => ?refused, fun m interval hs hlow hhigh => ?set, fun hs => ?noScope,
    fun sc hs => ?scope, fun n hn => ?expires, fun hn => ?idle⟩
  case now =>
    refine exec_evaluateNow hs ?_ ?_
    · unfold routineInFlight
      rcases s.eval.engine with _ | ⟨_, _, _ | _ | _⟩ <;> rfl
    · unfold latestSeq
      cases s.eval.latest <;> rfl
  case refused =>
    exact exec_answered (r := .setEvaluation mode interval) rfl hs rfl rfl fun q t _ _ => takeSetEvaluation_refused hbad q t
  case set =>
    rw [exec_serving (r := .setEvaluation (some m) interval) rfl hs rfl rfl]
    show Host.Outcome.next (arbitrate s.eval (takeSetEvaluation (some m) interval _ _)) = _
    rw [takeSetEvaluation_accepted m hlow hhigh]
    exact congrArg Host.Outcome.next (arbitrate_same rfl rfl rfl rfl rfl)
  case noScope =>
    exact exec_answered (r := .evaluateProspect none) rfl hs rfl rfl fun q t _ _ => rfl
  case scope =>
    rw [exec_serving (r := .evaluateProspect (some sc)) rfl hs rfl rfl]
    rfl
  case expires =>
    exact congrArg Host.Outcome.next (intervalExpires_running hn)
  case idle =>
    show Host.Outcome.next (intervalExpires s) = _
    rw [intervalExpires, hn]

end Sys2Proof.Machine
end

section
/-!
SUPPORT. The reads of the results (R98, R99, R176) and the bytes of their parts (section 8.6 of the ports chapter).
-/

namespace Sys2Proof.Machine
open Sys2Proof

/-! ### Reads of the results (R99, R176) -/

/-- The parts of a result: three always, and one more for every six stations begun (R99). -/
theorem partExists_iff (n part : Nat) :
    partExists n part = true ↔ part ≤ 2 ∨ (part = 3 ∧ 0 < n) ∨ (part = 4 ∧ 6 < n) ∨ (part = 5 ∧ 12 < n) := by
  match part with
  | 0 | 1 | 2 | 3 | 4 | 5 => simp [partExists]
  | k + 6 => simp [partExists]

section
variable {p : Port} {tag : Byte} {part : Nat} {s : State}

theorem exec_readResult_refused {sel : Selector} (hs : Serving s p)
    (h : partExists s.ship.image.stationCount part = false ∨ sel = .number 0) :
    exec (.readResult p tag sel part) s = answersOnly s p .readResult tag ⟨.badArgument, .statusOnly⟩ := by
  refine exec_answered (r := .readResult sel part) rfl hs rfl rfl fun q t _ hship => ?_
  simp only [serve, takeReadResult, hship]
  exact if_pos h

/-- READ RESULT of a part that exists and of another selector than 0 answers by the record selected (R99). -/
theorem exec_readResult_selected {sel : Selector} (hs : Serving s p)
    (hpart : partExists s.ship.image.stationCount part = true) (hsel : sel ≠ .number 0) :
    exec (.readResult p tag sel part) s = answersOnly s p .readResult tag
      ((selected s sel).elim ⟨.noResult, .statusOnly⟩ (fun r => ⟨.done, .layout (resultPartBytes r part)⟩)) := by
  refine exec_answered (r := .readResult sel part) rfl hs rfl rfl fun q t heval hship => ?_
  have hselected : selected t sel = selected s sel := by
    unfold selected
    rw [heval]
  simp only [serve, takeReadResult, hship, hselected]
  rw [if_neg (by simp [hpart, hsel])]
  cases selected s sel <;> rfl

theorem exec_readProspect_refused (hs : Serving s p) (h : partExists s.ship.image.stationCount part = false) :
    exec (.readProspect p tag part) s = answersOnly s p .readProspect tag ⟨.badArgument, .statusOnly⟩ := by
  refine exec_answered (r := .readProspect part) rfl hs rfl rfl fun q t _ hship => ?_
  simp only [serve, takeReadProspect, hship]
  exact if_pos h

/-- READ PROSPECT of a part that exists answers by the record held (R176). -/
theorem exec_readProspect_held (hs : Serving s p) (hpart : partExists s.ship.image.stationCount part = true) :
    exec (.readProspect p tag part) s = answersOnly s p .readProspect tag
      (s.eval.prospect.elim ⟨.noResult, .statusOnly⟩ (fun r => ⟨.done, .layout (prospectPartBytes r part)⟩)) := by
  refine exec_answered (r := .readProspect part) rfl hs rfl rfl fun q t heval hship => ?_
  simp only [serve, takeReadProspect, hship, heval]
  rw [if_neg (by simp [hpart])]
  cases s.eval.prospect <;> rfl

end

/-- A bank that holds no record of a number is passed over (R99). -/
theorem filter_seq_eq_none {o : Option RoutineResult} {k : Nat} (h : ∀ r, o = some r → r.seq ≠ k) :
    o.filter (fun r => r.seq == k) = none :=
  Option.filter_eq_none_iff.2 fun r hr => by simpa using h r hr

theorem selected_number_latest {s : State} {r : RoutineResult} (h : s.eval.latest = some r) :
    selected s (.number r.seq) = some r := by
  unfold selected
  rw [h]
  simp

theorem selected_number_prior {s : State} {r : RoutineResult} (h : s.eval.prior = some r)
    (hlatest : ∀ l, s.eval.latest = some l → l.seq ≠ r.seq) : selected s (.number r.seq) = some r := by
  unfold selected
  dsimp only
  rw [filter_seq_eq_none hlatest, h]
  simp

theorem selected_number_none {s : State} {k : Nat} (hlatest : ∀ r, s.eval.latest = some r → r.seq ≠ k)
    (hprior : ∀ r, s.eval.prior = some r → r.seq ≠ k) : selected s (.number k) = none := by
  unfold selected
  dsimp only
  rw [filter_seq_eq_none hlatest, filter_seq_eq_none hprior]
  rfl

/-! ### The bytes of the parts (section 8.6) -/

/-- A byte of eight bits, the bit of each weight named. -/
theorem flagByte_eight (b7 b6 b5 b4 b3 b2 b1 b0 : Bool) :
    flagByte [b7, b6, b5, b4, b3, b2, b1, b0] = byteOf ((if b7 = true then 128 else 0) + (if b6 = true then 64 else 0) +
      (if b5 = true then 32 else 0) + (if b4 = true then 16 else 0) + (if b3 = true then 8 else 0) +
      (if b2 = true then 4 else 0) + (if b1 = true then 2 else 0) + (if b0 = true then 1 else 0)) := by
  have hweight (b : Bool) (w : Int) : (if b = true then w else 0) = w * (if b = true then 1 else 0) := by simp
  unfold flagByte
  rw [hweight b7 128, hweight b6 64, hweight b5 32, hweight b4 16, hweight b3 8, hweight b2 4, hweight b1 2]
  simp only [List.foldl_cons, List.foldl_nil]
  congr 1
  ring

/-- The bytes of part 0 of a routine result. -/
theorem routineHeader_eq (r : RoutineResult) : routineHeader r =
    bytes4 (r.version.toNat : Int) ++
      [byteOf ((if r.stale = true then 128 else 0) + (if r.figures.flags.offLow = true then 64 else 0) +
        (if r.figures.flags.offHigh = true then 32 else 0) + (if r.figures.flags.trimSaturated = true then 16 else 0) +
        (if r.figures.flags.negativeGm = true then 8 else 0) + (if r.disagreement.isNone = true then 4 else 0) +
        (if r.injected = true then 2 else 0)), byteOf r.stationCount] ++ verdictBytes r.verdicts ++
      bytes4 (r.disagreement.getD 0) ++ bytes4 r.figures.loadRatio ++ bytes4 r.figures.maxShear ++
      bytes4 r.figures.maxBend := by
  unfold routineHeader figureFlagBits versionBytes
  simp only [List.cons_append, List.nil_append]
  rw [flagByte_eight]
  simp [List.flatMap_cons]

/-- The parts from 3 on hold six stations each; of sixteen, the last four are in part 5 (section 8.6). -/
theorem partStations_eq {f : FigureSet} {part : Nat} (hlow : 3 ≤ part) (hhigh : part ≤ 5) (h : f.stations.length ≤ 16) :
    partStations f part = (f.stations.drop (6 * (part - 3))).take 6 := by
  obtain rfl | rfl | rfl : part = 3 ∨ part = 4 ∨ part = 5 := by omega
  · rfl
  · rfl
  · have hfew : (f.stations.drop 12).length ≤ 4 := by
      rw [List.length_drop]
      omega
    show (f.stations.drop 12).take 4 = (f.stations.drop 12).take 6
    rw [List.take_of_length_le hfew, List.take_of_length_le (by omega)]

/-- The bytes of the parts from 3 on: four figures of each station. -/
theorem figureBytes_stations {f : FigureSet} {part : Nat} (hlow : 3 ≤ part) (hhigh : part ≤ 5) (h : f.stations.length ≤ 16) :
    figureBytes f part = ((f.stations.drop (6 * (part - 3))).take 6).flatMap
      (fun x => bytes4 x.sf ++ bytes4 x.bm ++ bytes4 x.shear ++ bytes4 x.bend) := by
  rw [← partStations_eq hlow hhigh h]
  obtain rfl | rfl | rfl : part = 3 ∨ part = 4 ∨ part = 5 := by omega
  all_goals rfl

/-- The check word is over what the parts present, with the bytes of the check word left out (R98). -/
theorem resultPartBytes_unchecked (r : RoutineResult) (n : Nat) :
    (resultPartBytes r n).take 3 ++ (resultPartBytes r n).drop 5 = byteOf n :: (bytes2 r.seq ++ routinePart r n) := rfl

/-- The bytes of part 0 of a prospective result. -/
theorem prospectHeaderBytes_eq {h : ProspectHeader} {scope first : Byte} {figure : Int} (hscope : scopeByte h.scope = scope)
    (hfirst : h.firstFail.elim 0xFF (fun x => byteOf x.1) = first) (hfigure : h.firstFail.elim 0 Prod.snd = figure) :
    prospectHeaderBytes h = bytes4 (h.version.toNat : Int) ++
      [scope, byteOf ((if h.stale = true then 128 else 0) + (if h.flags.offLow = true then 64 else 0) +
        (if h.flags.offHigh = true then 32 else 0) + (if h.flags.trimSaturated = true then 16 else 0) +
        (if h.flags.negativeGm = true then 8 else 0) + (if h.baseLost = true then 1 else 0)),
       byteOf h.stationCount, byteOf h.depth, byteOf h.applied, byteOf h.skipped] ++ verdictBytes h.verdicts ++
      [byteOf h.failing, first] ++ bytes4 figure ++ bytes4 h.loadRatio ++ bytes4 h.maxShear ++ bytes4 h.maxBend := by
  subst hscope hfirst hfigure
  unfold prospectHeaderBytes figureFlagBits versionBytes
  simp only [List.cons_append, List.nil_append]
  rw [flagByte_eight]
  cases h.firstFail <;> simp [List.flatMap_cons]

theorem length_prospectPartBytes_zero (q : ProspectResult) : (prospectPartBytes q 0).length = 37 := rfl

/-! ### The packed verdicts (section 8.6) -/

/-- One more verdict behind those packed so far: two bits of room, and its code in them. -/
def packVerdict (a : Int) (v : Verdict) : Int := 4 * a + verdictCode v

theorem verdictCode_bounds (v : Verdict) : 0 ≤ verdictCode v ∧ verdictCode v < 4 := by cases v <;> decide

/-- Each verdict stands in its own base 4 digit of the packed number, slot 0 in the highest. -/
theorem digit_packed (vs : List Verdict) {i : Nat} (hi : i < vs.length) :
    vs.foldl packVerdict 0 / 4 ^ (vs.length - 1 - i) % 4 = verdictCode (vs.getD i .na) := by
  induction vs using List.reverseRecOn with
  | nil => exact absurd hi (Nat.not_lt_zero i)
  | append_singleton vs v ih =>
    obtain ⟨hlow, hhigh⟩ := verdictCode_bounds v
    rw [List.foldl_append, List.foldl_cons, List.foldl_nil, packVerdict, List.length_append, List.length_singleton]
    rcases Nat.lt_or_ge i vs.length with hlt | hge
    · have hexp : vs.length + 1 - 1 - i = (vs.length - 1 - i) + 1 := by omega
      have hdrop : (4 * vs.foldl packVerdict 0 + verdictCode v) / 4 = vs.foldl packVerdict 0 := by omega
      rw [hexp, pow_succ', ← Int.ediv_ediv_of_nonneg (by omega), hdrop, ih hlt, List.getD_append _ _ _ _ hlt]
    · obtain rfl : i = vs.length := by
        rw [List.length_append, List.length_singleton] at hi
        omega
      have hexp : vs.length + 1 - 1 - vs.length = 0 := by omega
      rw [hexp, pow_zero, Int.ediv_one, List.getD_append_right _ _ _ _ le_rfl, Nat.sub_self]
      show _ = verdictCode v
      omega

/-- The bytes of a four-byte field are the base 256 digits of its number. -/
theorem bytes4_at (m : Int) {j : Nat} (hj : j ≤ 3) : (bytes4 m).getD j 0 = byteOf (m / 256 ^ (3 - j)) := by
  interval_cases j <;> norm_num [bytes4]

/-- The base 4 digits of a byte are those of the number it is cut from. -/
theorem digit_byteOf (m : Int) {k : Nat} (hk : k ≤ 3) :
    (byteOf m >>> (2 * k)) &&& 3 = byteOf (m / 4 ^ k % 4) := by
  have hmask : (3 : BitVec 8).toNat = 2 ^ 2 - 1 := rfl
  apply BitVec.eq_of_toNat_eq
  rw [BitVec.toNat_and, BitVec.toNat_ushiftRight, hmask, Nat.and_two_pow_sub_one_eq_mod, Nat.shiftRight_eq_div_pow]
  unfold byteOf
  rw [BitVec.toNat_ofInt, BitVec.toNat_ofInt]
  interval_cases k <;> omega

/-- Slot `i` has two bits of byte `i / 4`, the lowest index in the highest bits (section 8.6). -/
theorem verdictBytes_at {vs : List Verdict} (hlen : vs.length = 16) {i : Nat} (hi : i < 16) :
    ((verdictBytes vs).getD (i / 4) 0 >>> (6 - 2 * (i % 4))) &&& 3 = byteOf (verdictCode (vs.getD i .na)) := by
  have hbyte : (verdictBytes vs).getD (i / 4) 0 = byteOf (vs.foldl packVerdict 0 / 256 ^ (3 - i / 4)) :=
    bytes4_at _ (by omega)
  have hshift : 6 - 2 * (i % 4) = 2 * (3 - i % 4) := by omega
  have hexp : vs.length - 1 - i = 4 * (3 - i / 4) + (3 - i % 4) := by omega
  rw [hbyte, hshift, digit_byteOf _ (by omega), Int.ediv_ediv_of_nonneg (by positivity), ← digit_packed vs (by omega), hexp,
    pow_add, pow_mul]
  rfl

/-- Settles O27: what each read answers, the bytes of the parts of both results, and the packed verdicts. -/
theorem resultReadsAndLayouts : Obligations.ResultReadsAndLayouts := by
  refine ⟨fun p tag part s hs => ?reads, ⟨fun r part => ?layout, fun r => ?check, fun vs hlen i hi => ?verdicts⟩,
    fun q => ?prospect⟩
  case reads =>
    intro n exists' read is found
    have hexists : partExists n part = true ↔ exists' := partExists_iff n part
    have habsent (h : ¬ exists') : partExists n part = false := by rwa [← Bool.not_eq_true, hexists]
    have hselected {sel : Selector} {o : Option RoutineResult} (hpart : exists') (hsel : sel ≠ .number 0)
        (ho : selected s sel = o) : read sel = answersOnly s p .readResult tag
          (o.elim ⟨.noResult, .statusOnly⟩ (fun r => ⟨.done, .layout (resultPartBytes r part)⟩)) :=
      ho ▸ exec_readResult_selected hs (hexists.2 hpart) hsel
    have hnumber {r : RoutineResult} (hseq : ¬ is 0 r) : Selector.number r.seq ≠ .number 0 := fun h => hseq (by injection h)
    refine ⟨fun sel h => exec_readResult_refused hs (h.imp_left habsent),
      fun hpart h => hselected (sel := .latest) hpart nofun h, fun hpart h => hselected (sel := .prior) hpart nofun h,
      fun r hpart h => ⟨hselected (sel := .latest) hpart nofun h, ?_⟩,
      fun r hpart h => ⟨hselected (sel := .prior) hpart nofun h, ?_⟩,
      fun k hpart hk hlatest hprior => hselected hpart (by rintro ⟨⟩; omega) (selected_number_none hlatest hprior),
      fun hpart => exec_readProspect_refused hs (habsent hpart), fun hpart h => ?_, fun r hpart h => ?_⟩
    · exact or_iff_not_imp_left.2 fun hseq => hselected hpart (hnumber hseq) (selected_number_latest h)
    · refine or_iff_not_imp_left.2 fun hseq => or_iff_not_imp_left.2 fun hlatest => ?_
      exact hselected hpart (hnumber hseq) (selected_number_prior h fun l hl heq => hlatest ⟨l, hl, heq⟩)
    all_goals rw [exec_readProspect_held hs (hexists.2 hpart), h]; rfl
  case layout =>
    intro f bit flags body hpart hstations
    have hbody : routinePart r part = body := by
      rcases part with _ | _ | _ | k
      · exact routineHeader_eq r
      · rfl
      · rfl
      · exact figureBytes_stations (by omega) hpart hstations
    refine ⟨by rw [← hbody]; rfl, fun q hq hone => ?_⟩
    have hfigures : routinePart r part = figureBytes f part := if_neg (by omega)
    rw [← hbody, hfigures, prospectPartBytes, if_neg (by omega), hq]
  case check =>
    simp only [resultPartBytes_unchecked]
    rfl
  case verdicts =>
    refine (verdictBytes_at hlen hi).trans ?_
    cases vs.getD i .na <;> rfl
  case prospect =>
    intro h bit
    refine ⟨?_, length_prospectPartBytes_zero q⟩
    refine (congrArg (fun b => byteOf 0 :: (bytes2 h.seq ++ [0, 0] ++ b))
      (prospectHeaderBytes_eq ?scope ?first ?figure)).trans rfl
    case scope => cases h.scope <;> rfl
    all_goals cases h.firstFail <;> rfl

end Sys2Proof.Machine
end

section
/-!
SUPPORT. The verdicts on a figure set (R104, R105, R107, R108, R115) and the effective action with its lines (R110 to R112).
-/

namespace Sys2Proof.Machine
open Sys2Proof

/-! ### Comparing a figure with a limit (R104, R105) -/

/-- The magnitude of a number is the number without its sign. -/
theorem magnitude_eq (v : Int) : magnitude v = if v < 0 then -v else v := by
  unfold magnitude
  split_ifs <;> omega

/-- A value below the limit of a minimum sense fails, and one above the limit of a maximum sense (R104). -/
theorem failsLimit_iff (st : Settings) (v : Int) :
    failsLimit st v = true ↔ if isMinimum st.code = true then v < st.limit else st.limit < v := by
  unfold failsLimit
  split_ifs <;> exact decide_eq_true_iff

/-- A value recovers past the hysteresis on the passing side of the limit (R108). -/
theorem recovered_iff (st : Settings) (v : Int) :
    recovered st v = true ↔ if isMinimum st.code = true then st.limit + st.hyst ≤ v else v ≤ st.limit - st.hyst := by
  unfold recovered
  split_ifs <;> exact decide_eq_true_iff

/-- The codes with the minimum sense (R104). -/
theorem isMinimum_iff (c : Code) :
    isMinimum c = true ↔ c ∈ [Code.gmMin, .area30Min, .area40Min, .area3040Min, .gz30Min, .gzAngleMin] := by
  cases c <;> decide

/-- The five kinds of pass, in the order of R105. -/
def allPasses : List PassKind := [.r, .rl, .lp, .lf, .p]

theorem mem_allPasses (k : PassKind) : k ∈ allPasses := by cases k <;> decide

/-- One row of the tables of R104 and R105: the code's figure, its sense and its passes. -/
theorem code_row {f : FigureSet} {dis fig : Option Int} {c : Code} {min : Bool} {passes : List PassKind}
    (hfig : compared f dis c = fig) (hmin : isMinimum c = min) (hpasses : allPasses.filter (applies c) = passes) :
    compared f dis c = fig ∧ (∀ k, applies c k = true ↔ k ∈ passes) ∧ ∀ (st : Settings) (v : Int), st.code = c →
      (failsLimit st v = true ↔ if min = true then v < st.limit else st.limit < v) := by
  subst hfig hmin hpasses
  refine ⟨rfl, fun k => by simp [mem_allPasses], fun st v hcode => ?_⟩
  subst hcode
  exact failsLimit_iff st v

/-- Settles O32: the fourteen rows of R104 and R105, one by one. -/
theorem codesCompareTheirFigures : Obligations.CodesCompareTheirFigures := by
  intro f dis mag table
  have hmag (v : Int) : some (magnitude v) = some (mag v) := congrArg some (magnitude_eq v)
  have hmax : max f.trim.ta f.trim.tf = if f.trim.ta ≤ f.trim.tf then f.trim.tf else f.trim.ta := Int.max_def ..
  refine ⟨?rows, fun c hc => ?codes, fun k => rfl⟩
  case rows =>
    simp only [table, List.forall_mem_cons]
    exact ⟨code_row rfl rfl rfl, code_row rfl rfl rfl, code_row rfl rfl rfl, code_row rfl rfl rfl, code_row rfl rfl rfl,
      code_row rfl rfl rfl, code_row (hmag _) rfl rfl, code_row (hmag _) rfl rfl, code_row (hmag _) rfl rfl,
      code_row (congrArg some hmax) rfl rfl, code_row rfl rfl rfl, code_row rfl rfl rfl, code_row rfl rfl rfl,
      code_row rfl rfl rfl, nofun⟩
  case codes => cases c <;> simp [table] at hc ⊢

/-! ### The plain comparison (R115) -/

/-- A list made slot by slot, with the index counted along, is that of its slots with their offsets. -/
theorem eq_mapIdx {α β : Type} {make : Nat → List α → List β} {g : Nat → α → β} (hnil : ∀ n, make n [] = [])
    (hcons : ∀ n o l, make n (o :: l) = g n o :: make (n + 1) l) (n : Nat) (l : List α) :
    make n l = l.mapIdx (fun i o => g (n + i) o) := by
  induction l generalizing n with
  | nil => exact hnil n
  | cons o l ih =>
    rw [hcons, ih, List.mapIdx_cons]
    simp only [Nat.add_assoc, Nat.add_comm 1, Nat.add_zero]

/-- The plain comparison goes slot by slot. -/
theorem plainFrom_eq (m : Monitor) (k : PassKind) (f : FigureSet) (n : Nat) (l : List Slot) :
    plainFrom m k f n l = l.mapIdx (fun i o => plainVerdict m k f (n + i) o) :=
  eq_mapIdx (fun _ => rfl) (fun _ _ _ => rfl) n l

theorem length_plainCompare (m : Monitor) (k : PassKind) (f : FigureSet) : (plainCompare m k f).length = m.slots.length := by
  rw [plainCompare, plainFrom_eq, List.length_mapIdx]

theorem getElem?_plainCompare (m : Monitor) (k : PassKind) (f : FigureSet) (i : Nat) :
    (plainCompare m k f)[i]? = m.slots[i]?.map (plainVerdict m k f i) := by
  rw [plainCompare, plainFrom_eq, List.getElem?_mapIdx, Nat.zero_add]

/-- Where the code does not apply, or there is no figure to compare, the verdict is N/A. -/
theorem plainVerdict_na {m : Monitor} {k : PassKind} {f : FigureSet} {i : Nat} {o : Slot}
    (h : ¬ (inRange m.rangeStart m.rangeStop i = true ∧ applies o.set.code k = true) ∨ compared f none o.set.code = none) :
    plainVerdict m k f i o = (.na, none) := by
  unfold plainVerdict
  split
  · next happlies =>
    rcases h with h | h
    · exact absurd (Bool.and_eq_true_iff.1 happlies) h
    · rw [h]
  · rfl

/-- Where the code applies, the verdict is given on the computed figure. -/
theorem plainVerdict_judged {m : Monitor} {k : PassKind} {f : FigureSet} {i : Nat} {o : Slot} {v : Int}
    (h : inRange m.rangeStart m.rangeStop i = true ∧ applies o.set.code k = true) (hv : compared f none o.set.code = some v) :
    plainVerdict m k f i o = (if failsLimit o.set v = true then .fail else .pass, some v) := by
  unfold plainVerdict
  rw [if_pos (Bool.and_eq_true_iff.2 h), hv]

/-- A failing verdict is given on a figure. -/
theorem plainVerdict_fail {m : Monitor} {k : PassKind} {f : FigureSet} {i : Nat} {o : Slot}
    (h : (plainVerdict m k f i o).1 = .fail) : (plainVerdict m k f i o).2.isSome = true := by
  by_cases happlies : inRange m.rangeStart m.rangeStop i = true ∧ applies o.set.code k = true
  · cases hv : compared f none o.set.code with
    | none => rw [plainVerdict_na (.inr hv)] at h; cases h
    | some v => rw [plainVerdict_judged happlies hv]; rfl
  · rw [plainVerdict_na (.inl happlies)] at h
    cases h

theorem plainCompare_fail {m : Monitor} {k : PassKind} {f : FigureSet} :
    ∀ e ∈ plainCompare m k f, e.1 = .fail → e.2.isSome = true := by
  intro e he
  obtain ⟨i, hi⟩ := List.mem_iff_getElem?.1 he
  rw [getElem?_plainCompare, Option.map_eq_some_iff] at hi
  obtain ⟨o, -, rfl⟩ := hi
  exact plainVerdict_fail

/-! ### The lowest failing slot (R115, R135) -/

theorem firstFail_cons_fail {n : Nat} {e : Verdict × Option Int} (l : List (Verdict × Option Int)) (h : e.1 = .fail) :
    firstFail n (e :: l) = some (n, e.2.getD 0) := by
  obtain ⟨w, x⟩ := e
  subst h
  rfl

theorem firstFail_cons_other {n : Nat} {e : Verdict × Option Int} (l : List (Verdict × Option Int)) (h : e.1 ≠ .fail) :
    firstFail n (e :: l) = firstFail (n + 1) l := by
  obtain ⟨w, x⟩ := e
  cases w with
  | fail => exact absurd rfl h
  | pass => rfl
  | na => rfl

/-- Counting from one higher shifts the index found. -/
theorem firstFail_succ (n : Nat) (l : List (Verdict × Option Int)) :
    firstFail (n + 1) l = (firstFail n l).map (fun x => (x.1 + 1, x.2)) := by
  induction l generalizing n with
  | nil => rfl
  | cons e l ih =>
    by_cases hfail : e.1 = .fail
    · rw [firstFail_cons_fail l hfail, firstFail_cons_fail l hfail]
      rfl
    · rw [firstFail_cons_other l hfail, firstFail_cons_other l hfail]
      exact ih (n + 1)

/-- The index found fails on its figure, and no lower one fails. -/
theorem firstFail_eq_some {l : List (Verdict × Option Int)} (h : ∀ e ∈ l, e.1 = .fail → e.2.isSome = true) (i : Nat) (v : Int) :
    firstFail 0 l = some (i, v) ↔ l[i]? = some (.fail, some v) ∧ ∀ j, j < i → (l[j]?.map Prod.fst) ≠ some .fail := by
  induction l generalizing i with
  | nil => simp [firstFail]
  | cons e l ih =>
    obtain ⟨he, hl⟩ := List.forall_mem_cons.1 h
    by_cases hfail : e.1 = .fail
    · rw [firstFail_cons_fail l hfail]
      obtain ⟨x, hx⟩ := Option.isSome_iff_exists.1 (he hfail)
      obtain rfl : e = (.fail, some x) := Prod.ext hfail hx
      cases i with
      | zero => simp
      | succ i => exact ⟨nofun, fun ⟨_, hlow⟩ => absurd rfl (hlow 0 i.succ_pos)⟩
    · rw [firstFail_cons_other l hfail, firstFail_succ, Option.map_eq_some_iff]
      cases i with
      | zero =>
        refine ⟨fun ⟨x, _, hx⟩ => (nomatch hx), fun ⟨hzero, _⟩ => absurd ?_ hfail⟩
        rw [Option.some.inj hzero]
      | succ i =>
        have hfound : (∃ x, firstFail 0 l = some x ∧ (x.1 + 1, x.2) = (i + 1, v)) ↔ firstFail 0 l = some (i, v) := by
          simp [Prod.ext_iff]
        rw [hfound, ih hl, List.getElem?_cons_succ]
        refine and_congr_right fun _ => ⟨fun hlow j hj => ?_, fun hlow j hj => hlow (j + 1) (by omega)⟩
        cases j with
        | zero => simpa using hfail
        | succ j => exact hlow j (by omega)

/-- None is found where none fails. -/
theorem firstFail_eq_none (n : Nat) (l : List (Verdict × Option Int)) : firstFail n l = none ↔ ∀ e ∈ l, e.1 ≠ .fail := by
  induction l generalizing n with
  | nil => simp [firstFail]
  | cons e l ih =>
    rw [List.forall_mem_cons]
    by_cases hfail : e.1 = .fail
    · simp [firstFail_cons_fail l hfail, hfail]
    · rw [firstFail_cons_other l hfail, ih]
      exact (and_iff_right hfail).symm

/-- Settles O31: the comparison slot by slot, and the lowest failing slot. -/
theorem plainComparisonUsesComputedFigures : Obligations.PlainComparisonUsesComputedFigures := by
  intro m k f
  refine ⟨length_plainCompare m k f, fun i o ho => ?_, firstFail_eq_some plainCompare_fail, firstFail_eq_none 0 _⟩
  rw [getElem?_plainCompare, ho]
  exact ⟨fun h => congrArg some (plainVerdict_na h), fun v happlies hv => congrArg some (plainVerdict_judged happlies hv)⟩

/-! ### Judging a routine result (R107, R108) -/

/-- Judging goes slot by slot. -/
theorem judgeFrom_eq (m : Monitor) (k : PassKind) (f : FigureSet) (dis : Option Int) (n : Nat) (l : List Slot) :
    judgeFrom m k f dis n l = l.mapIdx (fun i o => judgeSlot m k f dis (n + i) o) :=
  eq_mapIdx (fun _ => rfl) (fun _ _ _ => rfl) n l

/-- Counting from one higher shifts the indices. -/
theorem enteredFrom_succ (n : Nat) (as : List Slot) (bs : List Judged) :
    enteredFrom (n + 1) as bs = (enteredFrom n as bs).map (· + 1) := by
  induction as generalizing n bs with
  | nil => rfl
  | cons a as ih =>
    cases bs with
    | nil => rfl
    | cons b bs =>
      unfold enteredFrom
      split
      · exact congrArg _ (ih (n + 1) bs)
      · exact ih (n + 1) bs

/-- The slots that entered ALARM were CLEAR before and are in ALARM after (R109). -/
theorem mem_enteredFrom (i : Nat) (as : List Slot) (bs : List Judged) : i ∈ enteredFrom 0 as bs ↔
    ∃ a b, as[i]? = some a ∧ bs[i]? = some b ∧ a.alarm = false ∧ b.slot.alarm = true := by
  induction as generalizing i bs with
  | nil => simp [enteredFrom]
  | cons a as ih =>
    cases bs with
    | nil => simp [enteredFrom]
    | cons b bs =>
      rw [enteredFrom, enteredFrom_succ]
      cases i with
      | zero => split_ifs with h <;> simpa using h
      | succ i =>
        have htail : i + 1 ∈ (enteredFrom 0 as bs).map (· + 1) ↔ i ∈ enteredFrom 0 as bs := by simp
        simp only [List.getElem?_cons_succ, ← ih, ← htail]
        split_ifs <;> simp

theorem getElem?_judged (m : Monitor) (slung : Bool) (f : FigureSet) (dis : Option Int) (i : Nat) :
    (judgeAll m slung f dis).judged[i]? = m.slots[i]?.map (judgeSlot m (if slung then .rl else .r) f dis i) := by
  show (judgeFrom ..)[i]? = _
  rw [judgeFrom_eq, List.getElem?_mapIdx, Nat.zero_add]

/-- Outside the effective range, where the code does not apply and where there is no figure, a slot is not judged (R107). -/
theorem judgeSlot_na {m : Monitor} {k : PassKind} {f : FigureSet} {dis : Option Int} {i : Nat} {o : Slot}
    (h : inRange m.rangeStart m.rangeStop i = false ∨ applies o.set.code k = false ∨ compared f dis o.set.code = none) :
    judgeSlot m k f dis i o = ⟨.na, false, o⟩ := by
  have hnone : judgedValue m k f dis i o = none := by
    unfold judgedValue
    rcases h with h | h | h
    · simp [h]
    · simp [h]
    · rw [h, ite_self]
  unfold judgeSlot
  rw [hnone]

/-- A slot is judged on its injected value, or else on the computed figure (R107). -/
theorem judgeSlot_judged {m : Monitor} {k : PassKind} {f : FigureSet} {dis : Option Int} {i : Nat} {o : Slot} {c : Int}
    (hrange : inRange m.rangeStart m.rangeStop i = true) (happlies : applies o.set.code k = true)
    (hc : compared f dis o.set.code = some c) : judgeSlot m k f dis i o =
      ⟨if failsLimit o.set (o.injected.getD c) = true then .fail else .pass, o.injected.isSome, moveSlot o (o.injected.getD c)⟩ := by
  have hvalue : judgedValue m k f dis i o = some (o.injected.getD c, o.injected.isSome) := by
    unfold judgedValue
    rw [if_pos (by simp [hrange, happlies]), hc]
    cases o.injected <;> rfl
  unfold judgeSlot
  rw [hvalue]

/-! #### The rows of R108 -/

theorem moveSlot_passes {o : Slot} {v : Int} (halarm : o.alarm = false) (h : failsLimit o.set v ≠ true) :
    moveSlot o v = { o with alarm := false, count := 0 } := by
  unfold moveSlot
  rw [if_neg (by simp [halarm]), if_neg h, ← halarm]

theorem moveSlot_counts {o : Slot} {v : Int} (halarm : o.alarm = false) (h : failsLimit o.set v = true)
    (hcount : o.count + 1 < o.set.n) : moveSlot o v = { o with alarm := false, count := o.count + 1 } := by
  unfold moveSlot
  rw [if_neg (by simp [halarm]), if_pos h, if_pos hcount, ← halarm]

theorem moveSlot_enters {o : Slot} {v : Int} (halarm : o.alarm = false) (h : failsLimit o.set v = true)
    (hcount : o.set.n ≤ o.count + 1) : moveSlot o v = { o with alarm := true, count := o.set.n } := by
  unfold moveSlot
  rw [if_neg (by simp [halarm]), if_pos h, if_neg (not_lt.2 hcount)]

theorem moveSlot_recovers {o : Slot} {v : Int} (halarm : o.alarm = true) (h : recovered o.set v = true) :
    moveSlot o v = { o with alarm := false, count := 0 } := by
  unfold moveSlot
  rw [if_pos halarm, if_pos h]

theorem moveSlot_stays {o : Slot} {v : Int} (halarm : o.alarm = true) (h : recovered o.set v ≠ true) :
    moveSlot o v = { o with alarm := true, count := o.set.n } := by
  unfold moveSlot
  rw [if_pos halarm, if_neg h, ← halarm]

/-- Settles O33: the slots that entered ALARM, the slots that are not judged, and the rows of R108 for the others. -/
theorem judgingMovesSlots : Obligations.JudgingMovesSlots := by
  intro m slung f dis g
  refine ⟨length_judgeFrom .., fun i o ho => ?_⟩
  intro kind na
  have hjudged : g.judged[i]? = some (judgeSlot m kind f dis i o) := by rw [getElem?_judged, ho]; rfl
  refine ⟨?entered, fun hna => ?unjudged, fun c v hna hc hv => ?moved⟩
  case entered =>
    refine (mem_enteredFrom i m.slots g.judged).trans ?_
    simp [ho, hjudged]
  case unjudged =>
    rw [hjudged]
    refine congrArg some (judgeSlot_na ?_)
    rcases hna with hnone | hrange | happlies | ⟨hcode, hdis⟩
    · exact .inr (.inl (by rw [hnone]; rfl))
    · exact .inl hrange
    · exact .inr (.inl happlies)
    · exact .inr (.inr (by rw [hcode]; exact hdis))
  case moved =>
    simp only [na, not_or, Bool.not_eq_false] at hna
    obtain ⟨-, hrange, happlies, -⟩ := hna
    rw [hjudged, judgeSlot_judged hrange happlies hc, ← hv]
    simp only [← isMinimum_iff, ← recovered_iff]
    exact ⟨fun ha hf => by rw [moveSlot_passes ha hf], fun ha hf hn => by rw [moveSlot_counts ha hf hn],
      fun ha hf hn => by rw [moveSlot_enters ha hf hn], fun ha hr => by rw [moveSlot_recovers ha hr],
      fun ha hr => by rw [moveSlot_stays ha hr]⟩

/-! ### The effective action and the lines (R110 to R112) -/

/-- Every action ranks above NONE (R110). -/
theorem actionRank_some_pos (a : Action) : 0 < actionRank (some a) := by cases a <;> decide

theorem le_higherAction (a b : Option Action) :
    actionRank a ≤ actionRank (higherAction a b) ∧ actionRank b ≤ actionRank (higherAction a b) := by
  unfold higherAction
  split_ifs <;> omega

theorem higherAction_eq (a b : Option Action) : higherAction a b = a ∨ higherAction a b = b := by
  unfold higherAction
  split_ifs
  · exact .inr rfl
  · exact .inl rfl

theorem effectiveOf_cons (o : Slot) (l : List Slot) :
    effectiveOf (o :: l) = if o.alarm = true then higherAction (some o.set.action) (effectiveOf l) else effectiveOf l := rfl

/-- No slot in ALARM has an action above the effective one. -/
theorem le_effectiveOf {l : List Slot} {o : Slot} (ho : o ∈ l) (halarm : o.alarm = true) :
    actionRank (some o.set.action) ≤ actionRank (effectiveOf l) := by
  induction l with
  | nil => cases ho
  | cons p l ih =>
    rw [effectiveOf_cons]
    obtain ⟨hhead, htail⟩ := le_higherAction (some p.set.action) (effectiveOf l)
    rcases List.mem_cons.1 ho with rfl | hmem
    · rwa [if_pos halarm]
    · split
      · exact (ih hmem).trans htail
      · exact ih hmem

/-- The effective action is that of a slot in ALARM. -/
theorem exists_of_effectiveOf {l : List Slot} {a : Action} (h : effectiveOf l = some a) :
    ∃ o ∈ l, o.alarm = true ∧ o.set.action = a := by
  induction l with
  | nil => cases h
  | cons p l ih =>
    have hrest (h : effectiveOf l = some a) : ∃ o ∈ p :: l, o.alarm = true ∧ o.set.action = a := by
      obtain ⟨o, ho, hfound⟩ := ih h
      exact ⟨o, List.mem_cons_of_mem _ ho, hfound⟩
    rw [effectiveOf_cons] at h
    split at h
    · next halarm =>
      rcases higherAction_eq (some p.set.action) (effectiveOf l) with hp | hl
      · exact ⟨p, List.mem_cons_self, halarm, Option.some.inj (hp.symm.trans h)⟩
      · exact hrest (hl ▸ h)
    · exact hrest h

/-- The effective action is NONE exactly with every slot CLEAR. -/
theorem effectiveOf_eq_none {l : List Slot} : effectiveOf l = none ↔ ∀ o ∈ l, o.alarm = false := by
  refine ⟨fun h o ho => ?_, effectiveOf_clear⟩
  by_contra halarm
  have hle := le_effectiveOf ho (Bool.not_eq_false _ ▸ halarm)
  rw [h] at hle
  exact absurd (actionRank_some_pos o.set.action) (not_lt.2 hle)

/-- The actions that leave the permits asserted rank below STOP CRANES (R111). -/
theorem actionRank_lt_three (e : Option Action) : actionRank e < 3 ↔ e ≠ some .stopCranes ∧ e ≠ some .alarm := by
  rcases e with _ | a
  · decide
  · cases a <;> decide

/-- Settles O35: the highest action of the slots in ALARM, the ranks, and the three lines. -/
theorem effectiveActionAndLines : Obligations.EffectiveActionAndLines := by
  refine ⟨fun slots => ⟨effectiveOf_eq_none, fun a ha => ⟨exists_of_effectiveOf ha, fun o ho halarm => ?_⟩⟩,
    ⟨by decide, by decide, by decide, by decide⟩, fun mode primed e => ⟨?_, rfl, beq_iff_eq⟩⟩
  · rw [← ha]
    exact le_effectiveOf ho halarm
  · simp only [lineLevels, Bool.and_eq_true, beq_iff_eq, decide_eq_true_iff, actionRank_lt_three, and_assoc]

end Sys2Proof.Machine
end

section
/-!
SUPPORT. The requests to the limit monitor (R116 to R121) IN SERVICE, each as its whole effect on the state.
-/

namespace Sys2Proof.Machine
open Sys2Proof

/-! ### The effective range (R106) -/

theorem effectiveRange_eq (start stop : Nat) : effectiveRange start stop = (start, if start ≤ stop then stop else start) := by
  unfold effectiveRange
  split_ifs <;> rfl

theorem inRange_eq (start stop i : Nat) :
    inRange start stop i = if start ≤ stop then decide (start ≤ i ∧ i ≤ stop) else decide (i = start) := by
  unfold inRange
  rw [effectiveRange_eq]
  split_ifs
  · exact (Bool.decide_and ..).symm
  · rw [← Bool.decide_and]
    exact decide_eq_decide.2 (by dsimp only; omega)

theorem inRange_iff (start stop i : Nat) :
    inRange start stop i = true ↔ if start ≤ stop then start ≤ i ∧ i ≤ stop else i = start := by
  rw [inRange_eq]
  split_ifs <;> exact decide_eq_true_iff

theorem slotIndexOk_iff (i : Nat) : slotIndexOk i = true ↔ i < 16 := decide_eq_true_iff

theorem slotIndexOk_eq_false (i : Nat) : slotIndexOk i = false ↔ 16 ≤ i := by
  rw [← Bool.not_eq_true, slotIndexOk_iff, not_lt]

/-! ### Requests answered at once -/

/-- IN SERVICE a request that its block answers at once, from the state in which it was opened, changes the ports alone. -/
theorem exec_answeredOpen {i : Instr} {p : Port} {tag : Byte} {r : Request} {s : State} {a : Answer}
    (hi : requestRow i = some (p, tag, r)) (hs : Serving s p) (hr : roleAllows r.kind (portRole p) = true)
    (hm : modeAnswer .inService r.kind = none) (ha : ∀ q t, t.mon = s.mon → serve r q t = answer q a t) :
    exec i s = answersOnly s p r.kind tag a := by
  obtain ⟨hready, hmode⟩ := hs
  rw [exec_requestRow s hi, request_answered hready (by simp [hmode]) hr (by rw [hmode]; exact hm) (ha _ _ rfl)]
  rfl

/-- IN SERVICE a setting that the monitor refuses changes the ports alone, and its reply carries the effective action
(log 21). -/
theorem exec_refusedSetting {i : Instr} {tag : Byte} {r : Request} {s : State} (hi : requestRow i = some (.portP, tag, r))
    (hs : Serving s .portP) (hr : roleAllows r.kind .planning = true) (hm : modeAnswer .inService r.kind = none)
    (h : ∀ q t, serve r q t = refuseSetting q t) :
    exec i s = answersOnly s .portP r.kind tag ⟨.badArgument, .setting s.mon.effective⟩ :=
  exec_answeredOpen hi hs hr hm fun q t ht => by rw [h, refuseSetting, ht]

/-! ### Slots -/

/-- The slots with one of them changed, where the slot is known. -/
theorem modify_slot {l : List Slot} {i : Nat} {o : Slot} (h : l[i]? = some o) (f : Slot → Slot) : l.modify i f = l.set i (f o) := by
  rw [List.modify_eq_set_getElem?, h]
  rfl

/-- The state with one slot changed, where the slot is known. -/
theorem modifySlot_eq {s : State} {i : Nat} {o : Slot} (h : s.mon.slots[i]? = some o) (f : Slot → Slot) :
    s.modifySlot i f = { s with mon := { s.mon with slots := s.mon.slots.set i (f o) } } := by
  unfold State.modifySlot
  rw [modify_slot h]
  rfl

theorem slot_eq {s : State} {i : Nat} {o : Slot} (h : s.mon.slots[i]? = some o) : s.slot i = o := by
  rw [State.slot, List.getD_eq_getElem?_getD, h]
  rfl

/-! ### SET CRITERION (R116) -/

/-- The settings of a code lie outside the ranges of R103. -/
theorem settingsOk_eq_false (c : Code) (limit hyst n : Int) (action : Option Action) :
    settingsOk c limit hyst n action = false ↔ c ≠ .none ∧ (limit < -1000000 ∨ 1000000 < limit ∨ hyst < 0 ∨ 100000 < hyst ∨
      n < 1 ∨ 8 < n ∨ action = none) := by
  unfold settingsOk
  simp only [Bool.or_eq_false_iff, beq_eq_false_iff_ne, Bool.and_eq_false_iff, ← Bool.not_eq_true (within _ _ _), within_iff,
    Option.isSome_eq_false_iff, Option.isNone_iff_eq_none]
  simp only [not_and_or, not_le, or_assoc]

/-- The attention unit after SET CRITERION leaves the effective action at `now`: ACTION RAISED for a rise, ACTION CLEARED for
a fall (R113, R116). -/
def attnRisen (s : State) (now : Option Action) : PerPort AttnPort :=
  if actionRank s.mon.effective < actionRank now then s.attn.map (AttnPort.raise .actionRaised) else attnAfter s now

theorem mem_pending_attnRisen (s : State) (now : Option Action) (p : Port) (x : Cause) :
    x ∈ ((attnRisen s now).get p).pending ↔ (x = .actionRaised ∧ actionRank s.mon.effective < actionRank now) ∨
      (x = .actionCleared ∧ actionRank now < actionRank s.mon.effective) ∨ x ∈ (s.attn.get p).pending := by
  unfold attnRisen
  split_ifs with hrise
  · simp [hrise, not_lt_of_gt hrise]
  · simp [hrise, mem_pending_attnAfter]

/-- The recomputation that follows SET CRITERION (R110 to R113, R116). -/
theorem settleRise_eq (s : State) : settleRise s = { s with
    mon := s.mon.recomputed
    lines := lineLevels s.ship.mode s.mon.primed (effectiveOf s.mon.slots)
    attn := attnRisen s (effectiveOf s.mon.slots) } := by
  unfold settleRise attnRisen
  dsimp only
  rw [settle_mon]
  split_ifs with hrise
  · rw [settle_eq, attnAfter, if_neg (not_lt_of_gt hrise)]
    rfl
  · exact settle_eq s

/-- SET CRITERION of a slot and settings that the monitor takes, up to the reply (R116). -/
theorem takeSetCriterion_accepted {i : Nat} {c : Code} {limit hyst n : Int} {action : Option Action} {o : Slot} {s : State}
    (hi : i < 16) (ho : s.mon.slots[i]? = some o) (hok : settingsOk c limit hyst n action = true) (q : Caller) :
    takeSetCriterion i (some c) limit hyst n action q s =
      let slots := s.mon.slots.set i (newSettings ⟨c, limit, hyst, n.toNat, action.getD .note⟩ o)
      let now := effectiveOf slots
      answer q ⟨.done, .setting now⟩ { s with
        mon := { s.mon with slots := slots, effective := now }
        lines := lineLevels s.ship.mode s.mon.primed now
        attn := attnRisen s now
        eval := routineRaised s } := by
  unfold takeSetCriterion
  dsimp only
  rw [if_neg (by simp [slotIndexOk_eq_false, hi, hok]), modifySlot_eq ho, settleRise_eq, triggerRoutine_eq]
  rfl

/-- Settles O38: the refusals, and the whole effect of a setting that is taken. -/
theorem setCriterionReplacesSettings : Obligations.SetCriterionReplacesSettings := by
  intro tag i code limit hyst n action s hs run outside
  refine ⟨fun hbad => ?refused, fun c o hi hcode ho hok => ?taken⟩
  case refused =>
    refine exec_refusedSetting (r := .setCriterion i code limit hyst n action) rfl hs rfl rfl fun q t => ?_
    cases code with
    | none => rfl
    | some c =>
      refine if_pos ?_
      rw [slotIndexOk_eq_false, settingsOk_eq_false]
      rcases hbad with hi | hcode | ⟨hcode, hout⟩
      · exact .inl hi
      · cases hcode
      · exact .inr ⟨fun h => hcode (congrArg some h), hout⟩
  case taken =>
    subst hcode
    have hsettings : settingsOk c limit hyst n action = true := by
      rw [← Bool.not_eq_false, settingsOk_eq_false]
      exact fun ⟨hcode, hout⟩ => hok.elim hcode fun h => h hout
    intro slot slots now
    refine ⟨{ s with
      mon := { s.mon with slots := slots, effective := now }
      lines := lineLevels s.ship.mode s.mon.primed now
      eval := routineRaised s
      attn := attnRisen s now
      ports := answeredPorts s .portP .setCriterion tag ⟨.done, .setting now⟩ }, ?_, rfl, rfl, mem_pending_attnRisen s now⟩
    refine (exec_serving (r := .setCriterion i (some c) limit hyst n action) rfl hs rfl rfl).trans ?_
    exact congrArg (fun t => Host.Outcome.next (arbitrate s.eval t))
      (takeSetCriterion_accepted (s := openRequest (nextCaller s .portP (kindByte .setCriterion) tag) s) hi ho hsettings _)

/-! ### SET RANGE (R117) -/

/-- Clearing the leavers goes slot by slot. -/
theorem clearLeavers_eq (was now : Nat → Bool) (n : Nat) (l : List Slot) :
    clearLeavers was now n l = l.mapIdx (fun i o => if was (n + i) && !now (n + i) then cleared o else o) :=
  eq_mapIdx (make := clearLeavers was now) (g := fun i o => if was i && !now i then cleared o else o) (fun _ => rfl)
    (fun _ _ _ => rfl) n l

/-- The slot at an index after a new range: cleared where it leaves the effective range (R117). -/
theorem getElem?_reRange (m : Monitor) (start stop i : Nat) : (m.reRange start stop).slots[i]? = m.slots[i]?.map fun o =>
    if inRange m.rangeStart m.rangeStop i = true ∧ ¬ inRange start stop i = true then cleared o else o := by
  show (clearLeavers ..)[i]? = _
  rw [clearLeavers_eq, List.getElem?_mapIdx, Nat.zero_add]
  simp

/-- SET RANGE of a range that the monitor takes, up to the reply (R117). -/
theorem takeSetRange_accepted {start stop : Nat} (hstart : start < 16) (hstop : stop < 16) (q : Caller) (s : State) :
    takeSetRange start stop q s =
      let slots := (s.mon.reRange start stop).slots
      let now := effectiveOf slots
      answer q ⟨.done, .range start (if start ≤ stop then stop else start) now⟩ { s with
        mon := { s.mon with slots := slots, rangeStart := start, rangeStop := stop, effective := now }
        lines := lineLevels s.ship.mode s.mon.primed now
        attn := attnAfter s now
        eval := routineRaised s } := by
  unfold takeSetRange
  rw [if_neg (by simp [slotIndexOk_eq_false, hstart, hstop]), effectiveRange_eq, settle_eq, triggerRoutine_eq]
  rfl

/-- Settles O39: the refusal, and the whole effect of a range that is taken, slot by slot. -/
theorem setRangeClearsLeavers : Obligations.SetRangeClearsLeavers := by
  intro tag start stop s hs run inside
  refine ⟨fun hbad => ?refused, fun hstart hstop => ?taken⟩
  case refused =>
    refine exec_refusedSetting (r := .setRange start stop) rfl hs rfl rfl fun q t => if_pos ?_
    rwa [slotIndexOk_eq_false, slotIndexOk_eq_false]
  case taken =>
    have hslots := getElem?_reRange s.mon start stop
    simp only [inRange_iff] at hslots
    refine ⟨{ s with
      mon := { s.mon.reRange start stop with effective := effectiveOf (s.mon.reRange start stop).slots }
      lines := lineLevels s.ship.mode s.mon.primed (effectiveOf (s.mon.reRange start stop).slots)
      eval := routineRaised s
      attn := attnAfter s (effectiveOf (s.mon.reRange start stop).slots)
      ports := answeredPorts s .portP .setRange tag ⟨.done, .range start (if start ≤ stop then stop else start)
        (effectiveOf (s.mon.reRange start stop).slots)⟩ }, ?_, rfl, length_clearLeavers .., fun i o ho => ⟨fun h => ?_, fun h => ?_⟩⟩
    · refine (exec_serving (r := .setRange start stop) rfl hs rfl rfl).trans ?_
      exact congrArg (fun t => Host.Outcome.next (arbitrate s.eval t)) (takeSetRange_accepted hstart hstop _ _)
    · refine (hslots i).trans ?_
      rw [ho]
      exact congrArg some (if_pos h)
    · refine (hslots i).trans ?_
      rw [ho]
      exact congrArg some (if_neg h)

/-! ### RESET SLOT, INJECT, WITHDRAW (R118, R119) -/

/-- RESET SLOT of a slot, up to the reply (R118). -/
theorem takeResetSlot_accepted {i : Nat} {o : Slot} {s : State} (hi : i < 16) (ho : s.mon.slots[i]? = some o) (q : Caller) :
    takeResetSlot i q s =
      let slots := s.mon.slots.set i { o with alarm := false, count := 0 }
      let now := effectiveOf slots
      answer q ⟨.done, .slotWas o.alarm now⟩ { s with
        mon := { s.mon with slots := slots, effective := now }
        lines := lineLevels s.ship.mode s.mon.primed now
        attn := attnAfter s now } := by
  unfold takeResetSlot
  rw [if_neg (by simp [slotIndexOk_eq_false, hi]), slot_eq ho, modifySlot_eq ho, settle_eq]
  rfl

/-- An injected value set or removed: the slot takes it, and a routine request follows in the CONTINUOUS mode (R119). -/
theorem settled_injected {i : Nat} {o : Slot} {s : State} (ho : s.mon.slots[i]? = some o) (w : Option Int) (q : Caller) :
    settled q (triggerRoutine (s.modifySlot i (fun o => { o with injected := w }))) =
      answer q ⟨.done, .setting s.mon.effective⟩ { s with
        mon := { s.mon with slots := s.mon.slots.set i { o with injected := w } }
        eval := routineRaised s } := by
  rw [modifySlot_eq ho, triggerRoutine_eq]
  rfl

theorem takeInject_accepted {i : Nat} {v : Int} (hi : i < 16) (hlow : -1000000 ≤ v) (hhigh : v ≤ 1000000) (q : Caller) (s : State) :
    takeInject i v q s = settled q (triggerRoutine (s.modifySlot i (fun o => { o with injected := some v }))) := by
  have hin : within (-1000000) 1000000 v = true := (within_iff ..).2 ⟨hlow, hhigh⟩
  exact if_neg (by simp [slotIndexOk_eq_false, hi, hin])

theorem takeWithdraw_accepted {i : Nat} (hi : i < 16) (q : Caller) (s : State) :
    takeWithdraw i q s = settled q (triggerRoutine (s.modifySlot i (fun o => { o with injected := none }))) :=
  if_neg (by simp [slotIndexOk_eq_false, hi])

/-! ### READ ALARMS and READ CRITERION (R120, R121) -/

/-- READ ALARMS reports, and the slots that it reports CLEAR leave the port's sticky set (R120). -/
theorem exec_readAlarms {p : Port} {tag : Byte} {s : State} (hs : Serving s p) :
    exec (.readAlarms p tag) s = .next { s with
      mon := s.mon.readBy p
      ports := answeredPorts s p .readAlarms tag ⟨.done, .alarms (alarmReport s.mon p)⟩ } := by
  rw [exec_serving (r := .readAlarms) rfl hs rfl rfl, ← answer_open_ports]
  exact congrArg Host.Outcome.next (arbitrate_same rfl rfl rfl rfl rfl)

theorem getD_alarm (l : List Slot) (i : Nat) : (l.getD i .unused).alarm = (l[i]?.map Slot.alarm == some true) := by
  rw [List.getD_eq_getElem?_getD]
  cases l[i]? with
  | none => rfl
  | some o => cases h : o.alarm <;> simp [h]

/-- The sticky set of the port keeps the slots in ALARM (R120). -/
theorem readBy_eq (m : Monitor) (p : Port) : m.readBy p =
    { m with sticky := (m.sticky.set p ((m.sticky.get p).filter (fun i => (m.slots[i]?.map Slot.alarm) == some true))) } := by
  unfold Monitor.readBy
  simp only [getD_alarm]
  rfl

/-- Settles O40: the refusals, the three settings that are taken, and the two reads. -/
theorem monitorSettingsAndReads : Obligations.MonitorSettingsAndReads := by
  refine ⟨fun tag i v s hs => ?settings, fun p tag i s hs => ?reads⟩
  case settings =>
    intro no
    refine ⟨fun hi => ⟨?resetRefused, ?withdrawRefused⟩, fun hbad => ?injectRefused, fun o hi ho => ?taken⟩
    case resetRefused =>
      exact exec_refusedSetting (r := .resetSlot i) rfl hs rfl rfl fun q t => if_pos ((slotIndexOk_eq_false i).2 hi)
    case withdrawRefused =>
      exact exec_refusedSetting (r := .withdraw i) rfl hs rfl rfl fun q t => if_pos ((slotIndexOk_eq_false i).2 hi)
    case injectRefused =>
      refine exec_refusedSetting (r := .inject i v) rfl hs rfl rfl fun q t => if_pos ?_
      rw [slotIndexOk_eq_false, ← Bool.not_eq_true (within ..), within_iff]
      omega
    case taken =>
      intro slots kept
      refine ⟨?reset, fun hlow hhigh => ?inject, ?withdraw⟩
      case reset =>
        refine (exec_serving (r := .resetSlot i) rfl hs rfl rfl).trans ?_
        show Host.Outcome.next (arbitrate s.eval (takeResetSlot i _ (openRequest _ s))) = _
        rw [takeResetSlot_accepted (s := openRequest _ s) hi ho]
        exact congrArg Host.Outcome.next (arbitrate_same rfl rfl rfl rfl rfl)
      case inject =>
        refine (exec_serving (r := .inject i v) rfl hs rfl rfl).trans ?_
        exact congrArg (fun t => Host.Outcome.next (arbitrate s.eval t))
          ((takeInject_accepted hi hlow hhigh _ _).trans (settled_injected (s := openRequest _ s) ho _ _))
      case withdraw =>
        refine (exec_serving (r := .withdraw i) rfl hs rfl rfl).trans ?_
        exact congrArg (fun t => Host.Outcome.next (arbitrate s.eval t))
          ((takeWithdraw_accepted hi _ _).trans (settled_injected (s := openRequest _ s) ho _ _))
  case reads =>
    intro a b
    refine ⟨?alarms, fun hi => ?refused, fun o hi ho => ?criterion⟩
    case alarms =>
      rw [exec_readAlarms hs, readBy_eq]
      unfold alarmReport
      rw [effectiveRange_eq]
    case refused =>
      exact exec_answered (r := .readCriterion i) rfl hs rfl rfl fun q t _ _ => if_pos ((slotIndexOk_eq_false i).2 hi)
    case criterion =>
      rw [← inRange_eq]
      refine exec_answeredOpen (r := .readCriterion i) rfl hs rfl rfl fun q t ht => ?_
      have hslot : t.slot i = o := slot_eq (by rw [ht]; exact ho)
      refine (if_neg (by simp [slotIndexOk_eq_false, hi])).trans ?_
      rw [hslot, ht]

end Sys2Proof.Machine
end

section
/-!
SUPPORT. Every step keeps the output lines (R110 to R112): the operations that write the mode, the priming or the slots
recompute the lines, and every other leaves what they follow.
-/

namespace Sys2Proof.Machine
open Sys2Proof

/-! ### What the output lines follow -/

/-- The lines follow while the mode, the priming, the effective action and the lines stay, and the slots give the same
effective action. -/
theorem LinesFollow.of_same {s t : State} (h : LinesFollow s) (hmode : t.ship.mode = s.ship.mode)
    (hprimed : t.mon.primed = s.mon.primed) (heff : t.mon.effective = s.mon.effective)
    (hslots : effectiveOf t.mon.slots = effectiveOf s.mon.slots) (hlines : t.lines = s.lines) : LinesFollow t := by
  unfold LinesFollow
  rw [hmode, hprimed, heff, hslots, hlines]
  exact h

theorem LinesFollow.withEval {s : State} (h : LinesFollow s) (x : EvalUnit) : LinesFollow (s.withEval x) := h

theorem LinesFollow.of_carries {s t : State} (h : LinesFollow s) (k : Carries s t) : LinesFollow t :=
  h.of_same (by rw [k.ship]) (by rw [k.mon]) (by rw [k.mon]) (by rw [k.mon]) k.lines

/-- A recomputation of the effective action drives the lines (R110 to R112). -/
theorem linesFollow_settle (s : State) : LinesFollow (settle s) := by
  rw [settle_eq]
  exact ⟨rfl, rfl⟩

theorem linesFollow_settleRise (s : State) : LinesFollow (settleRise s) := by
  rw [settleRise_eq]
  exact ⟨rfl, rfl⟩

theorem linesFollow_triggerRoutine {s : State} (h : LinesFollow s) : LinesFollow (triggerRoutine s) := by
  rw [triggerRoutine_eq]
  exact h

/-- A change of the service mode drives the lines (R17, R111). -/
theorem linesFollow_changeMode {s : State} (h : s.mon.effective = effectiveOf s.mon.slots) (m : ServiceMode)
    (r : Option FaultReason) : LinesFollow (changeMode m r s) := by
  rw [changeMode_eq]
  exact ⟨h, rfl⟩

theorem linesFollow_enterService {s : State} (h : s.mon.effective = effectiveOf s.mon.slots) : LinesFollow (enterService s) := by
  rw [enterService_eq]
  exact ⟨h, rfl⟩

/-- An injected value leaves the effective action (R119). -/
theorem effectiveOf_injected (w : Option Int) (i : Nat) (l : List Slot) :
    effectiveOf (l.modify i (fun o => { o with injected := w })) = effectiveOf l := by
  induction l generalizing i with
  | nil => cases i <;> rfl
  | cons o l ih =>
    cases i with
    | zero => rfl
    | succ i =>
      rw [List.modify_succ_cons, effectiveOf_cons, effectiveOf_cons, ih]

theorem linesFollow_injected {s : State} (h : LinesFollow s) (w : Option Int) (i : Nat) :
    LinesFollow (s.modifySlot i (fun o => { o with injected := w })) :=
  h.of_same rfl rfl rfl (effectiveOf_injected w i _) rfl

/-! ### The requests that write the store or the monitor -/

theorem linesFollow_takeOpenData {s : State} (h : LinesFollow s) (q : Caller) : LinesFollow (takeOpenData q s) := by
  unfold takeOpenData
  split
  · exact h
  · rw [openLoad_eq]
    exact ⟨rfl, rfl⟩

theorem linesFollow_takeWriteData {s : State} (h : LinesFollow s) (kind index : Nat) (fields : List FieldWord) (q : Caller) :
    LinesFollow (takeWriteData kind index fields q s) := by
  unfold takeWriteData
  split
  · exact h
  · split <;> exact h

theorem linesFollow_takeCloseData {s : State} (h : LinesFollow s) (w : CheckWord) (q : Caller) :
    LinesFollow (takeCloseData w q s) := by
  unfold takeCloseData
  split
  · exact h
  · split
    · refine LinesFollow.of_carries ?_ (carries_answer ..)
      refine linesFollow_changeMode ?_ _ _
      exact h.1
    · exact h

theorem linesFollow_takeSetCriterion {s : State} (h : LinesFollow s) (i : Nat) (code : Option Code) (limit hyst n : Int)
    (action : Option Action) (q : Caller) : LinesFollow (takeSetCriterion i code limit hyst n action q s) := by
  unfold takeSetCriterion
  split
  · exact h
  · split
    · exact h
    · exact linesFollow_triggerRoutine (linesFollow_settleRise _)

theorem linesFollow_takeSetRange {s : State} (h : LinesFollow s) (start stop : Nat) (q : Caller) :
    LinesFollow (takeSetRange start stop q s) := by
  unfold takeSetRange
  split
  · exact h
  · exact linesFollow_triggerRoutine (linesFollow_settle _)

theorem linesFollow_takeResetSlot {s : State} (h : LinesFollow s) (i : Nat) (q : Caller) : LinesFollow (takeResetSlot i q s) := by
  unfold takeResetSlot
  split
  · exact h
  · exact linesFollow_settle _

theorem linesFollow_takeInject {s : State} (h : LinesFollow s) (i : Nat) (v : Int) (q : Caller) :
    LinesFollow (takeInject i v q s) := by
  unfold takeInject
  split
  · exact h
  · exact linesFollow_triggerRoutine (linesFollow_injected h ..)

theorem linesFollow_takeWithdraw {s : State} (h : LinesFollow s) (i : Nat) (q : Caller) : LinesFollow (takeWithdraw i q s) := by
  unfold takeWithdraw
  split
  · exact h
  · exact linesFollow_triggerRoutine (linesFollow_injected h ..)

theorem linesFollow_serve {r : Request} (hr : writesStoreOrMonitor r = true) (q : Caller) {s : State} (h : LinesFollow s) :
    LinesFollow (serve r q s) := by
  cases r with
  | openData => exact linesFollow_takeOpenData h q
  | writeData k i fs => exact linesFollow_takeWriteData h k i fs q
  | closeData w => exact linesFollow_takeCloseData h w q
  | setCriterion i c l hy n a => exact linesFollow_takeSetCriterion h i c l hy n a q
  | setRange a b => exact linesFollow_takeSetRange h a b q
  | resetSlot i => exact linesFollow_takeResetSlot h i q
  | inject i v => exact linesFollow_takeInject h i v q
  | withdraw i => exact linesFollow_takeWithdraw h i q
  | readAlarms => exact h
  | _ => cases hr

/-! ### The ends of a verification and of a commit -/

theorem linesFollow_verifyEnds {s : State} (h : LinesFollow s) : LinesFollow (verifyEnds s) := by
  unfold verifyEnds
  split_ifs
  · exact h
  · exact linesFollow_changeMode h.1 ..
  · exact linesFollow_changeMode h.1 ..
  · exact linesFollow_enterService (linesFollow_settle _).1
  · exact linesFollow_enterService h.1

theorem linesFollow_commitEnds {s : State} (h : LinesFollow s) : LinesFollow (commitEnds s) := by
  unfold commitEnds
  split
  · exact h
  · exact LinesFollow.of_carries (linesFollow_enterService (linesFollow_settle _).1) (carries_deliver ..)

/-- Every step keeps the output lines where the rules put them (R110 to R112). -/
theorem stepKeeps_linesFollow : StepKeeps LinesFollow where
  carries h k := h.of_carries k
  writes _ q _ hr h := linesFollow_serve hr q h
  startJob s h := by
    rw [startJob_eq]
    exact h
  capturesComplete s h := by
    rcases capturesComplete_cases s with hsame | ⟨j, u, -, hu, heq⟩
    · rwa [hsame]
    · rw [heq]
      exact (h.of_carries hu).withEval _
  completeRoutine v slung f dis s h := by
    rw [completeRoutine_eq]
    exact ⟨rfl, rfl⟩
  completeLift lead v path final s h := by
    obtain ⟨u, hu, heq⟩ := completeLift_carries lead v path final s
    rw [heq]
    exact (h.of_carries hu).withEval _
  completeProspect q r s h := (h.withEval _).of_carries (completeProspect_carries q r s)
  coldRestart straps s h := by
    rw [coldRestart_eq]
    exact ⟨rfl, rfl⟩
  warmRestart cause straps s h := by
    rw [warmRestart_eq]
    exact ⟨rfl, rfl⟩
  verifyEnds _ h := linesFollow_verifyEnds h
  commitEnds _ h := linesFollow_commitEnds h

end Sys2Proof.Machine
end

section
/-!
SUPPORT. Every step keeps the attention lines (R188, R190): what each operation on the attention unit does to one port, and
then the operations of the blocks that raise or remove causes.
-/

namespace Sys2Proof.Machine
open Sys2Proof

/-! ### One port's attention line (R190) -/

/-- A pending set that is any selection of the seven causes in their order is in canonical form. -/
theorem follows_of_filter {a : AttnPort} {p : Cause → Bool} (hp : a.pending = allCauses.filter p)
    (hlevel : a.mode = .level → a.active = levelOf a.pending a.unmasked) : a.Follows := by
  refine ⟨?_, hlevel⟩
  rw [hp]
  exact List.filter_congr fun c hc => by simp [hc]

theorem follows_raise (c : Cause) {a : AttnPort} (h : a.Follows) : (AttnPort.raise c a).Follows := by
  have hraised : causeInsert c a.pending = allCauses.filter (fun x => x == c || a.pending.contains x) := rfl
  unfold AttnPort.raise
  split
  · exact h
  · split
    · exact follows_of_filter hraised fun _ => rfl
    · next hpulse => exact follows_of_filter hraised fun hlevel => nomatch hpulse.symm.trans hlevel

theorem follows_remove (c : Cause) {a : AttnPort} (h : a.Follows) : (AttnPort.remove c a).Follows := by
  obtain ⟨p, hp⟩ : ∃ p, a.pending = allCauses.filter p := ⟨_, h.1⟩
  have hremoved : causeRemove c a.pending = allCauses.filter (fun x => x != c && p x) := by
    rw [hp, causeRemove, List.filter_filter]
  unfold AttnPort.remove AttnPort.relevel
  split
  · exact follows_of_filter hremoved fun _ => rfl
  · next hpulse => exact follows_of_filter hremoved fun hlevel => nomatch hpulse.symm.trans hlevel

/-- A new mask and mode set the line to its LEVEL value in LEVEL mode (R190). -/
theorem follows_reset (u : List Cause) (m : LineMode) {a : AttnPort} (h : a.Follows) : (AttnPort.reset u m a).Follows := by
  obtain ⟨hpending, -⟩ := h
  unfold AttnPort.reset
  split
  · exact ⟨hpending, fun _ => rfl⟩
  · exact ⟨hpending, nofun⟩
  · next hpulse => exact ⟨hpending, fun hlevel => nomatch hpulse.symm.trans hlevel⟩

/-- A port after a restart, with the causes that the lift records give it (R192). -/
theorem follows_restarted (ended silent : Bool) : AttnPort.Follows ⟨restartCauses ended silent, [], .level, false⟩ := by
  cases ended <;> cases silent <;> exact ⟨rfl, fun _ => rfl⟩

/-! ### All ports -/

theorem PerPort.Forall.map {α β : Type} {P : α → Prop} {Q : β → Prop} {f : α → β} (hf : ∀ a, P a → Q (f a)) {m : PerPort α}
    (h : m.Forall P) : (m.map f).Forall Q := by
  obtain ⟨hp, hb, h1, h2⟩ := h
  exact ⟨hf _ hp, hf _ hb, hf _ h1, hf _ h2⟩

theorem PerPort.Forall.get {α : Type} {P : α → Prop} {m : PerPort α} (h : m.Forall P) (p : Port) : P (m.get p) := by
  obtain ⟨hp, hb, h1, h2⟩ := h
  cases p <;> assumption

theorem PerPort.Forall.set {α : Type} {P : α → Prop} {m : PerPort α} (h : m.Forall P) (p : Port) {a : α} (ha : P a) :
    (m.set p a).Forall P := by
  obtain ⟨hp, hb, h1, h2⟩ := h
  cases p
  · exact ⟨ha, hb, h1, h2⟩
  · exact ⟨hp, ha, h1, h2⟩
  · exact ⟨hp, hb, ha, h2⟩
  · exact ⟨hp, hb, h1, ha⟩

theorem PerPort.Forall.modify {α : Type} {P : α → Prop} {f : α → α} (hf : ∀ a, P a → P (f a)) {m : PerPort α}
    (h : m.Forall P) (p : Port) : (m.modify p f).Forall P := h.set p (hf _ (h.get p))

theorem AttentionFollows.of_same {s t : State} (h : AttentionFollows s) (ht : t.attn = s.attn) : AttentionFollows t := by
  unfold AttentionFollows
  rw [ht]
  exact h

theorem attention_answer (q : Caller) (a : Answer) {s : State} (h : AttentionFollows s) : AttentionFollows (answer q a s) := h

theorem attention_raiseAt (p : Port) (c : Cause) {s : State} (h : AttentionFollows s) : AttentionFollows (raiseAt p c s) :=
  PerPort.Forall.modify (P := AttnPort.Follows) (fun _ => follows_raise c) h p

theorem attention_raiseAll (c : Cause) {s : State} (h : AttentionFollows s) : AttentionFollows (raiseAll c s) :=
  h.map fun _ => follows_raise c

theorem attention_removeAt (p : Port) (c : Cause) {s : State} (h : AttentionFollows s) : AttentionFollows (removeAt p c s) :=
  PerPort.Forall.modify (P := AttnPort.Follows) (fun _ => follows_remove c) h p

theorem attention_removeAll (c : Cause) {s : State} (h : AttentionFollows s) : AttentionFollows (removeAll c s) :=
  h.map fun _ => follows_remove c

/-! ### The monitor and the service mode -/

theorem attention_settle {s : State} (h : AttentionFollows s) : AttentionFollows (settle s) := by
  unfold settle
  dsimp only
  split
  · exact attention_raiseAll (s := driveLines _) _ h
  · exact h

theorem attention_settleRise {s : State} (h : AttentionFollows s) : AttentionFollows (settleRise s) := by
  unfold settleRise
  dsimp only
  split
  · exact attention_raiseAll _ (attention_settle h)
  · exact attention_settle h

theorem attention_triggerRoutine {s : State} (h : AttentionFollows s) : AttentionFollows (triggerRoutine s) :=
  h.of_same (triggerRoutine_attn s)

theorem attention_changeMode (m : ServiceMode) (r : Option FaultReason) {s : State} (h : AttentionFollows s) :
    AttentionFollows (changeMode m r s) := by
  unfold changeMode
  dsimp only
  split
  · exact h
  · exact attention_raiseAll (s := driveLines _) _ h

theorem attention_enterService {s : State} (h : AttentionFollows s) : AttentionFollows (enterService s) :=
  attention_changeMode _ _ (AttentionFollows.of_same h (startInterval_attn _))

theorem attention_loadSlots {s : State} (h : AttentionFollows s) : AttentionFollows (loadSlots s) :=
  attention_settle (s := State.withShip _ _) h

theorem attention_judgeResult (g : Judging) (seq : Nat) {s : State} (h : AttentionFollows s) :
    AttentionFollows (judgeResult g seq s) := by
  unfold judgeResult
  dsimp only
  have hsettled := attention_settle (s := s.withMon (addSticky g.entered
    { s.mon with slots := g.judged.map Judged.slot, primed := true, lastJudged := seq })) h
  split
  · exact hsettled
  · exact attention_raiseAll _ hsettled

/-! ### The lifts -/

theorem attention_foldl {α : Type} {f : State → α → State} (hf : ∀ t a, AttentionFollows t → AttentionFollows (f t a))
    (l : List α) {s : State} (h : AttentionFollows s) : AttentionFollows (l.foldl f s) := by
  induction l generalizing s with
  | nil => exact h
  | cons a l ih => exact ih (hf s a h)

theorem attention_finishOne (code : OutcomeCode) (final : Option Goal) (mass : Int) (c : Crane) {s : State}
    (h : AttentionFollows s) : AttentionFollows (finishOne code final mass c s) := by
  unfold finishOne
  split
  · exact h
  · exact attention_raiseAt (s := State.withLifts _ _) _ _ h

theorem attention_endSilence (b : State) {s : State} (h : AttentionFollows s) : AttentionFollows (endSilence b s) := by
  unfold endSilence
  split
  · exact attention_removeAll _ h
  · exact h

theorem attention_finishLift (code : OutcomeCode) (final : Option Goal) (mass : Int) (cs : List Crane) {s : State}
    (h : AttentionFollows s) : AttentionFollows (finishLift code final mass cs s) :=
  attention_endSilence s (attention_foldl (fun _ c => attention_finishOne code final mass c) cs h)

theorem attention_reportArrives (c : Crane) {s : State} (h : AttentionFollows s) : AttentionFollows (reportArrives c s) := by
  unfold reportArrives
  split
  · exact attention_endSilence s (s := s.setRecord _ _) h
  · exact h

theorem hookArrives_attn (c : Crane) (s : State) : (hookArrives c s).attn = s.attn := by
  unfold hookArrives
  split <;> rfl

theorem attention_changeArrives (p : Port) (ch : Change) {s : State} (h : AttentionFollows s) :
    AttentionFollows (changeArrives p ch s) := by
  unfold changeArrives
  split
  · exact h.of_same (hookArrives_attn ..)
  · exact attention_reportArrives _ h
  · exact attention_reportArrives _ h
  · exact h

theorem settleCheck_attn (lead : Crane) (r : CheckReport) (s : State) (c : Crane) : (settleCheck lead r s c).attn = s.attn := by
  unfold settleCheck
  split
  · exact deliverTo_attn ..
  · rfl

/-! ### The changes of the condition -/

theorem applyEntry_attn (s : State) (e : Entry) : (applyEntry s e).attn = s.attn := by
  unfold applyEntry
  split <;> rfl

theorem addEntries_attn {es : List Entry} {k : Nat} {s t : State} (h : addEntries k s es = .ok t) : t.attn = s.attn := by
  induction es generalizing k s with
  | nil =>
    obtain rfl : s = t := Except.ok.inj h
    rfl
  | cons e es ih =>
    unfold addEntries at h
    split at h
    · cases h
    · exact (ih h).trans (applyEntry_attn s e)

theorem shiftLoad_attn (it : ItemRecord) (d : Int) (s : State) : (shiftLoad it d s).attn = s.attn := by
  unfold shiftLoad
  split <;> rfl

theorem slingItem_attn (tag : Nat) (c : Crane) (s : State) : (slingItem tag c s).attn = s.attn := by
  unfold slingItem
  split
  · rfl
  · exact leaveComp_attn ..

theorem slingPartner_attn (c : Crane) (s : State) : (slingPartner c s).attn = s.attn := by
  unfold slingPartner
  split <;> rfl

theorem setDown_attn (tag : Nat) (g : Goal) (s : State) : (setDown tag g s).attn = s.attn := by
  unfold setDown
  split
  · exact deleteItem_attn ..
  · split <;> rfl

/-- Of the works of a change, a landing alone raises a cause (R188). -/
theorem ChangeWork.attention {s u : State} (h : ChangeWork s u) (hs : AttentionFollows s) : AttentionFollows u := by
  cases h with
  | added h => exact hs.of_same (addEntries_attn h)
  | amended => exact hs.of_same (shiftLoad_attn ..)
  | removed => exact hs.of_same (deleteItem_attn ..)
  | hooked =>
    refine hs.of_same ?_
    show State.attn (ite ..) = _
    split
    · exact (slingPartner_attn ..).trans (slingItem_attn ..)
    · exact slingItem_attn ..
  | landed => exact attention_finishLift _ _ _ _ (hs.of_same (setDown_attn ..))
  | _ => exact hs

theorem attention_applyChange (p : Port) (ch : Change) {s : State} (h : AttentionFollows s) :
    AttentionFollows (applyChange p ch s).1 := by
  rcases applyChange_done p ch s with heq | ⟨u, hu, heq⟩
  · rwa [heq]
  · rw [heq]
    exact (hu.attention h).of_same (advance_attn u)

theorem attention_takeChange (ch : Change) (q : Caller) {s : State} (h : AttentionFollows s) :
    AttentionFollows (takeChange ch q s) := by
  have harrived := attention_changeArrives q.port ch h
  unfold takeChange
  dsimp only
  split_ifs
  · exact h
  · exact harrived
  · exact harrived
  · exact attention_applyChange q.port ch harrived

theorem attention_applyHeld (s : State) (x : Held) (h : AttentionFollows s) : AttentionFollows (applyHeld s x) :=
  (attention_applyChange x.caller.port x.change h).of_same (deliver_attn ..)

/-! ### The requests -/

theorem startLift_attn (c : Crane) (q : Caller) (tag : Nat) (dest : Goal) (outreach hook : Point) (share : Option Nat) (s : State) :
    (startLift c q tag dest outreach hook share s).attn = s.attn := by
  cases share with
  | none => cases c <;> rfl
  | some n => rfl

theorem takeLiftRequest_attn (tag : Nat) (dest : Option Goal) (outreach hook : Point) (partner : Option PortRef)
    (share : Option Nat) (q : Caller) (s : State) : (takeLiftRequest tag dest outreach hook partner share q s).attn = s.attn := by
  unfold takeLiftRequest
  split
  · split
    · rfl
    · split
      · rfl
      · exact startLift_attn ..
  · rfl

theorem takeJoinLift_attn (lead : PortRef) (tag : Nat) (outreach : Point) (q : Caller) (s : State) :
    (takeJoinLift lead tag outreach q s).attn = s.attn := by
  unfold takeJoinLift
  split
  · rfl
  · next c _ =>
    split_ifs
    · rfl
    · rfl
    · split
      · rfl
      · cases c <;> rfl
      · rfl

/-- The requests that may raise or remove a cause, or set a mask or a line mode. -/
def writesAttention : Request → Bool
  | .attentionQuery | .setAttention .. | .openData | .closeData _ | .change _ | .setCriterion .. | .setRange .. | .resetSlot _
  | .abortLift | .collectOutcome => true
  | _ => false

/-- Every other request leaves the attention unit. -/
theorem serve_attn {r : Request} (h : writesAttention r = false) (q : Caller) (s : State) : (serve r q s).attn = s.attn := by
  by_cases hread : onlyReads r = true
  · obtain ⟨a, ha⟩ := serve_reads hread q s
    rw [ha]
    rfl
  · cases r with
    | writeData k i fs =>
      show (takeWriteData k i fs q s).attn = _
      unfold takeWriteData
      split
      · rfl
      · split <;> rfl
    | setEvaluation m i =>
      show (takeSetEvaluation m i q s).attn = _
      unfold takeSetEvaluation
      split
      · rfl
      · split <;> rfl
    | evaluateProspect sc => cases sc <;> rfl
    | inject i v =>
      show (takeInject i v q s).attn = _
      unfold takeInject
      split
      · rfl
      · exact triggerRoutine_attn _
    | withdraw i =>
      show (takeWithdraw i q s).attn = _
      unfold takeWithdraw
      split
      · rfl
      · exact triggerRoutine_attn _
    | pushTrial l =>
      show (takePushTrial l q s).attn = _
      unfold takePushTrial
      split <;> rfl
    | popTrial =>
      show (takePopTrial q s).attn = _
      unfold takePopTrial
      split <;> rfl
    | drafts a f =>
      show (takeDrafts a f q s).attn = _
      unfold takeDrafts
      split <;> rfl
    | draftZero =>
      show (takeDraftZero q s).attn = _
      unfold takeDraftZero
      split
      · rfl
      · rfl
      · split <;> rfl
    | liftRequest t d o hk p sh => exact takeLiftRequest_attn t d o hk p sh q s
    | joinLift l t o => exact takeJoinLift_attn l t o q s
    | readLineStatus | evaluateNow | readAlarms | clearTrials => rfl
    | attentionQuery | setAttention | openData | closeData | change | setCriterion | setRange | resetSlot | abortLift
    | collectOutcome => cases h
    | _ => exact absurd rfl hread

theorem attention_takeAttentionQuery (q : Caller) {s : State} (h : AttentionFollows s) :
    AttentionFollows (takeAttentionQuery q s) := by
  show AttentionFollows (queried q.port (s.attn.get q.port).head s)
  unfold queried
  split
  · exact h
  · split
    · exact h
    · exact attention_removeAt _ _ h

theorem attention_takeSetAttention (u : List Nat) (m : Option LineMode) (q : Caller) {s : State} (h : AttentionFollows s) :
    AttentionFollows (takeSetAttention u m q s) := by
  unfold takeSetAttention
  split
  · exact h
  · split
    · exact h
    · exact PerPort.Forall.modify (P := AttnPort.Follows) (fun _ => follows_reset _ _) h q.port

theorem attention_abortSlung (c : Crane) {s : State} (h : AttentionFollows s) : AttentionFollows (abortSlung c s) := by
  unfold abortSlung
  split
  · exact attention_finishLift _ _ _ _ h
  · exact h

theorem rejectHeld_attn (s : State) : (rejectHeld s).attn = s.attn := by
  have hfold (l : List Held) (t : State) : (l.foldl (fun t h => deliver h.caller (bare .notInService) t) t).attn = t.attn := by
    induction l generalizing t with
    | nil => rfl
    | cons x l ih => exact (ih _).trans (deliver_attn ..)
  exact hfold s.cond.hold _

theorem attention_openLoad {s : State} (h : AttentionFollows s) : AttentionFollows (openLoad s) := by
  have haborted := attention_abortSlung .crane2 (attention_abortSlung .crane1 h)
  exact attention_changeMode _ _ (attention_settle (haborted.of_same (rejectHeld_attn _)))

theorem attention_takeOpenData (q : Caller) {s : State} (h : AttentionFollows s) : AttentionFollows (takeOpenData q s) := by
  unfold takeOpenData
  split
  · exact h
  · exact attention_answer _ _ (attention_openLoad h)

theorem attention_takeCloseData (w : CheckWord) (q : Caller) {s : State} (h : AttentionFollows s) :
    AttentionFollows (takeCloseData w q s) := by
  unfold takeCloseData
  split
  · exact h
  · split
    · exact attention_changeMode (s := s.withShip _) _ _ h
    · exact h

theorem attention_takeSetCriterion (i : Nat) (code : Option Code) (limit hyst n : Int) (action : Option Action) (q : Caller)
    {s : State} (h : AttentionFollows s) : AttentionFollows (takeSetCriterion i code limit hyst n action q s) := by
  unfold takeSetCriterion
  split
  · exact h
  · split
    · exact h
    · exact attention_triggerRoutine (attention_settleRise (s := s.modifySlot _ _) h)

theorem attention_takeSetRange (start stop : Nat) (q : Caller) {s : State} (h : AttentionFollows s) :
    AttentionFollows (takeSetRange start stop q s) := by
  unfold takeSetRange
  split
  · exact h
  · exact attention_triggerRoutine (attention_settle (s := s.withMon _) h)

theorem attention_takeResetSlot (i : Nat) (q : Caller) {s : State} (h : AttentionFollows s) :
    AttentionFollows (takeResetSlot i q s) := by
  unfold takeResetSlot
  split
  · exact h
  · exact attention_settle (s := s.modifySlot _ _) h

theorem attention_takeAbortLift (q : Caller) {s : State} (h : AttentionFollows s) : AttentionFollows (takeAbortLift q s) := by
  unfold takeAbortLift
  split
  · exact h
  · split_ifs
    · exact h
    · exact h
    · split
      · exact h
      · exact attention_finishLift _ _ _ _ h
      · exact h
      · exact attention_finishLift _ _ _ _ h
      · exact h
      · exact h

theorem attention_takeCollectOutcome (q : Caller) {s : State} (h : AttentionFollows s) :
    AttentionFollows (takeCollectOutcome q s) := by
  unfold takeCollectOutcome
  split
  · exact h
  · split
    · exact h
    · exact attention_removeAt (s := returnIdle _ _) _ _ h

theorem attention_serve (r : Request) (q : Caller) {s : State} (h : AttentionFollows s) : AttentionFollows (serve r q s) := by
  by_cases hr : writesAttention r = true
  · cases r with
    | attentionQuery => exact attention_takeAttentionQuery q h
    | setAttention u m => exact attention_takeSetAttention u m q h
    | openData => exact attention_takeOpenData q h
    | closeData w => exact attention_takeCloseData w q h
    | change ch => exact attention_takeChange ch q h
    | setCriterion i c l hy n a => exact attention_takeSetCriterion i c l hy n a q h
    | setRange a b => exact attention_takeSetRange a b q h
    | resetSlot i => exact attention_takeResetSlot i q h
    | abortLift => exact attention_takeAbortLift q h
    | collectOutcome => exact attention_takeCollectOutcome q h
    | _ => cases hr
  · exact h.of_same (serve_attn (Bool.eq_false_iff.2 hr) q s)

/-! ### The events -/

theorem attention_arbitrate (e : EvalUnit) {s : State} (h : AttentionFollows s) : AttentionFollows (arbitrate e s) :=
  h.of_same (arbitrate_attn e s)

theorem attention_warmRestart (cause : RestartCause) (straps : Straps) (s : State) :
    AttentionFollows (warmRestart cause straps s) := by
  rw [warmRestart_eq]
  exact ⟨follows_restarted .., follows_restarted .., follows_restarted .., follows_restarted ..⟩

theorem attention_verifyEnds {s : State} (h : AttentionFollows s) : AttentionFollows (verifyEnds s) := by
  unfold verifyEnds
  split_ifs
  · exact h
  · exact attention_changeMode _ _ h
  · exact attention_changeMode _ _ h
  · exact attention_enterService (attention_loadSlots h)
  · exact attention_enterService h

theorem attention_commitEnds {s : State} (h : AttentionFollows s) : AttentionFollows (commitEnds s) := by
  unfold commitEnds
  split
  · exact h
  · have hserving := attention_enterService (attention_loadSlots (s := storeImage s) h)
    exact hserving.of_same (deliver_attn ..)

theorem attention_capturesComplete {s : State} (h : AttentionFollows s) : AttentionFollows (capturesComplete s) := by
  unfold capturesComplete
  split
  · exact h
  · split
    · exact attention_foldl attention_applyHeld s.cond.hold (s := s.withCond _) h
    · exact h

theorem attention_completeRoutine (v : Version) (slung : Bool) (f : FigureSet) (dis : Option Int) {s : State}
    (h : AttentionFollows s) : AttentionFollows (completeRoutine v slung f dis s) := by
  have hjudged := attention_judgeResult (judgeAll s.mon slung f dis)
    (routineRecord s v slung f dis (judgeAll s.mon slung f dis)).seq h
  refine AttentionFollows.of_same (attention_raiseAll .newResult hjudged) ?_
  exact startInterval_attn _

theorem attention_joinWindowExpires (c : Crane) {s : State} (h : AttentionFollows s) : AttentionFollows (joinWindowExpires c s) := by
  unfold joinWindowExpires
  split
  · exact AttentionFollows.of_same (attention_finishLift _ _ _ _ h) (deliverTo_attn ..)
  · exact h

theorem attention_grantLapses (c : Crane) {s : State} (h : AttentionFollows s) : AttentionFollows (grantLapses c s) := by
  unfold grantLapses
  split
  · exact attention_finishLift _ _ _ _ h
  · exact h

theorem attention_reportLapses (c : Crane) {s : State} (h : AttentionFollows s) : AttentionFollows (reportLapses c s) := by
  unfold reportLapses
  split
  · exact attention_raiseAll (s := s.setRecord _ _) _ h
  · exact h

/-- The end of a pulse touches a line in PULSE mode alone (R190). -/
theorem attention_pulseEnds (p : Port) {s : State} (h : AttentionFollows s) : AttentionFollows (pulseEnds p s) := by
  unfold pulseEnds
  split
  · next hpulse =>
    obtain ⟨hpending, -⟩ := h.get p
    exact h.set p ⟨hpending, fun hlevel => nomatch hpulse.symm.trans hlevel⟩
  · exact h

/-- Every move keeps the attention lines where the rules put them (R190). -/
theorem Move.attention {s t : State} (h : Move s t) (hs : AttentionFollows s) : AttentionFollows t := by
  cases h with
  | ports x => exact hs
  | lineError p => exact attention_raiseAt p _ hs
  | queue x => exact hs
  | request r q _ => exact attention_arbitrate _ (attention_serve r q hs)
  | second => exact hs
  | cold straps => exact ⟨follows_restarted false false, follows_restarted false false, follows_restarted false false,
      follows_restarted false false⟩
  | warm cause straps => exact attention_warmRestart cause straps s
  | verified => exact attention_arbitrate _ (attention_verifyEnds hs)
  | committed => exact attention_arbitrate _ (attention_commitEnds hs)
  | job => exact hs.of_same (by rw [startJob_eq])
  | captured => exact attention_capturesComplete hs
  | routine f dis _ => exact attention_arbitrate _ (attention_completeRoutine _ _ f dis hs)
  | checked p f _ =>
    exact attention_arbitrate _ (attention_foldl (fun t c ht => ht.of_same (settleCheck_attn _ _ t c)) (s.crew _) hs)
  | prospect r _ => exact attention_arbitrate _ (AttentionFollows.of_same hs (deliver_attn ..))
  | interval _ => exact attention_arbitrate _ (AttentionFollows.of_same hs (startInterval_attn _))
  | joinWindow c => exact attention_joinWindowExpires c hs
  | grantLapse c => exact attention_grantLapses c hs
  | reportLapse c => exact attention_reportLapses c hs
  | stale =>
    refine hs.of_same ?_
    unfold readingStales
    split <;> rfl
  | pulse p => exact attention_pulseEnds p hs

/-- Settles O54: the lines by the operations that a step is made of, and the attention lines by its moves. -/
theorem everyStepKeepsLinesAndAttention : Obligations.EveryStepKeepsLinesAndAttention := fun _ _ hst =>
  ⟨fun h => stepKeeps_linesFollow.step h hst, (moves_step hst).keep fun h k => k.attention h⟩

end Sys2Proof.Machine
end

section
/-!
SUPPORT. The second that passes on an empty queue (R140, R156, log 3), and the outcome and the clamping of a landing (R142,
R143).
-/

namespace Sys2Proof.Machine
open Sys2Proof

/-! ### An empty queue (log 3) -/

/-- Settles O2: a step on an empty queue is the tick, field by field. -/
theorem emptyQueuePassesOneSecond : Obligations.EmptyQueuePassesOneSecond := by
  intro s hempty
  have hstep : step s = .next (tick s) := by
    unfold step
    rw [hempty]
  exact hstep.trans rfl

/-! ### Clamping (R143) -/

/-- The span of a clamped landing: both ends inside, the fore end not before the aft end and at most 4000 cm from it (R143). -/
theorem clampSpan_eq {r : CompRecord} (h : r.xAft ≤ r.xFore) (xa xf : Int) :
    let a := max r.xAft (min xa r.xFore)
    clampSpan r xa xf = (a, min (max a (max r.xAft (min xf r.xFore))) (a + 4000)) := by
  unfold clampSpan
  rw [bringInto_eq_max_min h, bringInto_eq_max_min h]
  dsimp only
  split_ifs with hback hlong <;> exact Prod.ext rfl (by dsimp only; omega)

/-- A landing brought into a compartment, before the rests-on tests (R143). -/
def clampedAt (r : CompRecord) (n : Nat) (pl : Placement) : Placement :=
  ⟨n, (clampSpan r pl.xAft pl.xFore).1, (clampSpan r pl.xAft pl.xFore).2, bringInto r.yMin r.yMax pl.y,
   bringInto r.zFloor r.zTop pl.z, pl.restsOn⟩

/-- A clamped landing keeps its rests-on field exactly where that passes its tests in the new compartment (R143). -/
theorem clampInto_eq {s : State} {n : Nat} {r : CompRecord} (h : s.ship.image.comp n = some r) (tag : Nat) (pl : Placement) :
    clampInto s tag n pl = { clampedAt r n pl with
      restsOn := if restsOnOk s .landing tag (clampedAt r n pl) = true then pl.restsOn else none } := by
  unfold clampInto
  rw [h]
  change (if restsOnOk s .landing tag (clampedAt r n pl) = true then clampedAt r n pl
    else { clampedAt r n pl with restsOn := none }) = _
  split_ifs <;> rfl

/-- The rests-on tests of a landing read the compartment and the rests-on field alone, and an absent field passes. -/
theorem restsOnOk_clampInto {s : State} {n : Nat} {r : CompRecord} (h : s.ship.image.comp n = some r) (tag : Nat)
    (pl : Placement) : restsOnOk s .landing tag (clampInto s tag n pl) = true := by
  rw [clampInto_eq h]
  by_cases hrests : restsOnOk s .landing tag (clampedAt r n pl) = true
  · rw [if_pos hrests]
    exact hrests
  · rw [if_neg hrests]
    rfl

/-- When a clamped landing still rests on an item: another one, named by no record and ABOARD in the compartment (R27, R143). -/
theorem restsOn_clampInto_iff {s : State} {n : Nat} {r : CompRecord} (h : s.ship.image.comp n = some r) (tag : Nat)
    {pl : Placement} {x : Nat} (hrest : pl.restsOn = some x) : (clampInto s tag n pl).restsOn = some x ↔
      x ≠ tag ∧ s.named x = false ∧ ∃ it b, s.item x = some it ∧ it.state = .aboard ∧ it.actual = some b ∧ b.comp = n := by
  have hkept : (clampInto s tag n pl).restsOn = some x ↔ restsOnOk s .landing tag (clampedAt r n pl) = true := by
    rw [clampInto_eq h]
    dsimp only
    split_ifs with hrests <;> simp [hrests, hrest]
  have hfield : (clampedAt r n pl).restsOn = some x := hrest
  rw [hkept, restsOnOk_iff, hfield]
  simp only [Option.some.injEq, forall_eq', reduceCtorEq, false_and, or_false, ne_eq, not_false_eq_true, forall_const]
  constructor
  · rintro ⟨hne, ⟨it, hit, haboard, b, hb, hn⟩, hnamed⟩
    exact ⟨hne, hnamed, it, b, hit, haboard, hb, hn⟩
  · rintro ⟨hne, hnamed, it, b, hit, haboard, hb, hn⟩
    exact ⟨hne, ⟨it, hit, haboard, b, hb, hn⟩, hnamed⟩

/-- A landing clamped into a stow compartment is valid (R26, R27, R143). -/
theorem placementValid_clampInto {s : State} {n : Nat} {r : CompRecord} (h : s.ship.image.comp n = some r)
    (hx : r.xAft ≤ r.xFore) (hy : r.yMin ≤ r.yMax) (hz : r.zFloor ≤ r.zTop) (hstow : ∃ k m, r.use = .stow k m) (tag : Nat)
    (pl : Placement) : placementValid s .landing tag (clampInto s tag n pl) = true := by
  refine (placementValid_iff ..).2 ⟨?_, rfl, restsOnOk_clampInto h tag pl⟩
  obtain ⟨k, m, huse⟩ := hstow
  rw [geometrySound_iff, clampInto_eq h]
  refine ⟨r, k, m, h, huse, ?_⟩
  dsimp only [clampedAt]
  rw [clampSpan_eq hx, bringInto_eq_max_min hy, bringInto_eq_max_min hz]
  dsimp only
  omega

/-- The compartment into which a landing is clamped: the destination's, or the origin's for a destination ASHORE (R143). -/
theorem clampComp_eq {l : Lift} {n : Nat}
    (h : (∃ d, l.dest = .place d ∧ n = d.comp) ∨ (l.dest = .ashore ∧ ∃ o, l.origin = .place o ∧ n = o.comp)) (pl : Placement) :
    clampComp l pl = n := by
  unfold clampComp
  obtain ⟨d, hdest, rfl⟩ | ⟨hdest, o, horigin, rfl⟩ := h
  · rw [hdest]
    rfl
  · rw [hdest, horigin]
    rfl

/-- Settles O48: the rows of R142 in their order, and the clamped placement coordinate by coordinate. -/
theorem landingOutcomeAndClamping : Obligations.LandingOutcomeAndClamping := by
  intro s l pl
  refine ⟨rfl, fun hvalid => if_pos hvalid, fun n r hinvalid hcomp hr hx hy hz => ?_⟩
  have houtcome : landingOutcome s l (.place pl) = (.landedClamped, .place (clampInto s l.tag n pl)) := by
    rw [← clampComp_eq hcomp pl]
    exact if_neg (by simp [hinvalid])
  refine ⟨_, houtcome, ?comp, ?aft, ?fore, ?y, ?z, ?kept, fun x hrest => restsOn_clampInto_iff hr l.tag hrest,
    fun hstow => placementValid_clampInto hr hx hy hz hstow l.tag pl⟩
  all_goals rw [clampInto_eq hr]
  case comp => rfl
  case aft => exact congrArg Prod.fst (clampSpan_eq hx ..)
  case fore => exact (congrArg Prod.snd (clampSpan_eq hx ..)).trans (by dsimp only [clampedAt]; rw [clampSpan_eq hx])
  case y => exact bringInto_eq_max_min hy _
  case z => exact bringInto_eq_max_min hz _
  case kept => exact ite_eq_or_eq ..

end Sys2Proof.Machine
end

section
/-!
SUPPORT. The requests of a crane port that begin a lift (R126 to R130): the tests of form, the checks one by one, and the two
acceptances.
-/

namespace Sys2Proof.Machine
open Sys2Proof

/-! ### A request on a crane port -/

/-- IN SERVICE a request of a crane that its block answers at once, changing nothing else, changes the ports alone. -/
theorem exec_crane_answered {i : Instr} {c : Crane} {tag : Byte} {r : Request} {s : State} {a : Answer}
    (hi : requestRow i = some (cranePort c, tag, r)) (hs : Serving s (cranePort c)) (hr : roleAllows r.kind .crane = true)
    (hm : modeAnswer .inService r.kind = none)
    (ha : ∀ q x, q.port = cranePort c → serve r q (s.withPorts x) = answer q a (s.withPorts x)) :
    exec i s = answersOnly s (cranePort c) r.kind tag a := by
  obtain ⟨hready, hmode⟩ := hs
  rw [exec_requestRow s hi, request_answered hready (by simp [hmode]) (roleAllows_crane c hr) (by rw [hmode]; exact hm)
    (ha _ _ rfl)]
  rfl

/-! ### Checks 2 to 5 of R127, which JOIN LIFT shares (R130) -/

section
variable {s : State} {c : Crane}

theorem ownFault_done (h : (s.record c).state = .done) : ownFault s c = some .outcomePending := if_pos h

theorem ownFault_active (hdone : (s.record c).state ≠ .done) (hidle : (s.record c).state ≠ .idle) :
    ownFault s c = some .busy := by
  rw [ownFault, if_neg hdone, if_pos hidle]

/-- On an IDLE record the SILENT marks are looked at, and then the effective action. -/
theorem ownFault_idle (h : (s.record c).state = .idle) : ownFault s c =
    if s.anySilent = true then some .silentLift else if 2 ≤ actionRank s.mon.effective then some .held else none := by
  rw [ownFault, h, if_neg nofun, if_neg (not_not_intro rfl)]

theorem ownFault_silent (h : (s.record c).state = .idle) (hsilent : s.anySilent = true) :
    ownFault s c = some .silentLift := by
  rw [ownFault_idle h, if_pos hsilent]

theorem ownFault_held (h : (s.record c).state = .idle) (hsilent : s.anySilent = false)
    (hrank : 2 ≤ actionRank s.mon.effective) : ownFault s c = some .held := by
  rw [ownFault_idle h, if_neg (Bool.eq_false_iff.1 hsilent), if_pos hrank]

theorem ownFault_clear (h : (s.record c).state = .idle) (hsilent : s.anySilent = false)
    (hrank : actionRank s.mon.effective < 2) : ownFault s c = none := by
  rw [ownFault_idle h, if_neg (Bool.eq_false_iff.1 hsilent), if_neg (Nat.not_le.2 hrank)]

end

/-! ### Checks 6 to 12 of R127 -/

theorem meetsPlan_eq_false_iff (plan : Option Goal) (g : Goal) :
    meetsPlan plan g = false ↔ ∃ h, plan = some h ∧ h ≠ g := by
  cases plan <;> simp [meetsPlan]

theorem destValid_eq_false_iff (s : State) (tag : Nat) (g : Goal) :
    destValid s tag g = false ↔ ∃ pl, g = .place pl ∧ placementValid s .liftDest tag pl = false := by
  cases g <;> simp [destValid]

theorem partnerOk_eq_false_iff (c : Crane) (partner : Option PortRef) :
    partnerOk c partner = false ↔ partner ≠ none ∧ partner ≠ some (.port (cranePort (otherCrane c))) := by
  cases partner <;> simp [partnerOk]

theorem itemFault_missing {s : State} {tag : Nat} (h : s.item tag = none) (c : Crane) (dest : Goal)
    (partner : Option PortRef) : itemFault s c tag dest partner = some .noSuchItem := by
  unfold itemFault
  rw [h]

/-- The checks of an item that the table holds, in their order. -/
theorem itemFault_found {s : State} {tag : Nat} {it : ItemRecord} (h : s.item tag = some it) (c : Crane) (dest : Goal)
    (partner : Option PortRef) : itemFault s c tag dest partner =
      if it.kind = .constant then some .notLiftable
      else if it.state = .slung ∨ recordNames (s.record (otherCrane c)) tag = true then some .itemBusy
      else if s.overstowed tag = true then some .overstowed
      else if meetsPlan it.plan dest = false then some .offPlan
      else if destValid s tag dest = false then some .badPlacement
      else if partnerOk c partner = false then some .partner
      else none := by
  unfold itemFault
  rw [h]

/-! ### LIFT REQUEST (R126 to R128) -/

/-- When a LIFT REQUEST is in form: a destination and two points in range, and a share exactly where a partner is named. -/
theorem liftMalformed_eq_false_iff (dest : Option Goal) (outreach hook : Point) (partner : Option PortRef)
    (share : Option Nat) : liftMalformed dest outreach hook partner share = false ↔
      (dest = some .ashore ∨ ∃ pl, dest = some (.place pl) ∧ pointOk ⟨pl.xAft, pl.y, pl.z⟩ = true ∧
        pointOk ⟨pl.xFore, pl.y, pl.z⟩ = true) ∧
      pointOk outreach = true ∧ pointOk hook = true ∧
      ((partner = none ∧ share = none) ∨ (partner ≠ none ∧ ∃ n, share = some n ∧ 100 ≤ n ∧ n ≤ 900)) := by
  have hdest : dest.elim false goalOk = true ↔ dest = some .ashore ∨ ∃ pl, dest = some (.place pl) ∧
      pointOk ⟨pl.xAft, pl.y, pl.z⟩ = true ∧ pointOk ⟨pl.xFore, pl.y, pl.z⟩ = true := by
    cases dest with
    | none => simp
    | some g => cases g <;> simp [goalOk, placementOk_iff_ends]
  rw [← hdest]
  unfold liftMalformed
  cases partner <;> cases share <;> simp [and_assoc]

section
variable {c : Crane} {tag : Byte} {item : Nat} {dest : Option Goal} {outreach hook : Point} {partner : Option PortRef}
  {share : Option Nat} {s : State}

/-- A LIFT REQUEST that is not in form (R126). -/
theorem exec_liftRequest_malformed (hs : Serving s (cranePort c)) (h : liftMalformed dest outreach hook partner share = true) :
    exec (.liftRequest (cranePort c) tag item dest outreach hook partner share) s =
      answersOnly s (cranePort c) .liftRequest tag ⟨.badArgument, .statusOnly⟩ := by
  refine exec_crane_answered (r := .liftRequest item dest outreach hook partner share) rfl hs rfl rfl fun q x hq => ?_
  simp only [serve, takeLiftRequest, hq, craneOf_cranePort, h]
  cases dest <;> rfl

/-- A LIFT REQUEST in form goes to the checks on its port's record and then on its item (R127). -/
theorem takeLiftRequest_formed {q : Caller} {g : Goal} (hq : q.port = cranePort c)
    (h : liftMalformed (some g) outreach hook partner share = false) (x : PerPort PortState) :
    takeLiftRequest item (some g) outreach hook partner share q (s.withPorts x) =
      ((ownFault s c).or (itemFault s c item g partner)).elim
        (startLift c q item g outreach hook (if partner.isSome then share else none) (s.withPorts x))
        (fun st => answer q (bare st) (s.withPorts x)) := by
  have hfirst : (ownFault (s.withPorts x) c).or (itemFault (s.withPorts x) c item g partner) =
      (ownFault s c).or (itemFault s c item g partner) := rfl
  simp only [takeLiftRequest, hq, craneOf_cranePort, h, hfirst]
  cases (ownFault s c).or (itemFault s c item g partner) <;> rfl

/-- A LIFT REQUEST refused by the first of its checks that fails (R127). -/
theorem exec_liftRequest_refused {st : Status} (hs : Serving s (cranePort c))
    (h : liftMalformed dest outreach hook partner share = false)
    (hfault : ∀ g, dest = some g → (ownFault s c).or (itemFault s c item g partner) = some st) :
    exec (.liftRequest (cranePort c) tag item dest outreach hook partner share) s =
      answersOnly s (cranePort c) .liftRequest tag ⟨st, .statusOnly⟩ := by
  refine exec_crane_answered (r := .liftRequest item dest outreach hook partner share) rfl hs rfl rfl fun q x hq => ?_
  cases dest with
  | none => cases h
  | some g =>
    refine (takeLiftRequest_formed hq h x).trans ?_
    rw [hfault g rfl]
    rfl

/-- A LIFT REQUEST whose own record passes, refused by a check on its item (R127). -/
theorem exec_liftRequest_itemFault {g : Goal} {st : Status} (hs : Serving s (cranePort c))
    (h : liftMalformed (some g) outreach hook partner share = false) (hown : ownFault s c = none)
    (hitem : itemFault s c item g partner = some st) :
    exec (.liftRequest (cranePort c) tag item (some g) outreach hook partner share) s =
      answersOnly s (cranePort c) .liftRequest tag ⟨st, .statusOnly⟩ :=
  exec_liftRequest_refused hs h fun g' hg => by
    cases hg
    rw [hown, hitem]
    rfl

/-- A LIFT REQUEST that passes every check starts its lift, and the arbiter acts on the check that it raised (R128). -/
theorem exec_liftRequest_taken {g : Goal} (hs : Serving s (cranePort c))
    (h : liftMalformed (some g) outreach hook partner share = false) (hown : ownFault s c = none)
    (hitem : itemFault s c item g partner = none) :
    exec (.liftRequest (cranePort c) tag item (some g) outreach hook partner share) s =
      .next (arbitrate s.eval (startLift c (nextCaller s (cranePort c) 0x40 tag) item g outreach hook
        (if partner.isSome then share else none) (openRequest (nextCaller s (cranePort c) 0x40 tag) s))) := by
  rw [exec_serving (r := .liftRequest item (some g) outreach hook partner share) rfl hs (roleAllows_crane c rfl) rfl]
  refine congrArg (fun t => Host.Outcome.next (arbitrate s.eval t)) ((takeLiftRequest_formed rfl h _).trans ?_)
  rw [hown, hitem]
  rfl

end

/-- The origin of a lift is the actual placement of its item, or ASHORE (R128). -/
theorem originOf_some (it : ItemRecord) : originOf (some it) = it.actual.elim .ashore .place := by
  unfold originOf
  dsimp only
  cases it.actual <;> rfl

/-- A single lift begun: its record is CHECKING and its check is raised in the port's slot (R128). -/
theorem startLift_single {s : State} {c : Crane} {tag : Byte} {item : Nat} {it : ItemRecord} (hit : s.item item = some it)
    (dest : Goal) (outreach hook : Point) :
    startLift c (nextCaller s (cranePort c) 0x40 tag) item dest outreach hook none
      (openRequest (nextCaller s (cranePort c) 0x40 tag) s) = { s with
        lifts := { s.lifts with
          records := s.lifts.records.set c ⟨.checking,
            some ⟨item, originOf (some it), dest, outreach, some hook, .single, none⟩, none, false, none, none⟩
          waiting := s.lifts.waiting.set c (some (nextCaller s (cranePort c) 0x40 tag)) }
        eval := (raiseLiftCheck c s).eval
        ports := deferredPorts s (cranePort c) .liftRequest tag } := by
  rw [← hit]
  cases c <;> rfl

/-- A tandem lead begun: its record is JOINING and its join window runs (R128). -/
theorem startLift_lead {s : State} {c : Crane} {tag : Byte} {item : Nat} {it : ItemRecord} (hit : s.item item = some it)
    (dest : Goal) (outreach hook : Point) (n : Nat) :
    startLift c (nextCaller s (cranePort c) 0x40 tag) item dest outreach hook (some n)
      (openRequest (nextCaller s (cranePort c) 0x40 tag) s) = { s with
        lifts := { s.lifts with
          records := s.lifts.records.set c ⟨.joining,
            some ⟨item, originOf (some it), dest, outreach, some hook, .lead, some n⟩,
            some (freshTimer s .joinWindow), false, none, none⟩
          waiting := s.lifts.waiting.set c (some (nextCaller s (cranePort c) 0x40 tag)) }
        ports := deferredPorts s (cranePort c) .liftRequest tag } := by
  rw [← hit]
  cases c <;> rfl

/-- Settles O44: the form, the checks one by one, the two acceptances, and the lengths of the timers. -/
theorem liftRequestIsTestedAndTaken : Obligations.LiftRequestIsTestedAndTaken := by
  refine ⟨fun c tag item dest outreach hook partner share s hs => ?request, fun img => ⟨fun h => ?_, fun r h => ?_⟩⟩
  case request =>
    intro p run no inRange destOk shareOk formed own other clear
    have hform : liftMalformed dest outreach hook partner share = false ↔ formed := by
      rw [liftMalformed_eq_false_iff]
      simp only [pointOk_iff]
      rfl
    have hown : clear → ownFault s c = none := fun ⟨hidle, hsilent, hrank⟩ => ownFault_clear hidle hsilent hrank
    have hrefused {st : Status} (hf : formed) (hfault : ownFault s c = some st) : run = no st :=
      exec_liftRequest_refused hs (hform.2 hf) fun g _ => by rw [hfault]; rfl
    refine ⟨fun hf => exec_liftRequest_malformed hs (by rw [← Bool.not_eq_false, hform]; exact hf),
      fun hf hdone => hrefused hf (ownFault_done hdone),
      fun hf hdone hidle => hrefused hf (ownFault_active hdone hidle),
      fun hf hidle hsilent => hrefused hf (ownFault_silent hidle hsilent),
      fun hf hidle hsilent hrank => hrefused hf (ownFault_held hidle hsilent hrank),
      fun hf hclear hnone => exec_liftRequest_refused hs (hform.2 hf) fun g _ => by
        rw [hown hclear, itemFault_missing hnone]; rfl,
      fun it g hf hclear hit hdest => ?checks⟩
    case checks =>
      subst hdest
      intro busy offPlan invalid origin lift
      have hcargo (hkind : it.kind = .cargo) : it.kind ≠ .constant := by rw [hkind]; nofun
      have hplan : meetsPlan it.plan g = false ↔ offPlan := meetsPlan_eq_false_iff ..
      have hvalid : destValid s item g = false ↔ invalid := destValid_eq_false_iff ..
      have hpartner := partnerOk_eq_false_iff c partner
      have horigin : originOf (some it) = origin := (originOf_some it).trans (by dsimp only [origin]; cases it.actual <;> rfl)
      have hitem := itemFault_found hit c g partner
      have hfault {st : Status} (h : itemFault s c item g partner = some st) : run = no st :=
        exec_liftRequest_itemFault hs (hform.2 hf) (hown hclear) h
      have hpasses (hkind : it.kind = .cargo) (hbusy : ¬ busy) (hover : s.overstowed item = false) (hoff : ¬ offPlan)
          (hinvalid : ¬ invalid) : itemFault s c item g partner = if partnerOk c partner = false then some .partner else none := by
        rw [hitem, if_neg (hcargo hkind), if_neg hbusy, if_neg (Bool.eq_false_iff.1 hover), if_neg (mt hplan.1 hoff),
          if_neg (mt hvalid.1 hinvalid)]
      refine ⟨fun hkind => hfault (hitem.trans (if_pos hkind)), fun hkind hbusy => hfault ?_, fun hkind hbusy hover => hfault ?_,
        fun hkind hbusy hover hoff => hfault ?_, fun hkind hbusy hover hoff hinvalid => hfault ?_,
        fun hkind hbusy hover hoff hinvalid hnamed hother => hfault ?_, fun hkind hbusy hover hoff hinvalid hnamed => ?single,
        fun hkind hbusy hover hoff hinvalid hnamed => ?tandem⟩
      · rw [hitem, if_neg (hcargo hkind), if_pos hbusy]
      · rw [hitem, if_neg (hcargo hkind), if_neg hbusy, if_pos hover]
      · rw [hitem, if_neg (hcargo hkind), if_neg hbusy, if_neg (Bool.eq_false_iff.1 hover), if_pos (hplan.2 hoff)]
      · rw [hitem, if_neg (hcargo hkind), if_neg hbusy, if_neg (Bool.eq_false_iff.1 hover), if_neg (mt hplan.1 hoff),
          if_pos (hvalid.2 hinvalid)]
      · rw [hpasses hkind hbusy hover hoff hinvalid, if_pos (hpartner.2 ⟨hnamed, hother⟩)]
      case single =>
        have hnone : share = none := by
          obtain ⟨-, -, -, ⟨-, hshare⟩ | ⟨hpartnered, -⟩⟩ := hf
          · exact hshare
          · exact absurd hnamed hpartnered
        have hfault := (hpasses hkind hbusy hover hoff hinvalid).trans (if_neg fun h => (hpartner.1 h).1 hnamed)
        refine (exec_liftRequest_taken hs (hform.2 hf) (hown hclear) hfault).trans ?_
        subst hnamed hnone
        dsimp only [Option.isSome_none]
        rw [if_neg Bool.false_ne_true, startLift_single hit, horigin]
        cases c <;> rfl
      case tandem =>
        obtain ⟨n, hshare⟩ : ∃ n, share = some n := by
          obtain ⟨-, -, -, ⟨hsingle, -⟩ | ⟨-, n, hshare, -⟩⟩ := hf
          · exact nomatch hnamed.symm.trans hsingle
          · exact ⟨n, hshare⟩
        have hfault := (hpasses hkind hbusy hover hoff hinvalid).trans (if_neg fun h => (hpartner.1 h).2 hnamed)
        refine (exec_liftRequest_taken hs (hform.2 hf) (hown hclear) hfault).trans ?_
        subst hnamed hshare
        dsimp only [Option.isSome_some]
        rw [if_pos rfl, startLift_lead hit, horigin]
        exact congrArg Host.Outcome.next (arbitrate_same rfl rfl rfl rfl rfl)
  · unfold Image.timerLengths
    rw [h]
    exact ⟨rfl, rfl, rfl, rfl⟩
  · unfold Image.timerLengths
    rw [h]
    rfl

end Sys2Proof.Machine
end

section
/-!
SUPPORT. JOIN LIFT (R130): its tests and its acceptance.
-/

namespace Sys2Proof.Machine
open Sys2Proof

/-- Check 1 of R130 passes for a lead JOINING on the other crane's port with a lift of the item. -/
theorem noSuchJoin_eq_false_iff (s : State) (c : Crane) (leadRef : PortRef) (item : Nat) :
    noSuchJoin s c leadRef item = false ↔ ∃ l, leadRef = .port (cranePort (otherCrane c)) ∧
      (s.record (otherCrane c)).state = .joining ∧ (s.record (otherCrane c)).lift = some l ∧ l.tag = item := by
  have hnames (h : (s.record (otherCrane c)).state = .joining) : recordNames (s.record (otherCrane c)) item = true ↔
      ∃ l, (s.record (otherCrane c)).lift = some l ∧ l.tag = item := by
    unfold recordNames liftActive
    rw [h]
    cases (s.record (otherCrane c)).lift <;> simp
  unfold noSuchJoin
  simp only [Bool.or_eq_false_iff, Bool.not_eq_false', beq_iff_eq]
  constructor
  · rintro ⟨⟨hlead, hjoining⟩, hnamed⟩
    obtain ⟨l, hl, htag⟩ := (hnames hjoining).1 hnamed
    exact ⟨l, hlead, hjoining, hl, htag⟩
  · rintro ⟨l, hlead, hjoining, hl, htag⟩
    exact ⟨⟨hlead, hjoining⟩, (hnames hjoining).2 ⟨l, hl, htag⟩⟩

section
variable {c : Crane} {tag : Byte} {leadRef : PortRef} {item : Nat} {outreach : Point} {s : State}

/-- A JOIN LIFT with its outreach point out of range (R130). -/
theorem exec_joinLift_malformed (hs : Serving s (cranePort c)) (h : pointOk outreach = false) :
    exec (.joinLift (cranePort c) tag leadRef item outreach) s =
      answersOnly s (cranePort c) .joinLift tag ⟨.badArgument, .statusOnly⟩ := by
  refine exec_crane_answered (r := .joinLift leadRef item outreach) rfl hs rfl rfl fun q x hq => ?_
  simp only [serve, takeJoinLift, hq, craneOf_cranePort]
  exact if_pos h

/-- A JOIN LIFT in form that names no lead to join (R130). -/
theorem exec_joinLift_noLead (hs : Serving s (cranePort c)) (h : pointOk outreach = true)
    (hlead : noSuchJoin s c leadRef item = true) :
    exec (.joinLift (cranePort c) tag leadRef item outreach) s =
      answersOnly s (cranePort c) .joinLift tag ⟨.noSuchLift, .statusOnly⟩ := by
  refine exec_crane_answered (r := .joinLift leadRef item outreach) rfl hs rfl rfl fun q x hq => ?_
  have hfirst : noSuchJoin (s.withPorts x) c leadRef item = true := hlead
  simp only [serve, takeJoinLift, hq, craneOf_cranePort, h, hfirst]
  rfl

/-- A JOIN LIFT in form that names a lead goes to the checks on its port's record (R130). -/
theorem takeJoinLift_led {q : Caller} {l : Lift} (hq : q.port = cranePort c) (h : pointOk outreach = true)
    (hlead : noSuchJoin s c leadRef item = false) (hl : (s.record (otherCrane c)).lift = some l) (x : PerPort PortState) :
    takeJoinLift leadRef item outreach q (s.withPorts x) =
      (ownFault s c).elim (joinTandem c q outreach l (s.withPorts x)) (fun st => answer q (bare st) (s.withPorts x)) := by
  have hfirst : noSuchJoin (s.withPorts x) c leadRef item = false := hlead
  have hlift : ((s.withPorts x).record (otherCrane c)).lift = some l := hl
  have hown : ownFault (s.withPorts x) c = ownFault s c := rfl
  simp only [takeJoinLift, hq, craneOf_cranePort, h, hfirst, hlift, hown]
  cases ownFault s c <;> rfl

/-- A JOIN LIFT refused by a check on its port's record (R130). -/
theorem exec_joinLift_refused {l : Lift} {st : Status} (hs : Serving s (cranePort c)) (h : pointOk outreach = true)
    (hlead : noSuchJoin s c leadRef item = false) (hl : (s.record (otherCrane c)).lift = some l)
    (hfault : ownFault s c = some st) :
    exec (.joinLift (cranePort c) tag leadRef item outreach) s =
      answersOnly s (cranePort c) .joinLift tag ⟨st, .statusOnly⟩ := by
  refine exec_crane_answered (r := .joinLift leadRef item outreach) rfl hs rfl rfl fun q x hq => ?_
  refine (takeJoinLift_led hq h hlead hl x).trans ?_
  rw [hfault]
  rfl

/-- A JOIN LIFT that passes: the lead's window stops, both records are CHECKING, and one check is raised in the lead's slot
(R130). -/
theorem exec_joinLift_taken {l : Lift} (hs : Serving s (cranePort c)) (h : pointOk outreach = true)
    (hlead : noSuchJoin s c leadRef item = false) (hl : (s.record (otherCrane c)).lift = some l) (hown : ownFault s c = none) :
    exec (.joinLift (cranePort c) tag leadRef item outreach) s = .next (arbitrate s.eval { s with
      lifts := { s.lifts with
        records := (s.lifts.records.set (otherCrane c) (joinedLead (s.record (otherCrane c)))).set c (joinedPartner l outreach)
        waiting := s.lifts.waiting.set c (some (nextCaller s (cranePort c) 0x41 tag)) }
      eval := (raiseLiftCheck (otherCrane c) s).eval
      ports := deferredPorts s (cranePort c) .joinLift tag }) := by
  rw [exec_serving (r := .joinLift leadRef item outreach) rfl hs (roleAllows_crane c rfl) rfl]
  refine congrArg (fun t => Host.Outcome.next (arbitrate s.eval t)) ((takeJoinLift_led rfl h hlead hl _).trans ?_)
  rw [hown]
  cases c <;> rfl

end

/-- Settles O45: the tests one by one, those on the own record as LIFT REQUEST has them, and the acceptance. -/
theorem joinLiftIsTestedAndTaken : Obligations.JoinLiftIsTestedAndTaken := by
  intro c tag leadRef item outreach s hs p run no formed own lead joins
  have hform : pointOk outreach = true ↔ formed := pointOk_iff outreach
  have hjoin : noSuchJoin s c leadRef item = false ↔ ∃ l, joins l := noSuchJoin_eq_false_iff ..
  refine ⟨fun hf => exec_joinLift_malformed hs (Bool.eq_false_iff.2 (mt hform.1 hf)), fun hf hnone => ?_, fun l hf hl => ?_⟩
  · exact exec_joinLift_noLead hs (hform.2 hf) (by rw [← Bool.not_eq_false, hjoin]; exact not_exists.2 hnone)
  · have hled := hjoin.2 ⟨l, hl⟩
    obtain ⟨-, -, hlift, -⟩ := hl
    have hrefused {st : Status} (hfault : ownFault s c = some st) : run = no st :=
      exec_joinLift_refused hs (hform.2 hf) hled hlift hfault
    refine ⟨fun hdone => hrefused (ownFault_done hdone), fun hdone hidle => hrefused (ownFault_active hdone hidle),
      fun hidle hsilent => hrefused (ownFault_silent hidle hsilent),
      fun hidle hsilent hrank => hrefused (ownFault_held hidle hsilent hrank), fun hidle hsilent hrank => ?_⟩
    refine (exec_joinLift_taken hs (hform.2 hf) hled hlift (ownFault_clear hidle hsilent hrank)).trans ?_
    cases c <;> rfl

end Sys2Proof.Machine
end

section
/-!
SUPPORT. The end of a lift whose item goes back to its origin (R124, R132, R146, R188), alone or with the record beside it:
what it does to the lift unit and to the attention unit. ABORT LIFT and the lapse of a grant both end lifts so.
-/

namespace Sys2Proof.Machine
open Sys2Proof

/-! ### The lift unit after the end -/

/-- The origin of the lift that a record holds. -/
def liftOrigin (r : LiftRecord) : Goal := r.lift.elim .ashore Lift.origin

theorem liftOrigin_eq {r : LiftRecord} {l : Lift} (h : r.lift = some l) : liftOrigin r = l.origin := by
  unfold liftOrigin
  rw [h]
  rfl

/-- A record enters DONE, and its outcome record is kept with the item's mass at its origin (R146). -/
def LiftUnit.finish (u : LiftUnit) (code : OutcomeCode) (mass : Int) (c : Crane) : LiftUnit := { u with
  records := u.records.set c (finishedRecord code (u.records.get c))
  ended := u.ended.set c (some ⟨mass, liftOrigin (u.records.get c)⟩) }

/-- The lift unit after a lift has ended at its origin, with the record beside it where `both` says so. -/
def endedLifts (s : State) (c : Crane) (code : OutcomeCode) (mass : Int) (both : Prop) [Decidable both] : LiftUnit :=
  if both then (s.lifts.finish code mass c).finish code mass (otherCrane c) else s.lifts.finish code mass c

/-- The attention unit after the end: OUTCOME READY on the port of each record, and SILENT LIFT gone with the last mark. -/
def endedAttn (s : State) (c : Crane) (both : Prop) [Decidable both] : PerPort AttnPort :=
  let own := s.attn.modify (cranePort c) (AttnPort.raise .outcomeReady)
  if both then
    let two := own.modify (cranePort (otherCrane c)) (AttnPort.raise .outcomeReady)
    if (s.record c).silent = true ∨ (s.record (otherCrane c)).silent = true then two.map (AttnPort.remove .silentLift) else two
  else if (s.record c).silent = true ∧ (s.record (otherCrane c)).silent = false then own.map (AttnPort.remove .silentLift)
  else own

/-- Raising a cause on one port makes it pending there and changes no other pending set. -/
theorem mem_pending_raisedAt (m : PerPort AttnPort) (p e : Port) (x y : Cause) :
    y ∈ ((m.modify p (AttnPort.raise x)).get e).pending ↔ (y = x ∧ e = p) ∨ y ∈ (m.get e).pending := by
  rw [PerPort.get_modify]
  split <;> simp_all

section
variable (s : State) (c : Crane) (code : OutcomeCode) (mass : Int) (both : Prop) [Decidable both]

/-- A lift that ends at its origin changes the lift unit and the attention unit alone. -/
theorem finishLift_ended {l : Lift} (hl : (s.record c).lift = some l)
    (hboth : both → liftRole (s.record (otherCrane c)) = some .partner) :
    finishLift code none mass (if both then [c, otherCrane c] else [c]) s =
      { s with lifts := endedLifts s c code mass both, attn := endedAttn s c both } := by
  have horigin {d : Crane} {k : Lift} (hk : (s.record d).lift = some k) : liftOrigin (s.lifts.records.get d) = k.origin :=
    liftOrigin_eq hk
  unfold endedLifts endedAttn
  by_cases h : both
  · obtain ⟨k, hk, -⟩ := Option.map_eq_some_iff.1 (hboth h)
    have hother : (s.lifts.finish code mass c).records.get (otherCrane c) = s.record (otherCrane c) :=
      PerCrane.get_set_other _ _ _ _ (otherCrane_ne c)
    rw [if_pos h, if_pos h, if_pos h, finishLift_pair code none mass hl hk, anySilent_eq s c,
      LiftUnit.finish, hother, LiftUnit.finish, horigin hl]
    simp only [Bool.or_eq_true, ← horigin hk]
    rfl
  · rw [if_neg h, if_neg h, if_neg h, finishLift_single code none mass hl, LiftUnit.finish, horigin hl]
    rfl

theorem endedLifts_waiting : (endedLifts s c code mass both).waiting = s.lifts.waiting := by
  unfold endedLifts
  split <;> rfl

/-- The records that end are DONE, with their outcome records kept. -/
theorem endedLifts_finished {d : Crane} {k : Lift} (hd : d = c ∨ (d = otherCrane c ∧ both)) (hk : (s.record d).lift = some k) :
    (endedLifts s c code mass both).records.get d = finishedRecord code (s.record d) ∧
    (endedLifts s c code mass both).ended.get d = some ⟨mass, k.origin⟩ := by
  rw [← liftOrigin_eq hk]
  unfold endedLifts
  rcases hd with rfl | ⟨rfl, h⟩
  · split <;> cases d <;> exact ⟨rfl, rfl⟩
  · rw [if_pos h]
    cases c <;> exact ⟨rfl, rfl⟩

/-- A lift that ends alone leaves the other record. -/
theorem endedLifts_apart (h : ¬ both) :
    (endedLifts s c code mass both).records.get (otherCrane c) = s.record (otherCrane c) ∧
    (endedLifts s c code mass both).ended.get (otherCrane c) = s.lifts.ended.get (otherCrane c) := by
  unfold endedLifts
  rw [if_neg h]
  exact ⟨PerCrane.get_set_other _ _ _ _ (otherCrane_ne c), PerCrane.get_set_other _ _ _ _ (otherCrane_ne c)⟩

/-- After the end of a lift only another lift, that did not end with it, may still be SILENT. -/
theorem endedLifts_silent :
    ((endedLifts s c code mass both).records.c1.silent || (endedLifts s c code mass both).records.c2.silent) =
      (!decide both && (s.record (otherCrane c)).silent) := by
  unfold endedLifts
  by_cases h : both
  · rw [if_pos h, decide_eq_true h]
    cases c <;> rfl
  · rw [if_neg h, decide_eq_false h]
    cases c
    · rfl
    · exact Bool.or_false _

/-- Which causes are pending after the end of a lift (R188). -/
theorem mem_endedAttn (e : Port) (y : Cause) : y ∈ ((endedAttn s c both).get e).pending ↔
    (y = .outcomeReady ∧ (e = cranePort c ∨ (e = cranePort (otherCrane c) ∧ both))) ∨
    (y ∈ (s.attn.get e).pending ∧ (y = .silentLift → s.anySilent = true →
      (!decide both && (s.record (otherCrane c)).silent) = true)) := by
  have hdistinct : y = .outcomeReady → y ≠ .silentLift := by rintro rfl; decide
  unfold endedAttn
  by_cases h : both
  · have hany : s.anySilent = true ↔ (s.record c).silent = true ∨ (s.record (otherCrane c)).silent = true := by
      rw [anySilent_eq s c, Bool.or_eq_true]
    rw [if_pos h]
    simp only [← hany]
    split
    · next hsilent => simp [mem_pending_raisedAt, h, hsilent]; tauto
    · next hsilent => simp [mem_pending_raisedAt, h, hsilent]; tauto
  · rw [if_neg h, anySilent_eq s c]
    split
    · next hlast =>
      obtain ⟨hown, hbeside⟩ := hlast
      simp [mem_pending_raisedAt, h, hown, hbeside]; tauto
    · next hkept =>
      have hstays : ((s.record c).silent || (s.record (otherCrane c)).silent) = true →
          (s.record (otherCrane c)).silent = true := by simpa [or_imp] using hkept
      simp only [mem_pending_raisedAt, h, and_false, or_false, decide_false, Bool.not_false, Bool.true_and]
      tauto

end

end Sys2Proof.Machine
end

section
/-!
SUPPORT. ABORT LIFT (R145), COLLECT OUTCOME (R146) and READ LIFT (R125), and the bytes of an outcome record (section 8.7 of
the ports chapter).
-/

namespace Sys2Proof.Machine
open Sys2Proof

/-! ### ABORT LIFT (R145) -/

/-- IN SERVICE a request of a crane whose block leaves the evaluation unit ends with what its block did. -/
theorem exec_crane_served {i : Instr} {c : Crane} {tag : Byte} {r : Request} {s t : State}
    (hi : requestRow i = some (cranePort c, tag, r)) (hs : Serving s (cranePort c)) (hr : roleAllows r.kind .crane = true)
    (hm : modeAnswer .inService r.kind = none) (heval : t.eval = s.eval)
    (ht : serve r (nextCaller s (cranePort c) (kindByte r.kind) tag)
      (openRequest (nextCaller s (cranePort c) (kindByte r.kind) tag) s) = t) : exec i s = .next t := by
  rw [exec_serving hi hs (roleAllows_crane c hr) hm, ht, ← heval, arbitrate_quiet]

/-- What ABORT LIFT does by the state of a single or lead record (R145). -/
def abortByState (c : Crane) (q : Caller) (s : State) : LiftState → State
  | .idle => answer q (bare .noSuchLift) s
  | .joining => answer q (bare .done) (finishLift .aborted none (s.liftMass c) [c] s)
  | .checking => answer q (bare .busy) s
  | .granted => answer q (bare .done) (finishLift .aborted none (s.liftMass c) (s.crew c) s)
  | .slung => answer q (bare .stillSlung) s
  | .done => answer q (bare .outcomePending) s

section
variable {c : Crane} {q : Caller} {s : State}

theorem takeAbortLift_idle (hq : q.port = cranePort c) (h : (s.record c).state = .idle) :
    takeAbortLift q s = answer q (bare .noSuchLift) s := by
  unfold takeAbortLift
  rw [hq, craneOf_cranePort]
  exact if_pos h

theorem takeAbortLift_partner (hq : q.port = cranePort c) (h : (s.record c).state ≠ .idle)
    (hrole : liftRole (s.record c) = some .partner) : takeAbortLift q s = answer q (bare .notLead) s := by
  unfold takeAbortLift
  rw [hq, craneOf_cranePort]
  exact (if_neg h).trans (if_pos hrole)

theorem takeAbortLift_own {st : LiftState} (hq : q.port = cranePort c) (h : (s.record c).state = st)
    (hrole : liftRole (s.record c) ≠ some .partner) : takeAbortLift q s = abortByState c q s st := by
  subst h
  by_cases hidle : (s.record c).state = .idle
  · rw [takeAbortLift_idle hq hidle, hidle, abortByState]
  · unfold takeAbortLift
    rw [hq, craneOf_cranePort]
    refine (if_neg hidle).trans ((if_neg hrole).trans ?_)
    cases (s.record c).state <;> rfl

end

/-- The mass of the item of a record that holds a lift. -/
theorem liftMass_eq {s : State} {c : Crane} {l : Lift} (h : (s.record c).lift = some l) : s.liftMass c = s.massOf l.tag := by
  unfold State.liftMass
  rw [h]
  rfl

/-- ABORT LIFT of a lead or single record in JOINING or GRANTED: the lift ends at its origin, and a tandem partner in GRANTED
with it (R132, R145). -/
theorem exec_abortLift_ended {c : Crane} {tag : Byte} {s : State} {l : Lift} {both : Prop} [Decidable both]
    (hs : Serving s (cranePort c)) (hstate : (s.record c).state = .joining ∨ (s.record c).state = .granted)
    (hrole : liftRole (s.record c) ≠ some .partner) (hl : (s.record c).lift = some l)
    (hboth : both ↔ (s.record c).state = .granted ∧ s.ledTandem c = true) :
    exec (.abortLift (cranePort c) tag) s = .next { s with
      lifts := endedLifts s c .aborted (s.massOf l.tag) both
      attn := endedAttn s c both
      ports := answeredPorts s (cranePort c) .abortLift tag ⟨.done, .statusOnly⟩ } := by
  have hpartner (h : both) : liftRole (s.record (otherCrane c)) = some .partner := by
    obtain ⟨-, hled⟩ := hboth.1 h
    obtain ⟨-, hother, -⟩ := (ledTandem_iff s c).1 hled
    exact hother
  have hends (x : PerPort PortState) {q : Caller} (hq : q.port = cranePort c) : takeAbortLift q (s.withPorts x) =
      answer q (bare .done) { s.withPorts x with
        lifts := endedLifts s c .aborted (s.massOf l.tag) both, attn := endedAttn s c both } := by
    have hfinish := finishLift_ended (s.withPorts x) c .aborted (s.massOf l.tag) both hl hpartner
    have hmass : (s.withPorts x).liftMass c = s.massOf l.tag := liftMass_eq (s := s.withPorts x) hl
    rcases hstate with hjoining | hgranted
    · have halone : ¬ both := fun h => nomatch hjoining.symm.trans (hboth.1 h).1
      rw [if_neg halone] at hfinish
      rw [takeAbortLift_own (s := s.withPorts x) hq hjoining hrole, abortByState]
      rw [hmass, hfinish]
      rfl
    · have hled : (s.withPorts x).ledTandem c = true ↔ both := (hboth.trans (and_iff_right hgranted)).symm
      rw [takeAbortLift_own (s := s.withPorts x) hq hgranted hrole, abortByState]
      rw [hmass, crew_eq, if_congr hled rfl rfl, hfinish]
      rfl
  refine exec_crane_served (r := .abortLift) rfl hs rfl rfl rfl ((hends _ rfl).trans ?_)
  exact answer_opened { s with lifts := endedLifts s c .aborted (s.massOf l.tag) both, attn := endedAttn s c both } s
    (cranePort c) .abortLift tag _

/-! ### COLLECT OUTCOME and READ LIFT (R125, R146) -/

/-- Only a record in DONE has an outcome to collect. -/
theorem outcomeOf_none {s : State} {c : Crane} (h : (s.record c).state ≠ .done) : outcomeOf s c = none := by
  unfold outcomeOf
  split
  · next hdone _ _ _ => exact absurd hdone h
  · rfl

theorem outcomeOf_done {s : State} {c : Crane} {l : Lift} {o : OutcomeCode} {e : Ended} (hstate : (s.record c).state = .done)
    (hl : (s.record c).lift = some l) (ho : (s.record c).outcome = some o) (he : s.lifts.ended.get c = some e) :
    outcomeOf s c = some ⟨l.tag, e.mass, l.role, o, e.final, l.dest, (s.record c).report⟩ := by
  unfold outcomeOf
  rw [hstate, hl, ho, he]

/-- COLLECT OUTCOME from a port whose record is not in DONE (R146). -/
theorem exec_collectOutcome_none {c : Crane} {tag : Byte} {s : State} (hs : Serving s (cranePort c))
    (h : (s.record c).state ≠ .done) : exec (.collectOutcome (cranePort c) tag) s =
      answersOnly s (cranePort c) .collectOutcome tag ⟨.nothingPending, .statusOnly⟩ := by
  refine exec_crane_answered (r := .collectOutcome) rfl hs rfl rfl fun q x hq => ?_
  have hnone : outcomeOf (s.withPorts x) c = none := outcomeOf_none h
  simp only [serve, takeCollectOutcome, hq, craneOf_cranePort, hnone]
  rfl

/-- What the return of a record to IDLE does: its check report alone is kept (R124). -/
theorem returnIdle_eq (c : Crane) (s : State) : returnIdle c s = { s with
    lifts := ⟨s.lifts.records.set c (idleRecord (s.record c)), s.lifts.ended.set c none, s.lifts.waiting.set c none⟩ } := rfl

/-- COLLECT OUTCOME from a port whose record is in DONE: its outcome record, and the record back in IDLE (R124, R146). -/
theorem exec_collectOutcome_done {c : Crane} {tag : Byte} {s : State} {o : OutcomeRecord} (hs : Serving s (cranePort c))
    (h : outcomeOf s c = some o) : exec (.collectOutcome (cranePort c) tag) s = .next { s with
      lifts := ⟨s.lifts.records.set c (idleRecord (s.record c)), s.lifts.ended.set c none, s.lifts.waiting.set c none⟩
      attn := s.attn.modify (cranePort c) (AttnPort.remove .outcomeReady)
      ports := answeredPorts s (cranePort c) .collectOutcome tag ⟨.done, .layout (outcomeBytes o)⟩ } := by
  have hcollect (x : PerPort PortState) {q : Caller} (hq : q.port = cranePort c) : takeCollectOutcome q (s.withPorts x) =
      answer q ⟨.done, .layout (outcomeBytes o)⟩ (removeAt (cranePort c) .outcomeReady (returnIdle c (s.withPorts x))) := by
    have hsome : outcomeOf (s.withPorts x) c = some o := h
    simp only [takeCollectOutcome, hq, craneOf_cranePort, hsome]
  refine exec_crane_served (r := .collectOutcome) rfl hs rfl rfl rfl ((hcollect _ rfl).trans ?_)
  rw [returnIdle_eq]
  exact answer_opened { s with
      lifts := ⟨s.lifts.records.set c (idleRecord (s.record c)), s.lifts.ended.set c none, s.lifts.waiting.set c none⟩
      attn := s.attn.modify (cranePort c) (AttnPort.remove .outcomeReady) } s (cranePort c) .collectOutcome tag _

/-! ### The bytes of an outcome record (section 8.7) -/

/-- The flags byte of a case of a check report. -/
theorem caseFlagByte_eq (f : FigureFlags) : caseFlagByte f = byteOf ((if f.offLow = true then 64 else 0) +
    (if f.offHigh = true then 32 else 0) + (if f.trimSaturated = true then 16 else 0) + (if f.negativeGm = true then 8 else 0)) := by
  unfold caseFlagByte figureFlagBits
  simp only [List.cons_append, List.nil_append]
  rw [flagByte_eight]
  simp

/-- The stale byte of a check report. -/
theorem flagByte_stale (b : Bool) :
    flagByte [b, false, false, false, false, false, false, false] = byteOf (if b = true then 128 else 0) := by
  rw [flagByte_eight]
  simp

/-- The number of a case of a check report. -/
def caseByte : CheckCase → Byte
  | .path => 1
  | .final => 2

/-- The bytes of a check report that is present. -/
theorem reportBytes_some (r : CheckReport) {failure : List Byte}
    (h : r.failure.elim ([0, 0, 0xFF, 0, 0, 0, 0] : List Byte)
      (fun x => 1 :: caseByte x.1 :: byteOf x.2.1 :: bytes4 x.2.2) = failure) :
    reportBytes (some r) = [1] ++ failure ++ bytes4 (r.version.toNat : Int) ++
      [byteOf (if r.stale = true then 128 else 0), caseFlagByte r.pathFlags, caseFlagByte r.finalFlags] ++
      bytes2 r.pathHeel ++ bytes2 r.finalHeel := by
  subst h
  unfold reportBytes versionBytes
  dsimp only
  rw [flagByte_stale]
  rcases r.failure with _ | ⟨_ | _, _, _⟩ <;> rfl

/-- What COLLECT OUTCOME lays out, from its fields as bytes (section 8.7). -/
theorem outcomeBytes_eq {o : OutcomeRecord} {role outcome : Byte} {final dest report : List Byte}
    (hrole : liftRoleByte o.role = role) (houtcome : outcomeByte o.outcome = outcome)
    (hfinal : goalForm o.final :: goalBytes o.final = final) (hdest : goalForm o.dest :: goalBytes o.dest = dest)
    (hreport : reportBytes o.report = report) :
    outcomeBytes o = bytes2 o.tag ++ bytes2 o.mass ++ ([role, outcome] : List Byte) ++ final ++ dest ++ report := by
  subst hrole houtcome hfinal hdest hreport
  simp [outcomeBytes]

theorem length_goalBytes (g : Goal) : (goalBytes g).length = 11 := by cases g <;> rfl

theorem length_reportBytes (r : Option CheckReport) : (reportBytes r).length = 19 := by
  rcases r with _ | ⟨_ | ⟨_ | _, _, _⟩, _, _, _, _, _, _⟩ <;> rfl

theorem length_outcomeBytes (o : OutcomeRecord) : (outcomeBytes o).length = 49 := by
  simp [outcomeBytes, length_goalBytes, length_reportBytes, bytes2]

/-- Settles O49: ABORT LIFT by the state of the record, the two reads, and the bytes of an outcome record. -/
theorem abortAndCollectByState : Obligations.AbortAndCollectByState := by
  refine ⟨fun c tag s hs => ?abort, fun tag s => ⟨fun c => exec_collectOutcome_none, fun c l o e hs hstate hl ho he => ?_,
    fun p c hs => ?_, fun p hs => ?_⟩, fun o => ?bytes⟩
  case abort =>
    intro p r run no partner x both
    have hrefused {st : Status} (h : ∀ q y, q.port = cranePort c → takeAbortLift q (s.withPorts y) =
        answer q (bare st) (s.withPorts y)) : run = no st := exec_crane_answered (r := .abortLift) rfl hs rfl rfl h
    refine ⟨fun hidle => hrefused fun q y hq => takeAbortLift_idle (s := s.withPorts y) hq hidle,
      fun hidle hpartner => hrefused fun q y hq => takeAbortLift_partner (s := s.withPorts y) hq hidle hpartner,
      fun hstate hrole => hrefused fun q y hq => takeAbortLift_own (s := s.withPorts y) hq hstate hrole,
      fun hstate hrole => hrefused fun q y hq => takeAbortLift_own (s := s.withPorts y) hq hstate hrole,
      fun hstate hrole => hrefused fun q y hq => takeAbortLift_own (s := s.withPorts y) hq hstate hrole,
      fun l hstate hrole hl => ?ended⟩
    case ended =>
      have hboth : both ↔ r.state = .granted ∧ s.ledTandem c = true := by
        rw [ledTandem_iff]
        exact and_congr_right fun hgranted => and_congr_right fun _ => and_congr_right fun _ => by rw [hgranted]
      refine ⟨_, exec_abortLift_ended hs hstate hrole hl hboth, rfl, endedLifts_waiting .., fun d k hd hk =>
        endedLifts_finished s c _ _ _ hd hk, endedLifts_apart s c _ _ _, rfl, fun e y => ?_⟩
      refine (mem_endedAttn s c both e y).trans ?_
      rw [← endedLifts_silent s c .aborted (s.massOf l.tag) both]
      rfl
  case bytes =>
    intro form bit flags
    have hform (g : Goal) : goalForm g :: goalBytes g = form g := by cases g <;> rfl
    refine ⟨outcomeBytes_eq ?role ?outcome (hform _) (hform _) ?report, length_outcomeBytes o⟩
    case role => cases o.role <;> rfl
    case outcome => cases o.outcome <;> rfl
    case report =>
      cases o.report with
      | none => rfl
      | some r =>
        refine (reportBytes_some r ?_).trans (by rw [caseFlagByte_eq, caseFlagByte_eq])
        rcases r.failure with _ | ⟨_ | _, _, _⟩ <;> rfl
  · exact exec_collectOutcome_done hs (outcomeOf_done hstate hl ho he)
  · exact exec_read (r := .readLift (some c)) rfl hs (fun _ => rfl) rfl fun q t hcond _ hlifts _ => by
      unfold serve takeReadLift State.record
      rw [hcond, hlifts]
  · exact exec_read (r := .readLift none) rfl hs (fun _ => rfl) rfl fun q t _ _ _ _ => rfl

end Sys2Proof.Machine
end

section
/-!
SUPPORT. The expiries of the three lift timers (R131, R136, R140).
-/

namespace Sys2Proof.Machine
open Sys2Proof

/-- Which timer of a record runs. -/
theorem timerKind_eq_some_iff (r : LiftRecord) (k : TimerKind) : timerKind r = some k ↔ ∃ n, r.timer = some ⟨k, n⟩ := by
  unfold timerKind
  rcases r.timer with _ | ⟨kind, n⟩ <;> simp

section
variable {c : Crane} {s : State} {l : Lift}

/-- The join window of a lead in JOINING expires: the lift ends at its origin and the deferred reply is sent (R131, R183). -/
theorem joinWindowExpires_joining {q : Caller} (hstate : (s.record c).state = .joining)
    (hruns : timerKind (s.record c) = some .joinWindow) (hl : (s.record c).lift = some l)
    (hq : s.lifts.waiting.get c = some q) : joinWindowExpires c s = { s with
      lifts := ⟨s.lifts.records.set c (finishedRecord .joinLapsed (s.record c)),
        s.lifts.ended.set c (some ⟨s.massOf l.tag, l.origin⟩), s.lifts.waiting.set c none⟩
      attn := (
        let raised := s.attn.modify (cranePort c) (AttnPort.raise .outcomeReady)
        if (s.record c).silent = true ∧ (s.record (otherCrane c)).silent = false then
          raised.map (AttnPort.remove .silentLift) else raised)
      ports := if (s.ports.get q.port).deferred = some q then s.ports.modify q.port (fun z => { z with
          deferred := none, tx := z.tx ++ [⟨⟨replyKind q.kind, q.tag, ⟨.joinLapsed, .statusOnly⟩⟩, some q.mark⟩] })
        else s.ports } := by
  unfold joinWindowExpires
  rw [if_pos ⟨hstate, hruns⟩]
  dsimp only
  rw [hq, liftMass_eq hl, finishLift_single .joinLapsed none (s.massOf l.tag) hl, deliverTo, deliver_eq]
  by_cases hmarked : (s.ports.get q.port).deferred = some q
  · rw [if_pos hmarked]
    exact if_pos hmarked
  · rw [if_neg hmarked]
    exact if_neg hmarked

/-- The grant lapse timer of a GRANTED record expires: the lift ends at its origin, a tandem partner's with it (R132, R136). -/
theorem grantLapses_granted {both : Prop} [Decidable both] (hstate : (s.record c).state = .granted)
    (hruns : timerKind (s.record c) = some .grantLapse) (hl : (s.record c).lift = some l)
    (hboth : s.ledTandem c = true ↔ both) : grantLapses c s = { s with
      lifts := endedLifts s c .grantLapsed (s.massOf l.tag) both, attn := endedAttn s c both } := by
  have hpartner (h : both) : liftRole (s.record (otherCrane c)) = some .partner := by
    obtain ⟨-, hother, -⟩ := (ledTandem_iff s c).1 (hboth.2 h)
    exact hother
  unfold grantLapses
  rw [if_pos ⟨hstate, hruns⟩, liftMass_eq hl, crew_eq, if_congr hboth rfl rfl, finishLift_ended s c _ _ both hl hpartner]

end

/-- Settles O50: each of the three expiries without its running timer, and with it. -/
theorem liftTimersExpire : Obligations.LiftTimersExpire := by
  intro c s r x runs ended both
  have hruns (k : TimerKind) : timerKind r = some k ↔ runs k := timerKind_eq_some_iff r k
  have hquiet {st : LiftState} {k : TimerKind} (h : ¬ (r.state = st ∧ runs k)) (t : State) :
      (if r.state = st ∧ timerKind r = some k then t else s) = s :=
    if_neg fun ⟨hstate, htimer⟩ => h ⟨hstate, (hruns k).1 htimer⟩
  refine ⟨fun h => congrArg Host.Outcome.next (hquiet h _), fun h => congrArg Host.Outcome.next (hquiet h _),
    fun h => congrArg Host.Outcome.next (hquiet h _), fun l q hstate htimer hl hq => ?_, fun l hstate htimer hl => ?_,
    fun hstate htimer => ?_⟩
  · exact congrArg Host.Outcome.next (joinWindowExpires_joining hstate ((hruns _).2 htimer) hl hq)
  · have hboth : s.ledTandem c = true ↔ both := by
      rw [ledTandem_iff, show (s.record c).state = .granted from hstate]
    refine ⟨_, congrArg Host.Outcome.next (grantLapses_granted hstate ((hruns _).2 htimer) hl hboth), rfl,
      endedLifts_waiting .., (endedLifts_finished s c _ _ both (.inl rfl) hl).1, (endedLifts_finished s c _ _ both (.inl rfl) hl).2,
      fun k h hk => endedLifts_finished s c _ _ both (.inr ⟨rfl, h⟩) hk, endedLifts_apart s c _ _ both, rfl, fun e y => ?_⟩
    refine (mem_endedAttn s c both e y).trans ?_
    rw [← endedLifts_silent s c .grantLapsed (s.massOf l.tag) both]
    rfl
  · exact congrArg Host.Outcome.next (if_pos ⟨hstate, (hruns _).2 htimer⟩)

end Sys2Proof.Machine
end

section
/-!
SUPPORT. Lift check completion (R133 to R135): the report, what the end of the check does to each record that it judges, and
what it leaves.
-/

namespace Sys2Proof.Machine
open Sys2Proof

/-! ### The three ways in which a completion ends -/

theorem liftCompletes_none {s : State} (h : ∀ v c x y, s.eval.engine ≠ some ⟨.computing, v, .lift c x y⟩) :
    liftCompletes s = .next s := by
  unfold liftCompletes
  split
  · next hengine => exact (h _ _ _ _ hengine).elim
  · rfl

section
variable {s : State} {v : Version} {lead : Crane} {x y : Capture}

theorem liftCompletes_faults (hengine : s.eval.engine = some ⟨.computing, v, .lift lead x y⟩)
    (hf : figureSet s.ship.image x = none ∨ figureSet s.ship.image y = none) :
    liftCompletes s = .fault .divisorNotPositive := by
  unfold liftCompletes
  rw [hengine]
  dsimp only
  split
  · next hx hy => exact (hf.elim (nomatch hx.symm.trans ·) (nomatch hy.symm.trans ·))
  · rfl

theorem liftCompletes_decides {path final : FigureSet} (hengine : s.eval.engine = some ⟨.computing, v, .lift lead x y⟩)
    (hx : figureSet s.ship.image x = some path) (hy : figureSet s.ship.image y = some final) :
    liftCompletes s = .next (arbitrate s.eval (completeLift lead v path final s)) := by
  unfold liftCompletes
  rw [hengine]
  dsimp only
  rw [hx, hy]

end

/-! ### The records at the end of a check -/

/-- A port after a reply for the request that waits on its record: sent where the port's entry still marks it (R183). -/
def toldPort (w : Option Caller) (a : Answer) (z : PortState) : PortState :=
  match w with
  | none => z
  | some q =>
    if z.deferred = some q then
      { z with deferred := none, tx := z.tx ++ [⟨⟨replyKind q.kind, q.tag, a⟩, some q.mark⟩] }
    else z

theorem toldPort_sent {q : Caller} {z : PortState} (h : z.deferred = some q) (a : Answer) : toldPort (some q) a z =
    { z with deferred := none, tx := z.tx ++ [⟨⟨replyKind q.kind, q.tag, a⟩, some q.mark⟩] } := if_pos h

theorem toldPort_unsent {w : Option Caller} {z : PortState} (h : w = none ∨ z.deferred ≠ w) (a : Answer) : toldPort w a z = z := by
  cases w with
  | none => rfl
  | some q => exact if_neg (h.resolve_left nofun)

/-- Handing on the reply that waits on a crane's record touches its own port alone. -/
theorem deliverTo_crane {w : Option Caller} {c : Crane} (h : ∀ q, w = some q → q.port = cranePort c) (a : Answer) (s : State) :
    deliverTo w a s = s.withPorts (s.ports.modify (cranePort c) (toldPort w a)) := by
  cases w with
  | none =>
    show s = s.withPorts (s.ports.set (cranePort c) (s.ports.get (cranePort c)))
    rw [PerPort.set_get]
    rfl
  | some q =>
    obtain ⟨p, k, t, m⟩ := q
    obtain rfl : p = cranePort c := h _ rfl
    rw [deliverTo, deliver_eq]
    split
    · next hmarked => rw [PerPort.modify, PerPort.modify, toldPort_sent hmarked]; rfl
    · next hlost => rw [PerPort.modify, toldPort_unsent (.inr hlost), PerPort.set_get]; rfl

/-- The end of the check of a CHECKING record: the record is judged, and its reply is sent (R134, R135). -/
theorem settleCheck_checking {s : State} {c : Crane} (hstate : (s.record c).state = .checking)
    (hport : ∀ q, s.lifts.waiting.get c = some q → q.port = cranePort c) (lead : Crane) (r : CheckReport) :
    settleCheck lead r s c = { s with
      lifts := { s.lifts with records := s.lifts.records.set c (judgedRecord s lead r c), waiting := s.lifts.waiting.set c none }
      ports := s.ports.modify (cranePort c) (toldPort (s.lifts.waiting.get c) (checkAnswer r)) } := by
  unfold settleCheck
  rw [if_pos hstate, deliverTo_crane hport]
  rfl

/-- What the end of a check has done between two states, for the records that it judged. -/
structure CheckSettled (lead : Crane) (r : CheckReport) (judged : List Crane) (s t : State) : Prop where
  frame : t = { s with lifts := t.lifts, ports := t.ports }
  ended : t.lifts.ended = s.lifts.ended
  within : ∀ c ∈ judged, t.record c = judgedRecord s lead r c ∧ t.lifts.waiting.get c = none ∧
    t.ports.get (cranePort c) = toldPort (s.lifts.waiting.get c) (checkAnswer r) (s.ports.get (cranePort c))
  apart : ∀ c, c ∉ judged → t.record c = s.record c ∧ t.lifts.waiting.get c = s.lifts.waiting.get c ∧
    t.ports.get (cranePort c) = s.ports.get (cranePort c)
  planning : t.ports.p = s.ports.p
  ballast : t.ports.b = s.ports.b

/-- One record's check ends. -/
theorem checkSettled_one {s : State} {c : Crane} (hstate : (s.record c).state = .checking)
    (hport : ∀ q, s.lifts.waiting.get c = some q → q.port = cranePort c) (lead : Crane) (r : CheckReport) :
    CheckSettled lead r [c] s (settleCheck lead r s c) := by
  rw [settleCheck_checking hstate hport]
  refine ⟨rfl, rfl, fun d hd => ?_, fun d hd => ?_, ?_, ?_⟩
  · obtain rfl := List.mem_singleton.1 hd
    exact ⟨PerCrane.get_set_same .., PerCrane.get_set_same .., PerPort.get_modify_same ..⟩
  · have hne : d ≠ c := fun h => hd (List.mem_singleton.2 h)
    exact ⟨PerCrane.get_set_other _ _ _ _ hne, PerCrane.get_set_other _ _ _ _ hne,
      PerPort.get_modify_other _ _ _ _ (mt cranePort_inj.1 hne)⟩
  · cases c <;> rfl
  · cases c <;> rfl

/-- With no failing slot a record is GRANTED with the report, and the lead's grant lapse timer starts (R134). -/
theorem judgedRecord_granted {r : CheckReport} (h : r.failure = none) (s : State) (lead c : Crane) : judgedRecord s lead r c =
    { s.record c with
      state := .granted, report := some r, timer := if c = lead then some (freshTimer s .grantLapse) else none } :=
  if_pos (by rw [h]; rfl)

/-- With a failing slot a record is IDLE with the report kept (R135). -/
theorem judgedRecord_refused {r : CheckReport} (h : r.failure ≠ none) (s : State) (lead c : Crane) : judgedRecord s lead r c =
    ⟨.idle, none, none, false, some r, none⟩ := if_neg (by simpa using h)

/-- The record at the end of a check rests on the record before it and on the timers of the image. -/
theorem judgedRecord_congr {s t : State} {c : Crane} (hrecord : t.record c = s.record c) (hship : t.ship = s.ship)
    (lead : Crane) (r : CheckReport) : judgedRecord t lead r c = judgedRecord s lead r c := by
  unfold judgedRecord freshTimer
  rw [hrecord, hship]

/-- The checks of two disjoint crews end one after the other as together. -/
theorem CheckSettled.append {lead : Crane} {r : CheckReport} {cs ds : List Crane} {s t u : State}
    (h : CheckSettled lead r cs s t) (k : CheckSettled lead r ds t u) (hdisjoint : cs.Disjoint ds) :
    CheckSettled lead r (cs ++ ds) s u where
  frame := by rw [k.frame, h.frame]
  ended := k.ended.trans h.ended
  within c hc := by
    rcases List.mem_append.1 hc with hc | hc
    · obtain ⟨hrecord, hwaiting, hport⟩ := k.apart c (hdisjoint hc)
      rw [hrecord, hwaiting, hport]
      exact h.within c hc
    · obtain ⟨hrecord, hwaiting, hport⟩ := h.apart c fun hcs => hdisjoint hcs hc
      rw [← judgedRecord_congr hrecord (by rw [h.frame]), ← hwaiting, ← hport]
      exact k.within c hc
  apart c hc := by
    obtain ⟨hcs, hds⟩ := not_or.1 (mt List.mem_append.2 hc)
    obtain ⟨hrecord, hwaiting, hport⟩ := k.apart c hds
    rw [hrecord, hwaiting, hport]
    exact h.apart c hcs
  planning := k.planning.trans h.planning
  ballast := k.ballast.trans h.ballast

/-- The checks of different records end one after the other as together. -/
theorem checkSettled_foldl (lead : Crane) (r : CheckReport) (cs : List Crane) {s : State} (hnodup : cs.Nodup)
    (hstate : ∀ c ∈ cs, (s.record c).state = .checking)
    (hport : ∀ c q, s.lifts.waiting.get c = some q → q.port = cranePort c) :
    CheckSettled lead r cs s (cs.foldl (settleCheck lead r) s) := by
  induction cs generalizing s with
  | nil => exact ⟨rfl, rfl, nofun, fun _ _ => ⟨rfl, rfl, rfl⟩, rfl, rfl⟩
  | cons c cs ih =>
    obtain ⟨hfresh, hrest⟩ := List.nodup_cons.1 hnodup
    have hfirst := checkSettled_one (hstate c List.mem_cons_self) (hport c) lead r
    have hapart {d : Crane} (hd : d ≠ c) := hfirst.apart d (fun h => hd (List.mem_singleton.1 h))
    refine hfirst.append (ih hrest (fun d hd => ?_) (fun d q hq => ?_)) (List.singleton_disjoint.2 hfresh)
    · obtain ⟨hrecord, -, -⟩ := hapart (d := d) fun h => hfresh (h ▸ hd)
      rw [hrecord]
      exact hstate d (List.mem_cons_of_mem c hd)
    · by_cases hdc : d = c
      · subst hdc
        obtain ⟨-, hwaiting, -⟩ := hfirst.within d List.mem_cons_self
        exact nomatch hwaiting.symm.trans hq
      · obtain ⟨-, hwaiting, -⟩ := hapart hdc
        exact hport d q (hwaiting ▸ hq)

/-! ### The completion (R134, R135) -/

/-- The path case is named first, and within a case its lowest failing slot (R135). -/
theorem checkFailure_eq (m : Monitor) (path final : FigureSet) : checkFailure m path final =
    (match firstFail 0 (plainCompare m .lp path), firstFail 0 (plainCompare m .lf final) with
      | some z, _ => some (.path, z.1, z.2)
      | none, some z => some (.final, z.1, z.2)
      | none, none => none) := by
  unfold checkFailure
  cases firstFail 0 (plainCompare m .lp path) <;> cases firstFail 0 (plainCompare m .lf final) <;> rfl

theorem eq_otherCrane {c d : Crane} (h : c ≠ d) : c = otherCrane d := by
  revert h
  cases c <;> cases d <;> decide

/-- The records that a check judges: the lead's, and that of a tandem partner CHECKING beside it (R132). -/
theorem mem_crew_checking {s : State} {lead : Crane} (h : (s.record lead).state = .checking) (c : Crane) :
    c ∈ s.crew lead ↔ c = lead ∨ (liftRole (s.record lead) = some .lead ∧ liftRole (s.record c) = some .partner ∧
      (s.record c).state = .checking) := by
  have hled := ledTandem_iff s lead
  rw [h] at hled
  rw [crew_eq]
  by_cases hc : c = lead
  · subst hc
    split <;> simp
  · obtain rfl := eq_otherCrane hc
    rw [← hled]
    split <;> simp_all

/-- A completion ends the checks of the crew and frees the engine. -/
theorem completeLift_settled {s : State} {lead : Crane} (hstate : (s.record lead).state = .checking)
    (hport : ∀ c q, s.lifts.waiting.get c = some q → q.port = cranePort c) (v : Version) (path final : FigureSet) :
    ∃ t, CheckSettled lead (checkReport s v path final) (s.crew lead) s t ∧
      completeLift lead v path final s = t.withEval { s.eval with engine := none } := by
  have hnodup : (s.crew lead).Nodup := by
    rw [crew_eq]
    split <;> simp [(otherCrane_ne lead).symm]
  have hchecking (c : Crane) (hc : c ∈ s.crew lead) : (s.record c).state = .checking := by
    obtain rfl | ⟨-, -, h⟩ := (mem_crew_checking hstate c).1 hc
    · exact hstate
    · exact h
  have hsettled := checkSettled_foldl lead (checkReport s v path final) (s.crew lead) hnodup hchecking hport
  refine ⟨_, hsettled, ?_⟩
  unfold completeLift
  dsimp only
  rw [congrArg State.eval hsettled.frame]

/-- Settles O36: the completion with no lift check, with a figure set missing, and with a check, whose records are those of the
crew. -/
theorem liftCheckDecides : Obligations.LiftCheckDecides := by
  intro s
  have hexec : exec .liftCheckCompletion s = liftCompletes s := rfl
  rw [hexec]
  refine ⟨liftCompletes_none, fun v c x y => liftCompletes_faults, fun v lead x y path final hengine hx hy hstate hport => ?_⟩
  intro failure r judged lapse
  have hfailure : checkFailure s.mon path final = failure := checkFailure_eq s.mon path final
  have hreport : checkReport s v path final = r := congrArg (fun f => (⟨f, v, decide (s.cond.version ≠ v), path.flags,
    final.flags, path.stab.heel, final.stab.heel⟩ : CheckReport)) hfailure
  have hjudged (c : Crane) : c ∈ s.crew lead ↔ judged c := mem_crew_checking hstate c
  obtain ⟨t, hsettled, hcomplete⟩ := completeLift_settled hstate hport v path final
  rw [hreport] at hsettled
  have hframe := hsettled.frame
  refine ⟨_, liftCompletes_decides hengine hx hy, ?_⟩
  rw [hcomplete]
  refine ⟨by rw [hframe]; rfl, hsettled.ended, fun c hc => ?_, fun c hc => ?_, hsettled.planning, hsettled.ballast,
    fun c q hc hq hmarked => ?_, fun c hc => ?_⟩
  · obtain ⟨hrecord, hwaiting, -⟩ := hsettled.within c ((hjudged c).2 hc)
    exact ⟨hwaiting, fun hnone => hrecord.trans (judgedRecord_granted hnone s lead c),
      fun hsome => hrecord.trans (judgedRecord_refused hsome s lead c)⟩
  · obtain ⟨hrecord, hwaiting, -⟩ := hsettled.apart c (mt (hjudged c).1 hc)
    exact ⟨hrecord, hwaiting⟩
  · obtain ⟨-, -, htold⟩ := hsettled.within c ((hjudged c).2 hc)
    refine htold.trans ?_
    rw [hq, toldPort_sent hmarked, checkAnswer]
    simp only [Option.isNone_iff_eq_none]
    rfl
  · by_cases hin : c ∈ s.crew lead
    · obtain ⟨-, -, htold⟩ := hsettled.within c hin
      exact htold.trans (toldPort_unsent (hc.resolve_left (not_not_intro ((hjudged c).1 hin))) _)
    · obtain ⟨-, -, hport⟩ := hsettled.apart c hin
      exact hport

end Sys2Proof.Machine
end

section
/-!
SUPPORT. SOUNDINGS (R151, R152): what its pairs do to the counts and the fills, and the two ways in which it is applied.
-/

namespace Sys2Proof.Machine
open Sys2Proof

/-! ### The pairs of a SOUNDINGS (R152) -/

/-- The pairs that name a TANK. -/
def tankPairs (img : Image) (pairs : List (Nat × Nat)) : List (Nat × Nat) := pairs.filter (fun x => img.isTank x.1)

/-- The pairs that a SOUNDINGS skips. -/
def skippedPairs (img : Image) (pairs : List (Nat × Nat)) : List (Nat × Nat) := pairs.filter (fun x => !img.isTank x.1)

/-- The fills after pairs that all name a TANK, one after another. -/
def soundedFills (fills : Table Nat) (pairs : List (Nat × Nat)) : Table Nat :=
  pairs.foldl (fun t x => t.store 0 x.1 (min x.2 1000)) fills

/-- The pairs that name a TANK decide the fills and two of the counts, the others the number skipped and the first of them. -/
theorem foldl_soundPair_eq (img : Image) (pairs : List (Nat × Nat)) (q : Sounded) :
    pairs.foldl (soundPair img) q =
      { fills := soundedFills q.fills (tankPairs img pairs)
        applied := q.applied + (tankPairs img pairs).length
        clamped := q.clamped + ((tankPairs img pairs).filter (fun x => decide (1000 < x.2))).length
        skipped := q.skipped + (skippedPairs img pairs).length
        first := q.first.or ((skippedPairs img pairs).head?.map Prod.fst) } := by
  induction pairs generalizing q with
  | nil => simp [tankPairs, skippedPairs, soundedFills]
  | cons x pairs ih =>
    rw [List.foldl_cons, ih]
    by_cases htank : img.isTank x.1 = true
    · by_cases hfill : 1000 < x.2 <;>
        simp [tankPairs, skippedPairs, soundedFills, soundPair, htank, hfill, Nat.add_assoc, Nat.add_comm 1]
    · simp [tankPairs, skippedPairs, soundedFills, soundPair, htank, Nat.add_assoc, Nat.add_comm 1]

/-- Later pairs stand over earlier ones, so the last pair of a tank is its fill. -/
theorem value_soundedFills (fills : Table Nat) (pairs : List (Nat × Nat)) (n : Nat) :
    (soundedFills fills pairs).value 0 n =
      (pairs.reverse.find? (fun x => x.1 == n)).elim (fills.value 0 n) (fun x => min x.2 1000) := by
  induction pairs using List.reverseRecOn with
  | nil => rfl
  | append_singleton pairs x ih =>
    have hlast : soundedFills fills (pairs ++ [x]) = (soundedFills fills pairs).store 0 x.1 (min x.2 1000) := by
      simp [soundedFills]
    rw [hlast, Table.value_store, ih, List.reverse_concat, List.find?_cons]
    by_cases hkey : n = x.1
    · rw [if_pos hkey, beq_iff_eq.2 hkey.symm]
      rfl
    · rw [if_neg hkey, beq_false_of_ne (Ne.symm hkey)]

/-! ### SOUNDINGS (R151, R152) -/

/-- SOUNDINGS is malformed with no pair and with more than 12 (R151). -/
theorem soundingsMalformed_iff (pairs : List (Nat × Nat)) :
    changeMalformed (.soundings pairs) = true ↔ pairs = [] ∨ 12 < pairs.length := by
  simp [changeMalformed, show Config.maxPairs = 12 from rfl]

/-- With no pair that names a TANK nothing changes. -/
theorem applySoundings_none {pairs : List (Nat × Nat)} {s : State} (h : tankPairs s.ship.image pairs = []) :
    applySoundings pairs s = (s, ⟨.badArgument, .soundings 0 0 (skippedPairs s.ship.image pairs).length
      ((skippedPairs s.ship.image pairs).head?.map Prod.fst) s.cond.version⟩) := by
  simp [applySoundings, foldl_soundPair_eq, h]

/-- With a pair that names a TANK the fills change and the version advances. -/
theorem applySoundings_some {pairs : List (Nat × Nat)} {s : State} (h : tankPairs s.ship.image pairs ≠ []) :
    applySoundings pairs s =
      ({ s with
        tanks := { s.tanks with fills := soundedFills s.tanks.fills (tankPairs s.ship.image pairs) }
        cond := { s.cond with version := s.cond.version + 1 }
        eval := routineRaised s },
       ⟨if ((tankPairs s.ship.image pairs).filter (fun x => decide (1000 < x.2))).length = 0 then .done else .clamped,
        .soundings (tankPairs s.ship.image pairs).length
          ((tankPairs s.ship.image pairs).filter (fun x => decide (1000 < x.2))).length
          (skippedPairs s.ship.image pairs).length ((skippedPairs s.ship.image pairs).head?.map Prod.fst)
          (s.cond.version + 1)⟩) := by
  have happlied : ¬ (tankPairs s.ship.image pairs).length = 0 := mt List.length_eq_zero_iff.1 h
  unfold applySoundings
  simp only [foldl_soundPair_eq, Nat.zero_add, Option.none_or, if_neg happlied, advance_eq]
  rfl

/-- Settles O25: the form, the two ways in which the pairs are applied, and each fill by the last pair of its tank. -/
theorem soundingsFillTanks : Obligations.SoundingsFillTanks := by
  intro tag pairs s hs img hits missed above first run
  have hhits : hits = tankPairs img pairs := rfl
  have hform (hne : pairs ≠ []) (hlen : pairs.length ≤ 12) : changeMalformed (.soundings pairs) = false :=
    Bool.eq_false_iff.2 fun h => ((soundingsMalformed_iff pairs).1 h).elim hne (by omega)
  refine ⟨fun hbad => exec_change_malformed (ch := .soundings pairs) rfl hs rfl ((soundingsMalformed_iff pairs).2 hbad),
    fun hcap hne hlen hnone => exec_change_unchanged (ch := .soundings pairs) rfl ⟨hs, hcap⟩ rfl (hform hne hlen)
      (applySoundings_none hnone), fun hcap hlen hsome => ?_⟩
  have hne : pairs ≠ [] := by
    rintro rfl
    exact hsome rfl
  have happly : applyChange .portB (.soundings pairs) (changeArrives .portB (.soundings pairs) s) = _ :=
    applySoundings_some hsome
  refine ⟨_, (exec_change_applied (ch := .soundings pairs) rfl ⟨hs, hcap⟩ rfl (hform hne hlen)).trans (by rw [happly]), rfl,
    fun n => ?_⟩
  refine (value_soundedFills s.tanks.fills hits n).trans ?_
  cases hits.reverse.find? (fun x => x.1 == n) <;> rfl

end Sys2Proof.Machine
end

section
/-!
SUPPORT. The draft reading, its freshness limit and the zero set from it (R155 to R157, R161, R162).
-/

namespace Sys2Proof.Machine
open Sys2Proof

/-! ### A request whose block answers it at once -/

/-- IN SERVICE a request that its block answers at once, leaving the ports and the evaluation unit, has the block's effect
and the answer. -/
theorem exec_answeredAs {i : Instr} {p : Port} {tag : Byte} {r : Request} {s u : State} {a : Answer}
    (hi : requestRow i = some (p, tag, r)) (hs : Serving s p) (hr : roleAllows r.kind (portRole p) = true)
    (hm : modeAnswer .inService r.kind = none) (heval : u.eval = s.eval)
    (ha : ∀ q x, serve r q (s.withPorts x) = answer q a (u.withPorts x)) :
    exec i s = .next { u with ports := answeredPorts s p r.kind tag a } := by
  have hserve := ha (nextCaller s p (kindByte r.kind) tag) (openRequest (nextCaller s p (kindByte r.kind) tag) s).ports
  rw [answer_opened] at hserve
  rw [exec_serving hi hs hr hm]
  refine congrArg Host.Outcome.next ((congrArg (arbitrate s.eval) hserve).trans ?_)
  rw [← heval]
  exact arbitrate_quiet { u with ports := answeredPorts s p r.kind tag a }

/-! ### The fresh reading (R156) -/

/-- The fresh reading is the held one, where its age is at most the limit. -/
theorem freshReading_eq_some_iff (s : State) (d : DraftReading) :
    s.freshReading = some d ↔ s.tanks.reading = some d ∧ (d.age : Int) ≤ s.ship.image.timerLengths.freshness := by
  unfold State.freshReading
  rw [Option.filter_eq_some_iff, readingFresh, decide_eq_true_eq]
  rfl

/-- No reading is fresh where none is held whose age is at most the limit. -/
theorem freshReading_eq_none_iff (s : State) :
    s.freshReading = none ↔ ∀ d, s.tanks.reading = some d → s.ship.image.timerLengths.freshness < (d.age : Int) := by
  simp only [Option.eq_none_iff_forall_ne_some, ne_eq, freshReading_eq_some_iff, not_and, not_le]

/-- The reading that passes the limit is one second past it, and one that is not fresh stays as it is (R156, log 29). -/
theorem readingStales_fresh {s : State} {d : DraftReading} (h : s.freshReading = some d) :
    readingStales s = { s with
      tanks := { s.tanks with reading := some { d with age := s.ship.image.timerLengths.freshness.toNat + 1 } } } := by
  unfold readingStales
  rw [h]
  rfl

theorem readingStales_stale {s : State} (h : s.freshReading = none) : readingStales s = s := by
  unfold readingStales
  rw [h]

/-! ### DRAFTS and READ DRAFTS (R155, R157) -/

theorem within_eq_false_iff (lo hi v : Int) : within lo hi v = false ↔ v < lo ∨ hi < v := by
  rw [← Bool.not_eq_true, within_iff]
  omega

theorem takeDrafts_refused {aft fwd : Int} (h : aft < 0 ∨ 5000 < aft ∨ fwd < 0 ∨ 5000 < fwd) (q : Caller) (s : State) :
    takeDrafts aft fwd q s = answer q (bare .badArgument) s :=
  if_pos (by
    rw [within_eq_false_iff, within_eq_false_iff]
    omega)

theorem takeDrafts_taken {aft fwd : Int} (haft : 0 ≤ aft ∧ aft ≤ 5000) (hfwd : 0 ≤ fwd ∧ fwd ≤ 5000) (q : Caller)
    (s : State) : takeDrafts aft fwd q s = answer q ⟨.done, .freshness s.ship.image.timerLengths.freshness⟩
      (s.withTanks { s.tanks with reading := some ⟨aft, fwd, 0⟩ }) :=
  if_neg (by
    rw [within_eq_false_iff, within_eq_false_iff]
    omega)

/-- What READ DRAFTS tells, by the held reading. -/
theorem draftReport_eq (s : State) : draftReport s =
    ⟨s.tanks.reading,
     s.tanks.reading.elim false (fun r => decide ((r.age : Int) ≤ s.ship.image.timerLengths.freshness)),
     s.ship.image.timerLengths.freshness, s.tanks.aftOffset, s.tanks.fwdOffset,
     s.tanks.reading.map (fun r => (r.aft + s.tanks.aftOffset, r.fwd + s.tanks.fwdOffset))⟩ := by
  have hfresh : s.freshReading.isSome =
      s.tanks.reading.elim false (fun r => decide ((r.age : Int) ≤ s.ship.image.timerLengths.freshness)) := by
    unfold State.freshReading
    cases s.tanks.reading with
    | none => rfl
    | some r =>
      rw [Option.isSome_filter]
      rfl
  unfold draftReport
  rw [hfresh]
  rfl

/-! ### DRAFT ZERO (R161, R162) -/

theorem anySlung_iff (s : State) : s.anySlung = true ↔ ∃ e ∈ s.cond.items, e.2.state = .slung := by
  simp only [State.anySlung, List.any_eq_true, beq_iff_eq]

section
variable {s : State} {d : DraftReading} {r : RoutineResult} (q : Caller)

theorem takeDraftZero_noReading (hfresh : s.freshReading = none) : takeDraftZero q s = answer q (bare .noReading) s := by
  unfold takeDraftZero
  rw [hfresh]

theorem takeDraftZero_noResult (hfresh : s.freshReading = some d) (hlatest : s.eval.latest = none) :
    takeDraftZero q s = answer q (bare .noResult) s := by
  unfold takeDraftZero
  rw [hfresh, hlatest]

theorem takeDraftZero_liftsActive (hfresh : s.freshReading = some d) (hlatest : s.eval.latest = some r)
    (hslung : s.anySlung = true ∨ r.slung = true) : takeDraftZero q s = answer q (bare .liftsActive) s := by
  unfold takeDraftZero
  rw [hfresh, hlatest]
  exact if_pos (Bool.or_eq_true_iff.2 hslung)

/-- The zero is set: each offset is the distance of the two drafts brought into its bounds, CLAMPED where that changed one. -/
theorem takeDraftZero_set (hfresh : s.freshReading = some d) (hlatest : s.eval.latest = some r)
    (hslung : s.anySlung = false) (hcaptured : r.slung = false) : takeDraftZero q s =
      (let a := r.figures.trim.ta - d.aft
       let f := r.figures.trim.tf - d.fwd
       answer q ⟨if bringInto (-50) 50 a = a ∧ bringInto (-50) 50 f = f then .done else .clamped,
         .zeroed (bringInto (-50) 50 a) (bringInto (-50) 50 f) r.seq r.figures.trim.ta r.figures.trim.tf d.aft d.fwd⟩
       (s.withTanks { s.tanks with aftOffset := bringInto (-50) 50 a, fwdOffset := bringInto (-50) 50 f })) := by
  unfold takeDraftZero
  rw [hfresh, hlatest]
  dsimp only
  rw [if_neg (by simp [hslung, hcaptured])]
  refine congrArg (fun st => answer q ⟨st, _⟩ _) (if_congr ?_ rfl rfl)
  rw [Bool.and_eq_true, decide_eq_true_iff, decide_eq_true_iff]
  rfl

end

/-- Settles O43: DRAFTS and READ DRAFTS, the reading that goes stale, and the tests of DRAFT ZERO in their order. -/
theorem draftReadingsAndZero : Obligations.DraftReadingsAndZero := by
  refine ⟨fun tag s => ⟨fun aft fwd hs hbad => ?refused, fun aft fwd hs haft haft' hfwd hfwd' => ?taken, fun p hs => ?read,
    fun r hr hage => ?stales, fun hstale => ?stays⟩, fun tag s hs => ?zero⟩
  case refused =>
    exact exec_answeredAs (r := .drafts aft fwd) rfl hs rfl rfl rfl fun q x => takeDrafts_refused hbad q _
  case taken =>
    exact exec_answeredAs (r := .drafts aft fwd) (u := s.withTanks { s.tanks with reading := some ⟨aft, fwd, 0⟩ }) rfl hs rfl rfl
      rfl fun q x => takeDrafts_taken ⟨haft, haft'⟩ ⟨hfwd, hfwd'⟩ q _
  case read =>
    refine (exec_answeredAs (r := .readDrafts) (u := s) (a := ⟨.done, .drafts (draftReport s) s.cond.version⟩) rfl hs
      (by cases p <;> rfl) rfl rfl fun q x => rfl).trans ?_
    rw [draftReport_eq]
    cases s.tanks.reading <;> rfl
  case stales =>
    exact congrArg Host.Outcome.next (readingStales_fresh ((freshReading_eq_some_iff s r).2 ⟨hr, hage⟩))
  case stays =>
    exact congrArg Host.Outcome.next (readingStales_stale ((freshReading_eq_none_iff s).2 hstale))
  case zero =>
    intro run no limit slung clip
    have hfresh {d : DraftReading} (hd : s.tanks.reading = some d) (hage : (d.age : Int) ≤ limit) : s.freshReading = some d :=
      (freshReading_eq_some_iff s d).2 ⟨hd, hage⟩
    have hslung : s.anySlung = true ↔ slung := anySlung_iff s
    have hrefused {st : Status} (h : ∀ q x, takeDraftZero q (s.withPorts x) = answer q (bare st) (s.withPorts x)) :
        run = no st := exec_answeredAs (r := .draftZero) rfl hs rfl rfl rfl h
    refine ⟨fun hstale => hrefused fun q x => takeDraftZero_noReading q ((freshReading_eq_none_iff s).2 hstale),
      fun d hd hage hlatest => hrefused fun q x => takeDraftZero_noResult q (hfresh hd hage) hlatest,
      fun d r hd hage hlatest hactive => hrefused fun q x => takeDraftZero_liftsActive q (hfresh hd hage) hlatest
        (hactive.imp_left hslung.2),
      fun d r hd hage hlatest hidle hcaptured => ?_⟩
    intro a f
    exact exec_answeredAs (r := .draftZero)
      (u := s.withTanks { s.tanks with aftOffset := bringInto (-50) 50 a, fwdOffset := bringInto (-50) 50 f }) rfl hs rfl rfl rfl
      fun q x => takeDraftZero_set q (hfresh hd hage) hlatest (Bool.eq_false_iff.2 (mt hslung.1 hidle)) hcaptured

end Sys2Proof.Machine
end

section
/-!
SUPPORT. The walk of FIND SPACE over the compartment numbers (R164, R165).
-/

namespace Sys2Proof.Machine
open Sys2Proof

/-! ### What the walk looks at in one compartment -/

/-- The remaining capacity of a stow compartment: its max load less its planned load (R33, R165). -/
def spaceLeft (s : State) (c : Nat) : Int :=
  (match s.ship.image.stowComp c with | some (_, _, m) => m | none => 0) - s.plannedLoad c

/-- A stow compartment of a kind in the kind set. -/
def wantedComp (s : State) (kinds : List Nat) (c : Nat) : Bool :=
  (s.ship.image.stowComp c).any (fun x => kinds.contains (stowNumber x.2.1))

/-- A compartment that is CLOSED. -/
def shutComp (s : State) (c : Nat) : Bool := decide ((s.comp c).flag = .closed)

/-- The test of a mode, as the second table of R165 states it. -/
def MeetsTest (mode : FindMode) (remaining mass : Int) : Prop :=
  match mode with
  | .atLeast => mass ≤ remaining
  | .atMost => 0 ≤ remaining ∧ remaining ≤ mass
  | .equal => remaining = mass

theorem meetsMode_iff (mode : FindMode) (remaining mass : Int) :
    meetsMode mode remaining mass = true ↔ MeetsTest mode remaining mass := by
  cases mode with
  | atLeast => exact decide_eq_true_iff
  | atMost => exact within_iff ..
  | equal => exact decide_eq_true_iff

/-- A compartment number that does not end the walk: a row of R165 that passes it over, or the last row. -/
def WalksPast (s : State) (t : FindTest) (c : Nat) : Prop :=
  wantedComp s t.kinds c = false ∨ (shutComp s c = true ∧ t.skipClosed = true) ∨
    (shutComp s c = false ∧ ¬ MeetsTest t.mode (spaceLeft s c) t.mass)

/-- A compartment whose remaining capacity the walk tests when it comes to it. -/
def testedComp (s : State) (t : FindTest) (c : Nat) : Bool := wantedComp s t.kinds c && !shutComp s c

/-- A hit: a wanted compartment that is not CLOSED and meets the test. -/
structure IsHit (s : State) (t : FindTest) (c : Nat) : Prop where
  wanted : wantedComp s t.kinds c = true
  opened : shutComp s c = false
  meets : MeetsTest t.mode (spaceLeft s c) t.mass

/-- A wanted compartment that is CLOSED and that the walk does not skip. -/
structure IsClosedMet (s : State) (t : FindTest) (c : Nat) : Prop where
  wanted : wantedComp s t.kinds c = true
  shut : shutComp s c = true
  unskipped : t.skipClosed = false

/-- The rows of R165 by what the walk looks at. -/
theorem walkOne_eq (s : State) (t : FindTest) (c : Nat) :
    walkOne s t c =
      if wantedComp s t.kinds c = false then .passed
      else if shutComp s c = true then (if t.skipClosed then .passed else .ends (.closedMet c) 0)
      else if meetsMode t.mode (spaceLeft s c) t.mass then .ends (.hit c (spaceLeft s c) (s.plannedLoad c)) 1
      else .compared := by
  unfold walkOne wantedComp shutComp spaceLeft
  cases s.ship.image.stowComp c with
  | none => rfl
  | some x => simp only [Option.any_some, decide_eq_true_eq]

/-- What one compartment number makes of the walk: it goes on, it is a hit, or it is CLOSED MET. -/
theorem walkOne_cases (s : State) (t : FindTest) (c : Nat) :
    (WalksPast s t c ∧ walkOne s t c = if testedComp s t c then .compared else .passed) ∨
    (IsHit s t c ∧ walkOne s t c = .ends (.hit c (spaceLeft s c) (s.plannedLoad c)) 1) ∨
    (IsClosedMet s t c ∧ walkOne s t c = .ends (.closedMet c) 0) := by
  rw [walkOne_eq, testedComp]
  cases hwanted : wantedComp s t.kinds c with
  | false => exact .inl ⟨.inl hwanted, rfl⟩
  | true =>
    cases hshut : shutComp s c with
    | true =>
      cases hskip : t.skipClosed with
      | true => exact .inl ⟨.inr (.inl ⟨hshut, hskip⟩), rfl⟩
      | false => exact .inr (.inr ⟨⟨hwanted, hshut, hskip⟩, rfl⟩)
    | false =>
      have hiff := meetsMode_iff t.mode (spaceLeft s c) t.mass
      cases hmeets : meetsMode t.mode (spaceLeft s c) t.mass with
      | true => exact .inr (.inl ⟨⟨hwanted, hshut, hiff.1 hmeets⟩, rfl⟩)
      | false => exact .inl ⟨.inr (.inr ⟨hshut, fun h => Bool.eq_false_iff.1 hmeets (hiff.2 h)⟩), rfl⟩

/-! ### The count compared -/

/-- How many compartments from `lo` up to but not including `hi` are compared. -/
def comparedIn (s : State) (t : FindTest) (lo hi : Nat) : Nat :=
  ((List.range' lo (hi - lo)).filter (testedComp s t)).length

@[simp] theorem comparedIn_self (s : State) (t : FindTest) (lo : Nat) : comparedIn s t lo lo = 0 := by
  simp [comparedIn]

theorem comparedIn_cons (s : State) (t : FindTest) {lo hi : Nat} (h : lo < hi) :
    comparedIn s t lo hi = (testedComp s t lo).toNat + comparedIn s t (lo + 1) hi := by
  have hspan : hi - lo = (hi - (lo + 1)) + 1 := by omega
  unfold comparedIn
  rw [hspan, List.range'_succ, List.filter_cons]
  cases testedComp s t lo
  · exact (Nat.zero_add _).symm
  · exact (Nat.add_comm _ _)

/-! ### The whole walk -/

/-- The finding of a walk from `lo` up to but not including `hi`, with the count compared (R165). -/
inductive Walked (s : State) (t : FindTest) (lo hi : Nat) : Finding → Nat → Prop
  | hit {c : Nat} (low : lo ≤ c) (high : c < hi) (found : IsHit s t c)
      (past : ∀ d, lo ≤ d → d < c → WalksPast s t d) :
      Walked s t lo hi (.hit c (spaceLeft s c) (s.plannedLoad c)) (comparedIn s t lo (c + 1))
  | closedMet {c : Nat} (low : lo ≤ c) (high : c < hi) (found : IsClosedMet s t c)
      (past : ∀ d, lo ≤ d → d < c → WalksPast s t d) :
      Walked s t lo hi (.closedMet c) (comparedIn s t lo c)
  | notFound (past : ∀ d, lo ≤ d → d < hi → WalksPast s t d) : Walked s t lo hi .notFound (comparedIn s t lo hi)

/-- A span that is walked past stays so with one more such number before it. -/
theorem walksPast_cons {s : State} {t : FindTest} {lo hi : Nat} (hlo : WalksPast s t lo)
    (h : ∀ d, lo + 1 ≤ d → d < hi → WalksPast s t d) (d : Nat) (hd : lo ≤ d) (hhi : d < hi) : WalksPast s t d := by
  rcases Nat.eq_or_lt_of_le hd with rfl | hlt
  · exact hlo
  · exact h d hlt hhi

/-- A walk from one number further on, with a number that does not end it before it. -/
theorem Walked.cons {s : State} {t : FindTest} {lo hi n : Nat} {f : Finding} (hlo : WalksPast s t lo) (hlt : lo < hi)
    (h : Walked s t (lo + 1) hi f n) : Walked s t lo hi f ((testedComp s t lo).toNat + n) := by
  cases h with
  | hit low high found past =>
    rw [← comparedIn_cons s t (by omega)]
    exact .hit (by omega) high found (walksPast_cons hlo past)
  | closedMet low high found past =>
    rw [← comparedIn_cons s t (by omega)]
    exact .closedMet (by omega) high found (walksPast_cons hlo past)
  | notFound past =>
    rw [← comparedIn_cons s t hlt]
    exact .notFound (walksPast_cons hlo past)

/-- The walk over `k` numbers from `lo` on ends as R165 says, and adds its count to the count before it. -/
theorem walk_walked (s : State) (t : FindTest) (k lo : Nat) :
    ∃ f n, Walked s t lo (lo + k) f n ∧ ∀ count, walk s t k lo count = (f, count + n) := by
  induction k generalizing lo with
  | zero => exact ⟨_, _, .notFound fun d hd hhi => absurd hhi (by omega), fun count => by simp [walk]⟩
  | succ k ih =>
    rcases walkOne_cases s t lo with ⟨hpast, hone⟩ | ⟨hhit, hone⟩ | ⟨hclosed, hone⟩
    · obtain ⟨f, n, hwalked, hwalk⟩ := ih (lo + 1)
      rw [Nat.add_right_comm] at hwalked
      refine ⟨f, _, hwalked.cons hpast (by omega), fun count => ?_⟩
      unfold walk
      rw [hone]
      cases testedComp s t lo with
      | false => exact (hwalk count).trans (by simp)
      | true => exact (hwalk (count + 1)).trans (by simp [Nat.add_assoc])
    · refine ⟨_, _, .hit le_rfl (by omega) hhit fun d hd hhi => absurd hhi (by omega), fun count => ?_⟩
      unfold walk
      rw [hone, comparedIn_cons s t lo.lt_succ_self, comparedIn_self, testedComp, hhit.wanted, hhit.opened]
      rfl
    · refine ⟨_, _, .closedMet le_rfl (by omega) hclosed fun d hd hhi => absurd hhi (by omega), fun count => ?_⟩
      unfold walk
      rw [hone, comparedIn_self]

/-- The walk does not look at the ports. -/
theorem walk_withPorts (s : State) (x : PerPort PortState) (t : FindTest) (k lo count : Nat) :
    walk (s.withPorts x) t k lo count = walk s t k lo count := by
  induction k generalizing lo count with
  | zero => rfl
  | succ k ih =>
    have hone : walkOne (s.withPorts x) t lo = walkOne s t lo := rfl
    simp only [walk, hone, ih]

/-! ### FIND SPACE -/

/-- The malformed requests of R164. -/
theorem findMalformed_iff (first last : Nat) (mass : Int) (mode : Option FindMode) (kinds : List Nat) :
    findMalformed first last mass mode kinds = true ↔
      mode = none ∨ kinds = [] ∨ (∃ k ∈ kinds, k < 1 ∨ 3 < k) ∨ 96 ≤ first ∨ 96 ≤ last ∨ mass < 0 ∨ 1000000 < mass ∨
        last < first := by
  have hkinds : (!(kinds.all (fun k => decide (1 ≤ k) && decide (k ≤ 3)))) = true ↔ ∃ k ∈ kinds, k < 1 ∨ 3 < k := by
    simp only [Bool.not_eq_true', List.all_eq_false, Bool.and_eq_true, decide_eq_true_eq, not_and_or, not_le]
  simp only [findMalformed, Bool.or_eq_true, hkinds, Option.isNone_iff_eq_none, List.isEmpty_iff, Bool.not_eq_true',
    within_eq_false_iff, decide_eq_true_eq, or_assoc]
  rfl

/-- A well-formed FIND SPACE is answered with the finding of its walk, and changes nothing. -/
theorem exec_findSpace {tag : Byte} {first last : Nat} {mass : Int} {m : FindMode} {skip : Bool} {kinds : List Nat}
    {s : State} (hs : Serving s .portP) (hform : findMalformed first last mass (some m) kinds = false) {f : Finding} {n : Nat}
    (hwalk : walk s ⟨mass, m, skip, kinds⟩ (last + 1 - first) first 0 = (f, n)) :
    exec (.findSpace .portP tag first last mass (some m) skip kinds) s =
      answersOnly s .portP .findSpace tag ⟨.done, .finding f n s.cond.version⟩ :=
  exec_answeredAs (r := .findSpace first last mass (some m) skip kinds) (u := s) rfl hs rfl rfl rfl fun q x => by
    show takeFindSpace first last mass (some m) skip kinds q (s.withPorts x) = _
    unfold takeFindSpace
    rw [if_neg (by simp [hform]), Option.getD_some, walk_withPorts, hwalk]
    rfl

/-- Settles O41: the malformed requests are refused, and the walk ends at the first hit, the first CLOSED compartment that it
does not skip, or past the last number. -/
theorem findSpaceWalks : Obligations.FindSpaceWalks := by
  intro tag first last mass mode skip kinds s hs
  refine ⟨fun hbad => ?refused, fun m hgood hmode => ?walks⟩
  case refused =>
    exact exec_answeredAs (r := .findSpace first last mass mode skip kinds) (u := s) rfl hs rfl rfl rfl fun q x =>
      if_pos ((findMalformed_iff ..).2 hbad)
  case walks =>
    subst hmode
    have hspan : first + (last + 1 - first) = last + 1 := by
      have hle : first ≤ last := not_lt.1 fun h => hgood (by simp [h])
      omega
    obtain ⟨f, n, hwalked, hwalk⟩ := walk_walked s ⟨mass, m, skip, kinds⟩ (last + 1 - first) first
    rw [hspan] at hwalked
    refine ⟨f, n, exec_findSpace hs (Bool.eq_false_iff.2 (mt (findMalformed_iff ..).1 hgood))
      ((hwalk 0).trans (by rw [Nat.zero_add])), ?_⟩
    intro left wanted shut meets passes counted
    cases hwalked with
    | hit low high found past =>
      refine ⟨fun c r q hf => ?_, nofun, nofun⟩
      obtain ⟨rfl, rfl, rfl⟩ := Finding.hit.inj hf
      exact ⟨low, Nat.le_of_lt_succ high, found.wanted, found.opened, found.meets, rfl, rfl, past, rfl⟩
    | closedMet low high found past =>
      refine ⟨nofun, fun c hf => ?_, nofun⟩
      obtain rfl := Finding.closedMet.inj hf
      exact ⟨low, Nat.le_of_lt_succ high, found.wanted, found.shut, found.unskipped, past, rfl⟩
    | notFound past =>
      exact ⟨nofun, nofun,
        fun _ => ⟨fun d hd hlast => past d hd (Nat.lt_succ_of_le hlast), rfl⟩⟩

end Sys2Proof.Machine
end

section
/-!
SUPPORT. The trial stack (R168 to R172).
-/

namespace Sys2Proof.Machine
open Sys2Proof

/-! ### The tests of a layer (R169) -/

section
variable {s : State} {item n : Nat} {g : Goal} {pl : Placement} {fill : Int}

theorem layerFault_item_malformed (h : item = 0 ∨ goalOk g = false) : layerFault s (.item item g) = some .badArgument :=
  if_pos h

/-- A well-formed item layer is tested for its item and then for the geometry of its placement. -/
theorem layerFault_item_wellFormed (hitem : item ≠ 0) (hg : goalOk g = true) : layerFault s (.item item g) =
    if (s.item item).isNone then some .noSuchItem
    else match g with
      | .ashore => none
      | .place pl => if geometrySound s.ship.image pl then none else some .badPlacement :=
  if_neg (by simp [hitem, hg])

theorem layerFault_item_missing (hitem : item ≠ 0) (hg : goalOk g = true) (hnone : s.item item = none) :
    layerFault s (.item item g) = some .noSuchItem := by
  rw [layerFault_item_wellFormed hitem hg, hnone]
  rfl

/-- The geometry of a placement decides where the item exists. -/
theorem layerFault_item_place (hitem : item ≠ 0) (hg : goalOk (.place pl) = true) (hsome : s.item item ≠ none) :
    layerFault s (.item item (.place pl)) = if geometrySound s.ship.image pl then none else some .badPlacement := by
  rw [layerFault_item_wellFormed hitem hg, if_neg (by simpa using hsome)]

theorem layerFault_item_ashore (hitem : item ≠ 0) (hsome : s.item item ≠ none) : layerFault s (.item item .ashore) = none := by
  rw [layerFault_item_wellFormed hitem rfl, if_neg (by simpa using hsome)]

/-- An item layer that passes every test. -/
theorem layerFault_item_sound (hitem : item ≠ 0) (hg : goalOk g = true) (hsome : s.item item ≠ none)
    (hgoal : g = .ashore ∨ ∃ pl, g = .place pl ∧ geometrySound s.ship.image pl = true) :
    layerFault s (.item item g) = none := by
  obtain rfl | ⟨pl, rfl, hsound⟩ := hgoal
  · exact layerFault_item_ashore hitem hsome
  · rw [layerFault_item_place hitem hg hsome, if_pos hsound]

theorem layerFault_tank_refused (h : fill < 0 ∨ 65535 < fill ∨ s.ship.image.isTank n = false) :
    layerFault s (.tank n fill) = some .badArgument := by
  rw [← or_assoc, ← within_eq_false_iff] at h
  dsimp only [layerFault]
  rcases h with hfill | htank
  · exact if_pos hfill
  · rw [if_pos htank, ite_self]

theorem layerFault_tank_sound (hlow : 0 ≤ fill) (hhigh : fill ≤ 65535) (htank : s.ship.image.isTank n = true) :
    layerFault s (.tank n fill) = none := by
  have hfill : within 0 65535 fill = true := (within_iff ..).2 ⟨hlow, hhigh⟩
  simp [layerFault, hfill, htank]

end

/-! ### The stack after a push (R170) -/

/-- A full stack drops its bottom layer and sets BASE LOST. -/
theorem push_eq (t : Trials) (l : Layer) : t.push l =
    if 8 ≤ t.layers.length then ⟨t.layers.drop 1 ++ [l], true⟩ else ⟨t.layers ++ [l], t.baseLost⟩ := by
  unfold Trials.push
  rw [List.drop_one, ← ite_not]
  exact if_congr not_lt rfl rfl

/-- What the reply to a push tells: the depth, BASE LOST and the layer dropped. -/
theorem pushReport_eq (t : Trials) (l : Layer) :
    Body.pushed (t.push l).layers.length (t.push l).baseLost (droppedLayer t) =
      if 8 ≤ t.layers.length then .pushed t.layers.length true t.layers.head?
      else .pushed (t.layers.length + 1) t.baseLost none := by
  rw [push_eq]
  by_cases hfull : 8 ≤ t.layers.length
  · have hdropped : droppedLayer t = t.layers.head? := if_neg (not_lt.2 hfull)
    have hdepth : (t.layers.drop 1 ++ [l]).length = t.layers.length := by
      simp only [List.length_append, List.length_drop, List.length_singleton]
      omega
    rw [if_pos hfull, if_pos hfull, hdropped, hdepth]
  · have hdropped : droppedLayer t = none := if_pos (not_le.1 hfull)
    rw [if_neg hfull, if_neg hfull, hdropped, List.length_append, List.length_singleton]

/-! ### PUSH TRIAL -/

section
variable {tag : Byte} {s : State} {a : LayerArg}

/-- A layer that fails a test is answered with its status, and the stack stays as it was (R169). -/
theorem exec_pushTrial_refused {st : Status} (hs : Serving s .portP) (hfault : layerFault s a = some st) :
    exec (.pushTrial .portP tag a) s = answersOnly s .portP .pushTrial tag ⟨st, .statusOnly⟩ :=
  exec_answeredAs (r := .pushTrial a) (u := s) rfl hs rfl rfl rfl fun q x => by
    have hports : layerFault (s.withPorts x) a = some st := hfault
    show takePushTrial a q (s.withPorts x) = _
    unfold takePushTrial
    rw [hports]
    rfl

/-- A layer that passes the tests goes on top of the stack (R170). -/
theorem exec_pushTrial_sound {l : Layer} (hs : Serving s .portP) (hfault : layerFault s a = none)
    (hstored : storedLayer a = some l) :
    exec (.pushTrial .portP tag a) s = .next { s with
      trials := s.trials.push l
      ports := answeredPorts s .portP .pushTrial tag ⟨if layerClamped a then .clamped else .done,
        .pushed (s.trials.push l).layers.length (s.trials.push l).baseLost (droppedLayer s.trials)⟩ } :=
  exec_answeredAs (r := .pushTrial a) (u := s.withTrials (s.trials.push l)) rfl hs rfl rfl rfl fun q x => by
    have hports : layerFault (s.withPorts x) a = none := hfault
    show takePushTrial a q (s.withPorts x) = _
    unfold takePushTrial
    rw [hports, hstored]
    rfl

end

/-! ### POP TRIAL (R171) -/

/-- The stack after its top layer has been taken off. -/
theorem pop_eq {t : Trials} {below : List Layer} {l : Layer} (h : t.layers = below ++ [l]) :
    t.pop = ⟨below, if below = [] then false else t.baseLost⟩ := by
  unfold Trials.pop
  rw [h, List.dropLast_concat]
  cases below with
  | nil => rw [if_pos rfl, List.isEmpty_nil, Bool.not_true, Bool.and_false]
  | cons b bs => rw [if_neg (List.cons_ne_nil b bs), List.isEmpty_cons, Bool.not_false, Bool.and_true]

theorem takePopTrial_empty {s : State} (h : s.trials.layers = []) (q : Caller) :
    takePopTrial q s = answer q (bare .empty) s := by
  unfold takePopTrial
  rw [h]
  rfl

theorem takePopTrial_top {s : State} {below : List Layer} {l : Layer} (h : s.trials.layers = below ++ [l]) (q : Caller) :
    takePopTrial q s = answer q ⟨.done, .popped l below.length (if below = [] then false else s.trials.baseLost)⟩
      (s.withTrials ⟨below, if below = [] then false else s.trials.baseLost⟩) := by
  have htop : s.trials.layers.getLast? = some l := by rw [h, List.getLast?_concat]
  unfold takePopTrial
  rw [htop, pop_eq h]

/-! ### The claim -/

/-- The well-formed goals (R126, R141, R169). -/
theorem goalOk_iff_ranges (g : Goal) : goalOk g = true ↔ g = .ashore ∨ ∃ pl, g = .place pl ∧ -500 ≤ pl.xAft ∧
    pl.xAft ≤ 19500 ∧ -500 ≤ pl.xFore ∧ pl.xFore ≤ 19500 ∧ -2500 ≤ pl.y ∧ pl.y ≤ 2500 ∧ 0 ≤ pl.z ∧ pl.z ≤ 5000 := by
  simp only [goalOk_iff, placementOk_iff]

/-- Settles O42: the tests of PUSH TRIAL in their order and the layer on top, POP TRIAL, CLEAR TRIALS and READ TRIALS. -/
theorem trialStackPushesAndPops : Obligations.TrialStackPushesAndPops := by
  refine ⟨fun tag s hs => ?push, goalOk_iff_ranges, fun tag s => ⟨fun hs hnil => ?empty, fun below l hs htop => ?pop,
    fun hs => ?clear, fun p hs => ?read⟩⟩
  case push =>
    intro run no full pushed
    have hrefused {a : LayerArg} {st : Status} (h : layerFault s a = some st) : run a = no st := exec_pushTrial_refused hs h
    have hpushed {a : LayerArg} {l : Layer} (h : layerFault s a = none) (hstored : storedLayer a = some l) :
        run a = pushed (if layerClamped a then .clamped else .done) l := by
      refine (exec_pushTrial_sound hs h hstored).trans ?_
      rw [pushReport_eq, push_eq]
    refine ⟨hrefused rfl, fun item g => ⟨fun h => hrefused (layerFault_item_malformed h),
      fun hitem hg hnone => hrefused (layerFault_item_missing hitem hg hnone), fun pl hitem hg hsome hpl hunsound => ?_,
      fun hitem hg hsome hgoal => hpushed (layerFault_item_sound hitem hg hsome hgoal) rfl⟩, fun n fill =>
      ⟨fun h => hrefused (layerFault_tank_refused h), fun hlow hhigh htank => ?_, fun hlow hhigh htank => ?_⟩⟩
    · subst hpl
      exact hrefused ((layerFault_item_place hitem hg hsome).trans (if_neg (Bool.eq_false_iff.1 hunsound)))
    · have hstored : storedLayer (.tank n fill) = some (.tank n fill.toNat) :=
        congrArg (fun f => some (Layer.tank n f)) (min_eq_left (by omega))
      have hdone : layerClamped (.tank n fill) = false := decide_eq_false (by omega)
      refine (hpushed (layerFault_tank_sound hlow (by omega) htank) hstored).trans ?_
      rw [hdone, if_neg Bool.false_ne_true]
    · have hstored : storedLayer (.tank n fill) = some (.tank n 1000) :=
        congrArg (fun f => some (Layer.tank n f)) (min_eq_right (by omega))
      have hclamped : layerClamped (.tank n fill) = true := decide_eq_true hlow
      refine (hpushed (layerFault_tank_sound (by omega) hhigh htank) hstored).trans ?_
      rw [hclamped, if_pos rfl]
  case empty =>
    exact exec_answeredAs (r := .popTrial) (u := s) rfl hs rfl rfl rfl fun q x =>
      takePopTrial_empty (s := s.withPorts x) hnil q
  case pop =>
    intro lost
    exact exec_answeredAs (r := .popTrial) (u := s.withTrials ⟨below, lost⟩) rfl hs rfl rfl rfl fun q x =>
      takePopTrial_top (s := s.withPorts x) htop q
  case clear =>
    exact exec_answeredAs (r := .clearTrials) (u := s.withTrials ⟨[], false⟩) rfl hs rfl rfl rfl fun q x => rfl
  case read =>
    refine (exec_answeredAs (r := .readTrials) (u := s) (a := ⟨.done, .trials s.trials.layers.length s.trials.baseLost
      (s.trials.layers.map (fun l => (l, layerSkips s l))) s.cond.version⟩) rfl hs (by cases p <;> rfl) rfl rfl
      fun q x => rfl).trans ?_
    refine congrArg (fun standing : Layer → Bool => answersOnly s p .readTrials tag ⟨.done, .trials s.trials.layers.length
      s.trials.baseLost (s.trials.layers.map (fun l => (l, standing l))) s.cond.version⟩) (funext fun l => ?_)
    cases l with
    | tank n f => rfl
    | item t g => rfl

end Sys2Proof.Machine
end

section
/-!
SUPPORT. What a port keeps (R181, R183, R184): its own operations, and the two places of a request, awaiting its reply and
answered.
-/

namespace Sys2Proof.Machine
open Sys2Proof

/-! ### One port (R180 to R185) -/

/-- A counter counts its own errors alone (R181). -/
theorem read_bump (n : Counters) (e f : LineErr) : (n.bump e).read f = if f = e then n.read f + 1 else n.read f := by
  cases e <;> cases f <;> rfl

theorem saturated_bump {n : Counters} {e : LineErr} (h : n.Saturated) (he : n.read e < 255) : (n.bump e).Saturated := by
  intro f
  rw [read_bump]
  split
  · next hf =>
    subst hf
    omega
  · exact h f

/-- The outstanding request of a port that has neither a reply nor a deferred-reply entry yet: the place of a request between
test 2 of R182 and its reply. -/
structure PortState.Awaiting (c : Caller) (q : PortState) : Prop where
  ordered : q.Ordered
  outstanding : q.outstanding = some c
  deferred : q.deferred = none
  unanswered : ∀ e ∈ q.tx, e.answers ≠ some c.mark

namespace PortState

variable {q : PortState} {c : Caller}

theorem Ordered.rx (h : q.Ordered) (r : Receiver) : { q with rx := r }.Ordered := h

theorem Ordered.counters (h : q.Ordered) {n : Counters} (hn : n.Saturated) : { q with counters := n }.Ordered := by
  obtain ⟨-, hrest⟩ := h
  exact ⟨hn, hrest⟩

/-- A deferred-reply entry goes with the outstanding request. -/
theorem Ordered.deferred_none (h : q.Ordered) (ho : q.outstanding = none) : q.deferred = none := by
  obtain ⟨-, -, -, hdefer, -⟩ := h
  cases hd : q.deferred with
  | none => rfl
  | some c =>
    obtain ⟨hc, -⟩ := hdefer c hd
    rw [ho] at hc
    cases hc

/-- A BUSY reply joins a transmitter that holds none (R184). -/
theorem Ordered.busy (h : q.Ordered) (hb : holdsBusy q.tx = false) (r : Reply) :
    { q with tx := q.tx ++ [(⟨r, none⟩ : TxEntry)] }.Ordered := by
  obtain ⟨hcount, -, hopen, hdefer, hmarks⟩ := h
  have hnone : q.tx.filter (fun e => e.answers.isNone) = [] :=
    List.filter_eq_nil_iff.2 fun e he hisNone => by
      have hany : holdsBusy q.tx = true := List.any_eq_true.2 ⟨e, he, hisNone⟩
      rw [hb] at hany
      cases hany
  refine ⟨hcount, ?_, fun d hd => ?_, fun d hd => ?_, fun e he m hm => ?_⟩
  · rw [List.filter_append, hnone]
    exact Nat.le_refl 1
  · obtain ⟨hmark, hone⟩ := hopen d hd
    refine ⟨hmark, ?_⟩
    rw [List.filter_append]
    simpa using hone
  · obtain ⟨hout, hno⟩ := hdefer d hd
    refine ⟨hout, fun e he => ?_⟩
    rcases List.mem_append.1 he with he | he
    · exact hno e he
    · rw [List.mem_singleton.1 he]
      exact nofun
  · rcases List.mem_append.1 he with he | he
    · exact hmarks e he m hm
    · rw [List.mem_singleton.1 he] at hm
      cases hm

/-- Replies that leave the transmitter, with the request or without it, leave a port in order. -/
theorem Ordered.sublist (h : q.Ordered) {l : List TxEntry} (hl : l.Sublist q.tx) : { q with tx := l }.Ordered := by
  obtain ⟨hcount, hbusy, hopen, hdefer, hmarks⟩ := h
  refine ⟨hcount, (hl.filter _).length_le.trans hbusy, fun d hd => ?_, fun d hd => ?_, fun e he => hmarks e (hl.subset he)⟩
  · obtain ⟨hmark, hone⟩ := hopen d hd
    exact ⟨hmark, (hl.filter _).length_le.trans hone⟩
  · obtain ⟨hout, hno⟩ := hdefer d hd
    exact ⟨hout, fun e he => hno e (hl.subset he)⟩

/-- A request that goes takes its deferred-reply entry with it. -/
theorem Ordered.closed (h : q.Ordered) : { q with outstanding := none, deferred := none }.Ordered := by
  obtain ⟨hcount, hbusy, -, -, hmarks⟩ := h
  exact ⟨hcount, hbusy, nofun, nofun, hmarks⟩

/-- The request that a held reply answers has no deferred-reply entry. -/
theorem Ordered.deferred_none_of_answered (h : q.Ordered) {e : TxEntry} (he : e ∈ q.tx)
    (ha : answersIt q.outstanding e.answers = true) : q.deferred = none := by
  obtain ⟨-, -, -, hdefer, -⟩ := h
  cases hd : q.deferred with
  | none => rfl
  | some c =>
    obtain ⟨hout, hno⟩ := hdefer c hd
    rw [hout] at ha
    unfold answersIt at ha
    split at ha
    · next hc hm =>
      cases hc
      exact absurd (hm.trans (congrArg some (beq_iff_eq.1 ha).symm)) (hno e he)
    · cases ha

/-- The end of a reply keeps a port in order: the request it answers leaves with it (R183, R184). -/
theorem Ordered.sent (h : q.Ordered) : q.sent.Ordered := by
  unfold PortState.sent
  split
  · exact h
  · next e rest htx =>
    have hrest : { q with tx := rest }.Ordered := h.sublist (htx ▸ List.sublist_cons_self e rest)
    split
    · next ha =>
      have hd : q.deferred = none := h.deferred_none_of_answered (htx ▸ List.mem_cons_self) ha
      simpa only [hd] using hrest.closed
    · exact hrest

theorem Ordered.broken (h : q.Ordered) : q.broken.Ordered := by
  unfold PortState.broken
  split
  · exact h
  · exact (h.sublist (List.take_sublist 1 q.tx)).closed.rx .inBreak

theorem Ordered.released (h : q.Ordered) : q.released.Ordered := by
  unfold PortState.released
  split
  · exact h.rx .waiting
  · exact h

/-- A request becomes outstanding with the mark that no reply bears yet (R183, log 11). -/
theorem Ordered.opened (h : q.Ordered) (ho : q.outstanding = none) (hm : c.mark = q.nextMark) :
    { q with outstanding := some c, nextMark := q.nextMark + 1 }.Awaiting c := by
  have hd := h.deferred_none ho
  obtain ⟨hcount, hbusy, -, -, hmarks⟩ := h
  have hno : ∀ e ∈ q.tx, e.answers ≠ some c.mark := fun e he ha => by
    have := hmarks e he c.mark ha
    omega
  refine ⟨⟨hcount, hbusy, fun d hd' => ?_, fun d hd' => ?_, fun e he m ha => (hmarks e he m ha).trans (Nat.lt_succ_self _)⟩,
    rfl, hd, hno⟩
  · cases hd'
    refine ⟨hm ▸ Nat.lt_succ_self _, ?_⟩
    rw [List.filter_eq_nil_iff.2 fun e he => by simpa using hno e he]
    exact Nat.zero_le 1
  · cases hd.symm.trans hd'

/-- A deferred-reply entry that is taken leaves its request without a reply. -/
theorem Ordered.taken (h : q.Ordered) (hd : q.deferred = some c) : { q with deferred := none }.Awaiting c := by
  obtain ⟨hcount, hbusy, hopen, hdefer, hmarks⟩ := h
  obtain ⟨hout, hno⟩ := hdefer c hd
  exact ⟨⟨hcount, hbusy, hopen, nofun, hmarks⟩, hout, rfl, hno⟩

theorem Awaiting.counters (h : q.Awaiting c) {n : Counters} (hn : n.Saturated) : { q with counters := n }.Awaiting c :=
  ⟨h.ordered.counters hn, h.outstanding, h.deferred, h.unanswered⟩

/-- The one reply to a request that awaits it (R183). -/
theorem Awaiting.answered (h : q.Awaiting c) (r : Reply) :
    { q with tx := q.tx ++ [(⟨r, some c.mark⟩ : TxEntry)] }.Ordered := by
  obtain ⟨⟨hcount, hbusy, hopen, -, hmarks⟩, hout, hd, hno⟩ := h
  refine ⟨hcount, ?_, fun d hd' => ?_, fun d hd' => ?_, fun e he m hm => ?_⟩
  · rw [List.filter_append]
    simpa using hbusy
  · cases hout.symm.trans hd'
    obtain ⟨hmark, -⟩ := hopen c hout
    refine ⟨hmark, ?_⟩
    rw [List.filter_append, List.filter_eq_nil_iff.2 fun e he => by simpa using hno e he]
    simp
  · cases hd.symm.trans hd'
  · rcases List.mem_append.1 he with he | he
    · exact hmarks e he m hm
    · rw [List.mem_singleton.1 he] at hm
      cases hm
      exact (hopen c hout).1

/-- The deferred-reply entry of a request that awaits its reply (R183). -/
theorem Awaiting.deferring (h : q.Awaiting c) : { q with deferred := some c }.Ordered := by
  obtain ⟨⟨hcount, hbusy, hopen, -, hmarks⟩, hout, -, hno⟩ := h
  refine ⟨hcount, hbusy, hopen, fun d hd => ?_, hmarks⟩
  cases hd
  exact ⟨hout, hno⟩

end PortState

/-! ### All ports -/

theorem PortsOrdered.of_same {s t : State} (h : PortsOrdered s) (ht : t.ports = s.ports) : PortsOrdered t := by
  unfold PortsOrdered
  rw [ht]
  exact h

theorem PortsOrdered.port {s : State} (h : PortsOrdered s) (p : Port) : (s.ports.get p).Ordered := PerPort.Forall.get h p

/-- A port written in order keeps all of them so. -/
theorem PortsOrdered.modifyPort {s : State} (h : PortsOrdered s) {p : Port} {f : PortState → PortState}
    (hf : (f (s.ports.get p)).Ordered) : PortsOrdered (s.modifyPort p f) := PerPort.Forall.set h p hf

theorem ordered_setRx {s : State} (h : PortsOrdered s) (p : Port) (r : Receiver) : PortsOrdered (s.setRx p r) :=
  h.modifyPort ((h.port p).rx r)

theorem ordered_countError {s : State} (h : PortsOrdered s) (p : Port) (e : LineErr) : PortsOrdered (countError p e s) := by
  unfold countError
  split
  · next he =>
    obtain ⟨hcount, -⟩ := h.port p
    exact h.modifyPort ((h.port p).counters (saturated_bump hcount he))
  · exact h

theorem ordered_refuseBusy {s : State} (h : PortsOrdered s) (p : Port) (kind tag : Byte) :
    PortsOrdered (refuseBusy p kind tag s) := by
  unfold refuseBusy
  split
  · exact ordered_countError h p .dropped
  · next hb => exact h.modifyPort ((h.port p).busy (Bool.eq_false_iff.2 hb) _)

/-- A request that awaits its reply on its port, with every port in order. -/
structure Awaits (c : Caller) (s : State) : Prop where
  ports : PortsOrdered s
  port : (s.ports.get c.port).Awaiting c

theorem Awaits.of_same {c : Caller} {s t : State} (h : Awaits c s) (ht : t.ports = s.ports) : Awaits c t :=
  ⟨h.ports.of_same ht, by rw [ht]; exact h.port⟩

/-- A port written so that its request still awaits its reply. -/
theorem awaits_modifyPort {c : Caller} {s : State} {f : PortState → PortState} (h : PortsOrdered s)
    (hf : (f (s.ports.get c.port)).Awaiting c) : Awaits c (s.modifyPort c.port f) := by
  refine ⟨h.modifyPort hf.ordered, ?_⟩
  rw [modifyPort_ports, PerPort.get_modify_same]
  exact hf

/-- A request that a port takes awaits its reply (R182, test 2). -/
theorem awaits_openRequest {s : State} (h : PortsOrdered s) (p : Port) (kind tag : Byte)
    (ho : (s.ports.get p).outstanding = none) :
    Awaits (nextCaller s p kind tag) (openRequest (nextCaller s p kind tag) s) :=
  awaits_modifyPort h ((h.port p).opened (c := nextCaller s p kind tag) ho rfl)

theorem Awaits.countError {c : Caller} {s : State} (h : Awaits c s) (e : LineErr) : Awaits c (countError c.port e s) := by
  unfold Machine.countError
  split
  · next he =>
    obtain ⟨hcount, -⟩ := h.ports.port c.port
    have hcounted : Awaits c (s.modifyPort c.port fun q => { q with counters := q.counters.bump e }) :=
      awaits_modifyPort h.ports (h.port.counters (saturated_bump hcount he))
    exact hcounted.of_same rfl
  · exact h

theorem Awaits.answer {c : Caller} {s : State} (h : Awaits c s) (a : Answer) : PortsOrdered (answer c a s) :=
  h.ports.modifyPort (h.port.answered _)

theorem Awaits.defer {c : Caller} {s : State} (h : Awaits c s) : PortsOrdered (defer c s) :=
  h.ports.modifyPort h.port.deferring

/-- A deferred reply handed on keeps the ports in order: its entry makes it the reply to the outstanding request (R183). -/
theorem ordered_deliver {s : State} (h : PortsOrdered s) (c : Caller) (a : Answer) : PortsOrdered (deliver c a s) := by
  unfold deliver
  split
  · next hd => exact (awaits_modifyPort h ((h.port c.port).taken hd)).answer a
  · exact h

theorem ordered_deliverTo {s : State} (h : PortsOrdered s) (c : Option Caller) (a : Answer) :
    PortsOrdered (deliverTo c a s) := by
  cases c with
  | none => exact h
  | some c => exact ordered_deliver h c a

/-- A reply to another request handed on leaves a request awaiting its own. -/
theorem Awaits.deliver {c : Caller} {s : State} (h : Awaits c s) (d : Caller) (a : Answer) : Awaits c (deliver d a s) := by
  refine ⟨ordered_deliver h.ports d a, ?_⟩
  rw [deliver_eq]
  split
  · next hd =>
    have hport : c.port ≠ d.port := fun hp => by
      have hnone := h.port.deferred
      rw [hp, hd] at hnone
      cases hnone
    show ((s.ports.modify d.port _).get c.port).Awaiting c
    rw [PerPort.get_modify_other _ _ _ _ hport]
    exact h.port
  · exact h.port

end Sys2Proof.Machine
end

section
/-!
SUPPORT. What a request does to the ports (R182, R183): one reply, at once or deferred, and beside it the replies to the held
changes that OPEN DATA discards and the counters that READ LINE STATUS clears.
-/

namespace Sys2Proof.Machine
open Sys2Proof

/-! ### One reply to a request (R183) -/

/-- `t` has the ports of `s` but for one reply to `c`: an answer behind those its port's transmitter holds, or a
deferred-reply entry. -/
def RepliedOnce (c : Caller) (s t : State) : Prop := (∃ a, t.ports = (answer c a s).ports) ∨ t.ports = (defer c s).ports

theorem RepliedOnce.ordered {c : Caller} {s t : State} (h : RepliedOnce c s t) (hs : Awaits c s) : PortsOrdered t := by
  rcases h with ⟨a, ha⟩ | hd
  · exact (hs.answer a).of_same ha
  · exact hs.defer.of_same hd

theorem repliedOnce_answer {c : Caller} {s u : State} (h : u.ports = s.ports) (a : Answer) :
    RepliedOnce c s (answer c a u) :=
  .inl ⟨a, by rw [answer_eq, answer_eq, h]⟩

theorem repliedOnce_defer {c : Caller} {s u : State} (h : u.ports = s.ports) : RepliedOnce c s (defer c u) := by
  refine .inr ?_
  unfold defer
  rw [modifyPort_ports, modifyPort_ports, h]

theorem finishLift_ports (code : OutcomeCode) (final : Option Goal) (mass : Int) (cs : List Crane) (s : State) :
    (finishLift code final mass cs s).ports = s.ports := (stows_finishLift code final mass cs s).ports

theorem raiseLiftCheck_ports (c : Crane) (s : State) : (raiseLiftCheck c s).ports = s.ports := by cases c <;> rfl

theorem queried_ports (p : Port) (c : Option Cause) (s : State) : (queried p c s).ports = s.ports := by
  unfold queried
  split
  · rfl
  · split <;> rfl

/-! ### The requests -/

variable (q : Caller) (s : State)

theorem replied_takeSetAttention (u : List Nat) (m : Option LineMode) : RepliedOnce q s (takeSetAttention u m q s) := by
  unfold takeSetAttention
  split
  · exact repliedOnce_answer rfl _
  · split <;> exact repliedOnce_answer rfl _

theorem replied_takeWriteData (k i : Nat) (fs : List FieldWord) : RepliedOnce q s (takeWriteData k i fs q s) := by
  unfold takeWriteData
  split
  · exact repliedOnce_answer rfl _
  · split <;> exact repliedOnce_answer rfl _

theorem replied_takeCloseData (w : CheckWord) : RepliedOnce q s (takeCloseData w q s) := by
  unfold takeCloseData
  split
  · exact repliedOnce_answer rfl _
  · split
    · exact repliedOnce_answer (changeMode_ports ..) _
    · exact repliedOnce_defer rfl

/-- A change is answered at once, or held with its reply deferred (R36, R37). -/
theorem replied_takeChange (ch : Change) : RepliedOnce q s (takeChange ch q s) := by
  have harrives : (changeArrives q.port ch s).ports = s.ports := (stows_changeArrives q.port ch s).ports
  unfold takeChange
  dsimp only
  split_ifs
  · exact repliedOnce_answer rfl _
  · exact repliedOnce_answer harrives _
  · exact repliedOnce_defer harrives
  · exact repliedOnce_answer ((applyChange_ports ..).trans harrives) _

theorem replied_takeSetEvaluation (m : Option RoutineMode) (i : Int) : RepliedOnce q s (takeSetEvaluation m i q s) := by
  unfold takeSetEvaluation
  split
  · exact repliedOnce_answer rfl _
  · split <;> exact repliedOnce_answer rfl _

theorem replied_takeEvaluateProspect (sc : Option Scope) : RepliedOnce q s (takeEvaluateProspect sc q s) := by
  unfold takeEvaluateProspect
  split
  · exact repliedOnce_answer rfl _
  · exact repliedOnce_defer rfl

theorem replied_takeSetCriterion (i : Nat) (code : Option Code) (l h n : Int) (a : Option Action) :
    RepliedOnce q s (takeSetCriterion i code l h n a q s) := by
  unfold takeSetCriterion
  split
  · exact repliedOnce_answer rfl _
  · split
    · exact repliedOnce_answer rfl _
    · exact repliedOnce_answer ((triggerRoutine_ports _).trans (settleRise_ports _)) _

theorem replied_takeSetRange (a b : Nat) : RepliedOnce q s (takeSetRange a b q s) := by
  unfold takeSetRange
  split
  · exact repliedOnce_answer rfl _
  · exact repliedOnce_answer ((triggerRoutine_ports _).trans (settle_ports _)) _

theorem replied_takeResetSlot (i : Nat) : RepliedOnce q s (takeResetSlot i q s) := by
  unfold takeResetSlot
  split
  · exact repliedOnce_answer rfl _
  · exact repliedOnce_answer (settle_ports _) _

theorem replied_takeInject (i : Nat) (v : Int) : RepliedOnce q s (takeInject i v q s) := by
  unfold takeInject
  split
  · exact repliedOnce_answer rfl _
  · exact repliedOnce_answer (triggerRoutine_ports _) _

theorem replied_takeWithdraw (i : Nat) : RepliedOnce q s (takeWithdraw i q s) := by
  unfold takeWithdraw
  split
  · exact repliedOnce_answer rfl _
  · exact repliedOnce_answer (triggerRoutine_ports _) _

theorem replied_takePushTrial (l : LayerArg) : RepliedOnce q s (takePushTrial l q s) := by
  unfold takePushTrial
  split <;> exact repliedOnce_answer rfl _

theorem replied_takePopTrial : RepliedOnce q s (takePopTrial q s) := by
  unfold takePopTrial
  split <;> exact repliedOnce_answer rfl _

theorem replied_takeDrafts (a f : Int) : RepliedOnce q s (takeDrafts a f q s) := by
  unfold takeDrafts
  split <;> exact repliedOnce_answer rfl _

theorem replied_takeDraftZero : RepliedOnce q s (takeDraftZero q s) := by
  unfold takeDraftZero
  split
  · exact repliedOnce_answer rfl _
  · exact repliedOnce_answer rfl _
  · split <;> exact repliedOnce_answer rfl _

theorem replied_startLift (c : Crane) (tag : Nat) (dest : Goal) (outreach hook : Point) (share : Option Nat) :
    RepliedOnce q s (startLift c q tag dest outreach hook share s) := by
  cases share with
  | none => exact repliedOnce_defer (raiseLiftCheck_ports ..)
  | some n => exact repliedOnce_defer rfl

theorem replied_takeLiftRequest (tag : Nat) (dest : Option Goal) (outreach hook : Point) (partner : Option PortRef)
    (share : Option Nat) : RepliedOnce q s (takeLiftRequest tag dest outreach hook partner share q s) := by
  unfold takeLiftRequest
  split
  · split
    · exact repliedOnce_answer rfl _
    · split
      · exact repliedOnce_answer rfl _
      · exact replied_startLift ..
  · exact repliedOnce_answer rfl _

theorem replied_takeJoinLift (lead : PortRef) (tag : Nat) (outreach : Point) :
    RepliedOnce q s (takeJoinLift lead tag outreach q s) := by
  unfold takeJoinLift
  split
  · exact repliedOnce_answer rfl _
  · split_ifs
    · exact repliedOnce_answer rfl _
    · exact repliedOnce_answer rfl _
    · split
      · exact repliedOnce_answer rfl _
      · exact repliedOnce_defer (raiseLiftCheck_ports ..)
      · exact repliedOnce_answer rfl _

theorem replied_takeAbortLift : RepliedOnce q s (takeAbortLift q s) := by
  unfold takeAbortLift
  split
  · exact repliedOnce_answer rfl _
  · split_ifs
    · exact repliedOnce_answer rfl _
    · exact repliedOnce_answer rfl _
    · split
      · exact repliedOnce_answer rfl _
      · exact repliedOnce_answer (finishLift_ports ..) _
      · exact repliedOnce_answer rfl _
      · exact repliedOnce_answer (finishLift_ports ..) _
      · exact repliedOnce_answer rfl _
      · exact repliedOnce_answer rfl _

theorem replied_takeCollectOutcome : RepliedOnce q s (takeCollectOutcome q s) := by
  unfold takeCollectOutcome
  split
  · exact repliedOnce_answer rfl _
  · split <;> exact repliedOnce_answer rfl _

/-- The requests that write more of the ports than their own reply. -/
def writesPorts : Request → Bool
  | .openData | .readLineStatus => true
  | _ => false

/-- Every other request is answered once, or deferred once (R183). -/
theorem replied_serve {r : Request} (h : writesPorts r = false) : RepliedOnce q s (serve r q s) := by
  by_cases hread : onlyReads r = true
  · obtain ⟨a, ha⟩ := serve_reads hread q s
    rw [ha]
    exact repliedOnce_answer rfl a
  · cases r with
    | attentionQuery => exact repliedOnce_answer (queried_ports ..) _
    | setAttention u m => exact replied_takeSetAttention q s u m
    | writeData k i fs => exact replied_takeWriteData q s k i fs
    | closeData w => exact replied_takeCloseData q s w
    | change ch => exact replied_takeChange q s ch
    | evaluateNow => exact repliedOnce_answer (s := s) (u := raiseRoutine s) rfl _
    | setEvaluation m i => exact replied_takeSetEvaluation q s m i
    | evaluateProspect sc => exact replied_takeEvaluateProspect q s sc
    | setCriterion i c l hy n a => exact replied_takeSetCriterion q s i c l hy n a
    | setRange a b => exact replied_takeSetRange q s a b
    | resetSlot i => exact replied_takeResetSlot q s i
    | inject i v => exact replied_takeInject q s i v
    | withdraw i => exact replied_takeWithdraw q s i
    | readAlarms => exact .inl ⟨_, rfl⟩
    | pushTrial l => exact replied_takePushTrial q s l
    | popTrial => exact replied_takePopTrial q s
    | clearTrials => exact repliedOnce_answer (s := s) (u := s.withTrials ⟨[], false⟩) rfl _
    | drafts a f => exact replied_takeDrafts q s a f
    | draftZero => exact replied_takeDraftZero q s
    | liftRequest t d o hk p sh => exact replied_takeLiftRequest q s t d o hk p sh
    | joinLift l t o => exact replied_takeJoinLift q s l t o
    | abortLift => exact replied_takeAbortLift q s
    | collectOutcome => exact replied_takeCollectOutcome q s
    | openData | readLineStatus => cases h
    | _ => exact absurd rfl hread

end Sys2Proof.Machine
end

section
/-!
SUPPORT. The order of the ports over a step (R181, R183, R184).
-/

namespace Sys2Proof.Machine
open Sys2Proof

/-! ### The requests that write more of the ports -/

/-- The replies to the held changes that a load discards leave a request awaiting its own (R11). -/
theorem awaits_rejectHeld {c : Caller} {s : State} (h : Awaits c s) : Awaits c (rejectHeld s) := by
  have hfold (l : List Held) {t : State} (ht : Awaits c t) :
      Awaits c (l.foldl (fun t x => deliver x.caller (bare .notInService) t) t) := by
    induction l generalizing t with
    | nil => exact ht
    | cons x l ih => exact ih (ht.deliver ..)
  exact hfold s.cond.hold (h.of_same rfl)

theorem abortSlung_ports (c : Crane) (s : State) : (abortSlung c s).ports = s.ports := by
  unfold abortSlung
  split
  · exact finishLift_ports ..
  · rfl

theorem awaits_openLoad {c : Caller} {s : State} (h : Awaits c s) : Awaits c (openLoad s) := by
  have hlifted : Awaits c (abortSlung .crane2 (abortSlung .crane1 s)) :=
    h.of_same ((abortSlung_ports ..).trans (abortSlung_ports ..))
  have hemptied : Awaits c (emptyResults (abandonJobs (emptyCondition (eraseImage
      (abortSlung .crane2 (abortSlung .crane1 s)))))) := hlifted.of_same rfl
  exact (awaits_rejectHeld hemptied).of_same ((changeMode_ports ..).trans (settle_ports _))

theorem ordered_takeOpenData {c : Caller} {s : State} (h : Awaits c s) : PortsOrdered (takeOpenData c s) := by
  unfold takeOpenData
  split
  · exact h.answer _
  · exact (awaits_openLoad h).answer _

/-- The counters that READ LINE STATUS has reported are 0 (R181). -/
theorem ordered_takeReadLineStatus {c : Caller} {s : State} (h : Awaits c s) : PortsOrdered (takeReadLineStatus c s) := by
  have hanswered := h.answer ⟨.done, .lineStatus (s.ports.get c.port).counters (portRole c.port) s.rate⟩
  exact hanswered.modifyPort ((hanswered.port c.port).counters fun e => by cases e <;> exact Nat.zero_le 255)

/-- A request that awaits its reply gets one reply at most from its owning block. -/
theorem ordered_serve (r : Request) {c : Caller} {s : State} (h : Awaits c s) : PortsOrdered (serve r c s) := by
  by_cases hr : writesPorts r = true
  · cases r with
    | openData => exact ordered_takeOpenData h
    | readLineStatus => exact ordered_takeReadLineStatus h
    | _ => cases hr
  · exact (replied_serve c s (Bool.eq_false_iff.2 hr)).ordered h

/-! ### The tests of R182 -/

/-- A request arriving keeps the ports in order, where its owning block replies once. -/
theorem ordered_receive {p : Port} {kind tag : Byte} {k : Option ReqKind} {body : Caller → State → State} {s : State}
    (h : PortsOrdered s) (hbody : ∀ k' c t, k = some k' → Awaits c t → PortsOrdered (body c t)) :
    PortsOrdered (receive p kind tag k body s) := by
  unfold receive
  split
  · exact h
  · split
    · exact ordered_refuseBusy h p kind tag
    · next hout =>
      have hopen := awaits_openRequest h p kind tag (Option.not_isSome_iff_eq_none.1 hout)
      cases k with
      | none => exact (hopen.countError .unknown).answer _
      | some k =>
        show PortsOrdered (receiveKnown k body _ _)
        unfold receiveKnown
        split_ifs
        · exact hopen.answer _
        · exact (hopen.countError .role).answer _
        · split
          · exact hopen.answer _
          · exact (hbody k _ _ rfl hopen).of_same (arbitrate_ports ..)

theorem ordered_servePayload (k : ReqKind) (payload : List Byte) {c : Caller} {s : State} (h : Awaits c s) :
    PortsOrdered (servePayload k payload c s) := by
  unfold servePayload
  split
  · exact h.answer _
  · exact ordered_serve _ h

theorem ordered_handOn (p : Port) (kind tag : Byte) (payload : List Byte) {s : State} (h : PortsOrdered s) :
    PortsOrdered (handOn p kind tag payload s) := by
  refine ordered_receive h fun k c t hk ht => ?_
  rw [hk]
  exact ordered_servePayload k payload ht

theorem ordered_rxChar (p : Port) (c : RxChar) {s : State} (h : PortsOrdered s) : PortsOrdered (rxChar p c s) := by
  have hrx (r : Receiver) : PortsOrdered (s.setRx p r) := ordered_setRx h p r
  have htake (bytes : List Byte) : PortsOrdered (takeChar p bytes s) := by
    unfold takeChar
    split
    · exact hrx _
    · exact ordered_countError (hrx _) ..
    · exact ordered_countError (hrx _) ..
    · exact ordered_handOn _ _ _ _ (hrx _)
  unfold rxChar
  split
  · exact h
  · exact h
  · split
    · exact htake _
    · exact ordered_countError (hrx _) ..
  · split
    · exact htake _
    · exact ordered_countError (hrx _) ..

theorem ordered_rxChars (p : Port) (cs : List RxChar) {s : State} (h : PortsOrdered s) : PortsOrdered (rxChars p cs s) := by
  unfold rxChars
  induction cs generalizing s with
  | nil => exact h
  | cons c cs ih => exact ih (ordered_rxChar p c h)

theorem ordered_rxGap (p : Port) {s : State} (h : PortsOrdered s) : PortsOrdered (rxGap p s) := by
  unfold rxGap
  split
  · exact ordered_countError (ordered_setRx h ..) ..
  · exact ordered_setRx h ..
  · exact h
  · exact h

/-! ### The events -/

/-- Ports that a restart has made fresh are in order (R187). -/
theorem ordered_fresh {s t : State} (h : t.ports = s.ports.map (fun q => PortState.fresh q.nextMark)) : PortsOrdered t := by
  unfold PortsOrdered
  rw [h]
  exact ⟨fresh_ordered _, fresh_ordered _, fresh_ordered _, fresh_ordered _⟩

theorem ordered_coldRestart (straps : Straps) (s : State) : PortsOrdered (coldRestart straps s) := ordered_fresh (s := s) rfl

theorem ordered_warmRestart (cause : RestartCause) (straps : Straps) (s : State) :
    PortsOrdered (warmRestart cause straps s) := by
  refine ordered_fresh (s := s) ?_
  rw [warmRestart_eq]

theorem ordered_supplyRises (retained : Bool) (straps : Straps) (s : State) :
    PortsOrdered (supplyRises retained straps s) := by
  unfold supplyRises
  split
  · exact ordered_warmRestart ..
  · exact ordered_coldRestart ..

theorem enterService_ports (s : State) : (enterService s).ports = s.ports := by rw [enterService_eq]

theorem loadSlots_ports (s : State) : (loadSlots s).ports = s.ports := by rw [loadSlots_eq]

theorem verifyEnds_ports (s : State) : (verifyEnds s).ports = s.ports := by
  unfold verifyEnds
  split_ifs
  · rfl
  · exact changeMode_ports ..
  · exact changeMode_ports ..
  · exact (enterService_ports _).trans (loadSlots_ports s)
  · exact enterService_ports _

theorem ordered_commitEnds {s : State} (h : PortsOrdered s) : PortsOrdered (commitEnds s) := by
  unfold commitEnds
  split
  · exact h
  · refine ordered_deliver ?_ ..
    exact h.of_same ((enterService_ports _).trans (loadSlots_ports _))

theorem startJob_ports (s : State) : (startJob s).ports = s.ports := by rw [startJob_eq]

/-- Each held change at its turn is answered by its own deferred reply (R84). -/
theorem ordered_capturesComplete {s : State} (h : PortsOrdered s) : PortsOrdered (capturesComplete s) := by
  have hfold (l : List Held) {t : State} (ht : PortsOrdered t) : PortsOrdered (l.foldl applyHeld t) := by
    induction l generalizing t with
    | nil => exact ht
    | cons x l ih => exact ih (ordered_deliver (ht.of_same (applyChange_ports ..)) ..)
  unfold capturesComplete
  split
  · exact h
  · split
    · have happlied := hfold s.cond.hold (t := s.withCond { s.cond with hold := [] }) (h.of_same rfl)
      exact happlied.of_same rfl
    · exact h

theorem ordered_routineCompletes {s t : State} (h : PortsOrdered s) (hst : routineCompletes s = .next t) :
    PortsOrdered t := by
  unfold routineCompletes at hst
  split at hst
  · split at hst
    · cases hst
    · cases hst
      exact h.of_same ((arbitrate_ports ..).trans (by rw [completeRoutine_eq]))
  · cases hst
    exact h

theorem ordered_settleCheck (lead : Crane) (r : CheckReport) {s : State} (h : PortsOrdered s) (c : Crane) :
    PortsOrdered (settleCheck lead r s c) := by
  unfold settleCheck
  split
  · refine ordered_deliverTo ?_ ..
    exact h.of_same rfl
  · exact h

theorem ordered_completeLift (lead : Crane) (v : Version) (path final : FigureSet) {s : State} (h : PortsOrdered s) :
    PortsOrdered (completeLift lead v path final s) := by
  have hfold (r : CheckReport) (cs : List Crane) {t : State} (ht : PortsOrdered t) :
      PortsOrdered (cs.foldl (settleCheck lead r) t) := by
    induction cs generalizing t with
    | nil => exact ht
    | cons c cs ih => exact ih (ordered_settleCheck lead r ht c)
  exact (hfold _ _ h).of_same rfl

theorem ordered_liftCompletes {s t : State} (h : PortsOrdered s) (hst : liftCompletes s = .next t) : PortsOrdered t := by
  unfold liftCompletes at hst
  split at hst
  · split at hst
    · cases hst
      exact (ordered_completeLift _ _ _ _ h).of_same (arbitrate_ports ..)
    · cases hst
  · cases hst
    exact h

theorem ordered_completeProspect (c : Caller) (r : ProspectResult) {s : State} (h : PortsOrdered s) :
    PortsOrdered (completeProspect c r s) := by
  refine ordered_deliver ?_ ..
  exact h.of_same rfl

theorem ordered_prospectCompletes {s t : State} (h : PortsOrdered s) (hst : prospectCompletes s = .next t) :
    PortsOrdered t := by
  unfold prospectCompletes at hst
  split at hst
  · split at hst
    · cases hst
    · cases hst
      exact (ordered_completeProspect _ _ h).of_same (arbitrate_ports ..)
  · cases hst
    exact h

theorem intervalExpires_ports (s : State) : (intervalExpires s).ports = s.ports := by
  unfold intervalExpires
  split
  · rfl
  · exact (arbitrate_ports ..).trans (startInterval_ports _)

theorem ordered_joinWindowExpires (c : Crane) {s : State} (h : PortsOrdered s) : PortsOrdered (joinWindowExpires c s) := by
  unfold joinWindowExpires
  split
  · refine ordered_deliverTo ?_ ..
    exact h.of_same (finishLift_ports ..)
  · exact h

theorem grantLapses_ports (c : Crane) (s : State) : (grantLapses c s).ports = s.ports := by
  unfold grantLapses
  split
  · exact finishLift_ports ..
  · rfl

theorem reportLapses_ports (c : Crane) (s : State) : (reportLapses c s).ports = s.ports := by
  unfold reportLapses
  split <;> rfl

theorem readingStales_ports (s : State) : (readingStales s).ports = s.ports := by
  unfold readingStales
  split <;> rfl

theorem pulseEnds_ports (p : Port) (s : State) : (pulseEnds p s).ports = s.ports := by
  unfold pulseEnds
  split <;> rfl

/-! ### Every step -/

theorem ordered_exec {i : Instr} {s t : State} (h : PortsOrdered s) (hst : exec i s = .next t) : PortsOrdered t := by
  cases hi : requestRow i with
  | some row =>
    obtain ⟨p, tag, r⟩ := row
    rw [exec_requestRow s hi] at hst
    cases hst
    exact ordered_receive h fun _ _ _ _ ht => ordered_serve r ht
  | none =>
    cases i with
    | telegramReceived p chars => cases hst; exact ordered_rxChars p chars h
    | characterReceived p c => cases hst; exact ordered_rxChar p c h
    | receiveGapTimeout p => cases hst; exact ordered_rxGap p h
    | replySent p => cases hst; exact h.modifyPort (h.port p).sent
    | breakLine p => cases hst; exact h.modifyPort (h.port p).broken
    | breakRelease p => cases hst; exact h.modifyPort (h.port p).released
    | supplyRise retained straps => cases hst; exact ordered_supplyRises ..
    | resetPin straps => cases hst; exact ordered_warmRestart ..
    | verifyEnd => cases hst; exact h.of_same ((arbitrate_ports ..).trans (verifyEnds_ports s))
    | commitEnd => cases hst; exact (ordered_commitEnds h).of_same (arbitrate_ports ..)
    | jobStart => cases hst; exact h.of_same (startJob_ports s)
    | captureComplete => cases hst; exact ordered_capturesComplete h
    | routineCompletion => exact ordered_routineCompletes h hst
    | liftCheckCompletion => exact ordered_liftCompletes h hst
    | prospectCompletion => exact ordered_prospectCompletes h hst
    | intervalTimerExpiry => cases hst; exact h.of_same (intervalExpires_ports s)
    | joinWindowExpiry c => cases hst; exact ordered_joinWindowExpires c h
    | grantLapseExpiry c => cases hst; exact h.of_same (grantLapses_ports c s)
    | reportTimerExpiry c => cases hst; exact h.of_same (reportLapses_ports c s)
    | draftReadingStale => cases hst; exact h.of_same (readingStales_ports s)
    | attentionPulseEnd p => cases hst; exact h.of_same (pulseEnds_ports p s)
    | _ => cases hi

/-- Settles O55: a request awaits its reply from test 2 of R182 on and gets one, and a deferred reply needs its entry. -/
theorem everyStepKeepsThePortsInOrder : Obligations.EveryStepKeepsThePortsInOrder := by
  intro s t h hst
  unfold step at hst
  split at hst
  · cases hst
    exact h.of_same rfl
  · next c rest _ => exact ordered_exec (s := s.withPending rest) (h.of_same rfl) hst

end Sys2Proof.Machine
end

section
/-!
SUPPORT. The line of one port: its error counters (R181), the end of a reply and breaks (R183 to R185), and its receiver
(R180).
-/

namespace Sys2Proof.Machine
open Sys2Proof

/-! ### Counters (R181) -/

/-- READ LINE STATUS passes the tests of R182 outside VERIFY, on every port. -/
theorem readLineStatus_accepted {m : ServiceMode} (h : m ≠ .verify) : modeAnswer m .readLineStatus = none := by
  cases m with
  | verify => exact absurd rfl h
  | inService | dataLoading | dataFault => rfl

/-- The counters reported are those before the request, and then they are 0. -/
theorem exec_readLineStatus {p : Port} {tag : Byte} {s : State} (h : Ready s p) (hm : s.ship.mode ≠ .verify) :
    exec (.readLineStatus p tag) s = .next { s with
      ports := (answeredPorts s p .readLineStatus tag
        ⟨.done, .lineStatus (s.ports.get p).counters (portRole p) s.rate⟩).modify p
          (fun q => { q with counters := .zero }) } := by
  have hcounters : ((openRequest (nextCaller s p (kindByte .readLineStatus) tag) s).ports.get p).counters =
      (s.ports.get p).counters := by cases p <;> rfl
  have hanswered := answer_open s p .readLineStatus tag
    ⟨.done, .lineStatus (s.ports.get p).counters (portRole p) s.rate⟩
  have hserve := congrArg (fun t : State => t.modifyPort p (fun q => { q with counters := .zero })) hanswered
  rw [← hcounters] at hserve ⊢
  rw [exec_requestRow s (rfl : requestRow (.readLineStatus p tag) = some (p, tag, .readLineStatus)),
    request_taken (r := .readLineStatus) h (fun hv => absurd hv hm) rfl (readLineStatus_accepted hm)]
  exact congrArg Host.Outcome.next ((congrArg (arbitrate s.eval) hserve).trans (arbitrate_same rfl rfl rfl rfl rfl))

/-- Settles O6: one more below 255 and nothing at 255, one counter alone, and the report that clears them. -/
theorem errorCountersSaturate : Obligations.ErrorCountersSaturate := by
  refine ⟨fun p e s => ⟨fun hlow => ?_, fun hfull => ?_⟩, read_bump, fun p tag s h hm => exec_readLineStatus h hm⟩
  · rw [countError_eq, if_pos hlow]
  · rw [countError_eq, if_neg (Nat.not_lt.2 hfull)]

/-! ### The transmitter and breaks (R183 to R185) -/

/-- The end of a port's first reply, with the request that it answers (R183). -/
theorem sent_cons {q : PortState} {e : TxEntry} {rest : List TxEntry} (h : q.tx = e :: rest) :
    q.sent = { q with
      tx := rest
      outstanding := match q.outstanding, e.answers with
        | some c, some m => if c.mark = m then none else q.outstanding
        | _, _ => q.outstanding } := by
  unfold PortState.sent
  rw [h]
  dsimp only
  cases hout : q.outstanding with
  | none => simp [answersIt]
  | some c =>
    cases hanswers : e.answers with
    | none => simp [answersIt]
    | some m => simp [answersIt]

/-- A change of a port that leaves its state is none. -/
theorem modifyPort_same {s : State} {p : Port} {f : PortState → PortState} (h : f (s.ports.get p) = s.ports.get p) :
    s.modifyPort p f = s := by
  unfold State.modifyPort PerPort.modify
  rw [h, PerPort.set_get]
  rfl

/-- A change of a port writes that port alone. -/
theorem modifyPort_eq {s : State} {p : Port} {f : PortState → PortState} {q : PortState} (h : f (s.ports.get p) = q) :
    s.modifyPort p f = { s with ports := s.ports.set p q } := by
  subst h
  rfl

/-- Settles O7: the end of a reply, the break and its release, each on its port alone. -/
theorem replySentAndBreakActOnOnePort : Obligations.ReplySentAndBreakActOnOnePort := by
  refine ⟨fun p s => ⟨fun hnil => ?_, fun e rest htx => ?_⟩, fun p s => ⟨fun h => ?_, fun h => ?_, fun h => ?_, fun h => ?_⟩⟩
  · have hsent : (s.ports.get p).sent = s.ports.get p := by
      unfold PortState.sent
      rw [hnil]
    exact congrArg Host.Outcome.next (modifyPort_same hsent)
  · exact congrArg Host.Outcome.next (modifyPort_eq (sent_cons htx))
  · exact congrArg Host.Outcome.next (modifyPort_eq (if_neg h))
  · exact congrArg Host.Outcome.next (modifyPort_same (if_pos h))
  · exact congrArg Host.Outcome.next (modifyPort_eq (if_pos h))
  · exact congrArg Host.Outcome.next (modifyPort_same (if_neg h))

/-! ### What the characters assembled make (R178 to R180) -/

theorem toNat_byteOf (v : Int) : (byteOf v).toNat = (v % 256).toNat := BitVec.toNat_ofInt v

/-- A length, up to the greatest that a byte holds, is spelled by its byte. -/
theorem toNat_byteOf_nat {n : Nat} (h : n < 256) : (byteOf (n : Int)).toNat = n := by
  rw [toNat_byteOf]
  omega

/-- The tests of the characters from the length byte on, in their order. -/
theorem assembled_eq (k t n : Byte) (rest : List Byte) : assembled (k :: t :: n :: rest) =
    if rest = [] ∧ 120 < n.toNat then .oversize
    else if rest.length = n.toNat + 2 then
      (if rest.drop n.toNat = crcBytes (crc16 (k :: t :: n :: rest.take n.toNat))
       then .complete k t (rest.take n.toNat) else .badCheck)
    else .open := rfl

theorem assembled_oversize (k t : Byte) {n : Byte} (h : 120 < n.toNat) : assembled [k, t, n] = .oversize :=
  if_pos ⟨rfl, h⟩

/-- Fewer characters than the length byte and the check ask for leave the telegram open. -/
theorem assembled_short {k t n : Byte} {rest : List Byte} (hn : rest = [] → n.toNat ≤ 120) (h : rest.length ≤ n.toNat + 1) :
    assembled (k :: t :: n :: rest) = .open := by
  have hsize : ¬ (rest = [] ∧ 120 < n.toNat) := fun ⟨hnil, hover⟩ => absurd hover (Nat.not_lt.2 (hn hnil))
  rw [assembled_eq, if_neg hsize, if_neg (by omega)]

/-- A whole telegram is complete when its two last characters are its check, and a bad check otherwise (R179). -/
theorem assembled_whole (k t : Byte) {payload : List Byte} (h : payload.length ≤ 120) (a b : Byte) :
    assembled (k :: t :: byteOf payload.length :: (payload ++ [a, b])) =
      if [a, b] = crcBytes (crc16 (k :: t :: byteOf payload.length :: payload))
      then .complete k t payload else .badCheck := by
  have hlen : (byteOf (payload.length : Int)).toNat = payload.length := toNat_byteOf_nat (by omega)
  rw [assembled_eq, hlen, if_neg (by simp), if_pos (by simp), List.drop_left, List.take_left]

/-- A character after `l` leaves the telegram open, unless it is an oversize length byte or the last of the check. -/
theorem assembled_open {l : List Byte} {d : Byte} (hlen : ∀ k t n rest, l = k :: t :: n :: rest → rest.length ≤ n.toNat)
    (hover : l.length = 2 → d.toNat ≤ 120) : assembled (l ++ [d]) = .open := by
  match l with
  | [] => rfl
  | [_] => rfl
  | [k, t] => exact assembled_short (fun _ => hover rfl) (Nat.zero_le _)
  | k :: t :: n :: rest =>
    have hrest := hlen k t n rest rfl
    refine assembled_short (rest := rest ++ [d]) (fun hnil => ?_) ?_
    · exact absurd hnil (List.append_ne_nil_of_right_ne_nil rest (List.cons_ne_nil d []))
    · rw [List.length_append]
      exact Nat.succ_le_succ hrest

/-! ### The receiver (R180) -/

section
variable {p : Port} {s : State}

@[simp] theorem setRx_rx (s : State) (p : Port) (r : Receiver) : ((s.setRx p r).ports.get p).rx = r := by
  unfold State.setRx
  rw [modifyPort_ports, PerPort.get_modify_same]

@[simp] theorem setRx_setRx (s : State) (p : Port) (r x : Receiver) : (s.setRx p r).setRx p x = s.setRx p x := by
  cases p <;> rfl

theorem setRx_same {r : Receiver} (h : (s.ports.get p).rx = r) : s.setRx p r = s :=
  modifyPort_same (by rw [← h])

theorem rxChar_waiting (h : (s.ports.get p).rx = .waiting) (d : Byte) : rxChar p ⟨d, true⟩ s = takeChar p [d] s := by
  unfold rxChar
  rw [h]
  rfl

theorem rxChar_assembling {l : List Byte} (h : (s.ports.get p).rx = .assembling l) (d : Byte) :
    rxChar p ⟨d, true⟩ s = takeChar p (l ++ [d]) s := by
  unfold rxChar
  rw [h]
  rfl

/-- A character with a bad stop bit is counted, and the rest of the telegram is discarded. -/
theorem rxChar_bad (d : Byte) (h : (s.ports.get p).rx = .waiting ∨ ∃ l, (s.ports.get p).rx = .assembling l) :
    rxChar p ⟨d, false⟩ s = countError p .framing (s.setRx p .discarding) := by
  unfold rxChar
  rcases h with h | ⟨l, h⟩
  · rw [h]
    rfl
  · rw [h]
    rfl

/-- A receiver that discards takes no character, and one in a break neither. -/
theorem rxChar_ignored (c : RxChar) (h : (s.ports.get p).rx = .discarding ∨ (s.ports.get p).rx = .inBreak) :
    rxChar p c s = s := by
  unfold rxChar
  rcases h with h | h
  · rw [h]
  · rw [h]

theorem takeChar_open {l : List Byte} (h : assembled l = .open) : takeChar p l s = s.setRx p (.assembling l) := by
  unfold takeChar
  rw [h]

theorem takeChar_oversize {l : List Byte} (h : assembled l = .oversize) :
    takeChar p l s = countError p .oversize (s.setRx p .discarding) := by
  unfold takeChar
  rw [h]

/-- The last character of a telegram hands it on, or counts its bad check. -/
theorem takeChar_whole (k t : Byte) {payload : List Byte} (h : payload.length ≤ 120) (a b : Byte) :
    takeChar p (k :: t :: byteOf payload.length :: (payload ++ [a, b])) s =
      if [a, b] = crcBytes (crc16 (k :: t :: byteOf payload.length :: payload))
      then handOn p k t payload (s.setRx p .waiting) else countError p .check (s.setRx p .waiting) := by
  unfold takeChar
  rw [assembled_whole k t h]
  by_cases hcheck : [a, b] = crcBytes (crc16 (k :: t :: byteOf payload.length :: payload))
  · rw [if_pos hcheck, if_pos hcheck]
  · rw [if_neg hcheck, if_neg hcheck]

theorem rxGap_assembling {l : List Byte} (h : (s.ports.get p).rx = .assembling l) :
    rxGap p s = countError p .gap (s.setRx p .waiting) := by
  unfold rxGap
  rw [h]

theorem rxGap_discarding (h : (s.ports.get p).rx = .discarding) : rxGap p s = s.setRx p .waiting := by
  unfold rxGap
  rw [h]

theorem rxGap_ignored (h : (s.ports.get p).rx = .waiting ∨ (s.ports.get p).rx = .inBreak) : rxGap p s = s := by
  unfold rxGap
  rcases h with h | h
  · rw [h]
  · rw [h]

end

/-- Settles O4: the rows of R180 by the state of the receiver and what the characters make. -/
theorem receiverDealsWithEachEvent : Obligations.ReceiverDealsWithEachEvent := by
  intro p s d rx good bad
  have hnext {t u : State} (h : t = u) : (Host.Outcome.next t : Answered) = .next u := congrArg Host.Outcome.next h
  refine ⟨fun h => ?first, fun h => ?framing, fun l h => ?framingLater, fun k t h hd => ?oversize,
    fun k t payload check h hp => ?whole, fun l h hlen hover => ?opens, fun l h => ?gap, fun h => ?discards,
    fun h => ?resumes, fun h => ?quiet, fun h => ?held⟩
  case first => exact hnext ((rxChar_waiting h d).trans (takeChar_open rfl))
  case framing => exact hnext (rxChar_bad d (.inl h))
  case framingLater => exact hnext (rxChar_bad d (.inr ⟨l, h⟩))
  case oversize => exact hnext ((rxChar_assembling h d).trans (takeChar_oversize (assembled_oversize k t hd)))
  case whole =>
    refine hnext ((rxChar_assembling h d).trans ?_)
    rw [List.append_assoc]
    exact takeChar_whole k t hp check d
  case opens => exact hnext ((rxChar_assembling h d).trans (takeChar_open (assembled_open hlen hover)))
  case gap => exact hnext (rxGap_assembling h)
  case discards => exact ⟨hnext (rxChar_ignored good (.inl h)), hnext (rxChar_ignored bad (.inl h))⟩
  case resumes => exact hnext (rxGap_discarding h)
  case quiet => exact hnext (rxGap_ignored (.inl h))
  case held =>
    exact ⟨hnext (rxChar_ignored good (.inr h)), hnext (rxChar_ignored bad (.inr h)), hnext (rxGap_ignored (.inr h))⟩

end Sys2Proof.Machine
end

section
/-!
SUPPORT. Telegrams (R178, R179): the characters of a request from a waiting receiver to its owning block, the payloads of the
requests, and the telegrams of the replies.
-/

namespace Sys2Proof.Machine
open Sys2Proof

/-! ### A telegram that arrives whole (R180) -/

/-- The characters of a line whose stop bits are all good. -/
def goodChars (bytes : List Byte) : List RxChar := bytes.map (fun b => ⟨b, true⟩)

/-- Characters are assembled while the telegram stays open. -/
theorem rxChars_open {p : Port} {cs : List Byte} {l : List Byte} {s : State} (h : (s.ports.get p).rx = .assembling l)
    (hopen : ∀ m d rest, cs = m ++ d :: rest → assembled (l ++ m ++ [d]) = .open) :
    rxChars p (goodChars cs) s = s.setRx p (.assembling (l ++ cs)) := by
  induction cs generalizing l s with
  | nil =>
    rw [List.append_nil]
    exact (setRx_same h).symm
  | cons c cs ih =>
    have hfirst : rxChar p ⟨c, true⟩ s = s.setRx p (.assembling (l ++ [c])) := by
      rw [rxChar_assembling h, takeChar_open]
      simpa using hopen [] c cs rfl
    have hlater := ih (s := s.setRx p (.assembling (l ++ [c]))) (setRx_rx ..) fun m d rest hcs => by
      simpa using hopen (c :: m) d rest (congrArg (c :: ·) hcs)
    calc rxChars p (goodChars (c :: cs)) s = rxChars p (goodChars cs) (rxChar p ⟨c, true⟩ s) := rfl
      _ = s.setRx p (.assembling (l ++ c :: cs)) := by
        rw [hfirst, hlater, setRx_setRx, List.append_assoc, List.singleton_append]

/-- A telegram stays open up to the first byte of its check. -/
theorem assembled_within (k t : Byte) {payload : List Byte} (hp : payload.length ≤ 120) {a d : Byte} {m rest : List Byte}
    (h : t :: byteOf payload.length :: (payload ++ [a]) = m ++ d :: rest) : assembled ([k] ++ m ++ [d]) = .open := by
  have hlen : (byteOf (payload.length : Int)).toNat = payload.length := toNat_byteOf_nat (by omega)
  match m with
  | [] => rfl
  | [x] =>
    obtain ⟨rfl, rfl, -⟩ : t = x ∧ byteOf payload.length = d ∧ payload ++ [a] = rest := by simpa using h
    exact assembled_short (rest := []) (fun _ => hlen.le.trans hp) (Nat.zero_le _)
  | x :: y :: m =>
    obtain ⟨rfl, rfl, hbody⟩ : t = x ∧ byteOf payload.length = y ∧ payload ++ [a] = m ++ d :: rest := by simpa using h
    have hsize := congrArg List.length hbody
    simp only [List.length_append, List.length_cons, List.length_nil] at hsize
    refine assembled_short (rest := m ++ [d]) (fun hnil => by simp at hnil) ?_
    simp only [List.length_append, List.length_cons, List.length_nil]
    omega

/-- A telegram that arrives whole at a waiting receiver is handed on at its last character, or its bad check is counted. -/
theorem rxChars_telegram {p : Port} {s : State} (h : (s.ports.get p).rx = .waiting) (k t : Byte) {payload : List Byte}
    (hp : payload.length ≤ 120) (a b : Byte) :
    rxChars p (goodChars (k :: t :: byteOf payload.length :: payload ++ [a, b])) s =
      if [a, b] = crcBytes (crc16 (k :: t :: byteOf payload.length :: payload))
      then handOn p k t payload s else countError p .check s := by
  have hfirst : rxChar p ⟨k, true⟩ s = s.setRx p (.assembling [k]) := by rw [rxChar_waiting h, takeChar_open rfl]
  have hbody : rxChars p (goodChars (t :: byteOf payload.length :: (payload ++ [a]))) (s.setRx p (.assembling [k])) =
      s.setRx p (.assembling (k :: t :: byteOf payload.length :: (payload ++ [a]))) := by
    rw [rxChars_open (setRx_rx ..) fun m d rest => assembled_within k t hp, setRx_setRx]
    rfl
  have hlast := rxChar_assembling (setRx_rx s p (.assembling (k :: t :: byteOf payload.length :: (payload ++ [a])))) b
  have hsplit : goodChars (k :: t :: byteOf payload.length :: payload ++ [a, b]) =
      ⟨k, true⟩ :: (goodChars (t :: byteOf payload.length :: (payload ++ [a])) ++ [⟨b, true⟩]) := by simp [goodChars]
  calc rxChars p (goodChars (k :: t :: byteOf payload.length :: payload ++ [a, b])) s
      = rxChar p ⟨b, true⟩
          (rxChars p (goodChars (t :: byteOf payload.length :: (payload ++ [a]))) (rxChar p ⟨k, true⟩ s)) := by
        rw [hsplit]
        unfold rxChars
        rw [List.foldl_cons, List.foldl_append]
        rfl
    _ = takeChar p (k :: t :: byteOf payload.length :: (payload ++ [a, b]))
          (s.setRx p (.assembling (k :: t :: byteOf payload.length :: (payload ++ [a])))) := by
        rw [hfirst, hbody, hlast]
        simp
    _ = _ := by
        rw [takeChar_whole k t hp a b, setRx_setRx, setRx_same h]

/-- A telegram with its own check is handed on. -/
theorem exec_telegram {p : Port} {s : State} (h : (s.ports.get p).rx = .waiting) (kind tag : Byte) {payload : List Byte}
    (hp : payload.length ≤ 120) :
    exec (.telegramReceived p (goodChars (telegram kind tag payload))) s = .next (handOn p kind tag payload s) :=
  congrArg Host.Outcome.next ((rxChars_telegram h kind tag hp _ _).trans (if_pos rfl))

/-! ### From the telegram to the owning block (R182) -/

/-- The kind numbers name the kinds (section 8.2). -/
theorem kindOfByte_eq_some_iff (b : Byte) (k : ReqKind) : kindOfByte b = some k ↔ kindByte k = b := by
  refine ⟨fun h => beq_iff_eq.1 (List.find?_some (p := fun k => kindByte k == b) h), fun h => ?_⟩
  subst h
  exact (Laws.RequestKind.kind_named k).1

/-- A telegram whose payload fits is the request that it spells. -/
theorem handOn_fits {kind : Byte} {k : ReqKind} {payload : List Byte} {r : Request} (hk : kindOfByte kind = some k)
    (hr : requestOf k payload = some r) (p : Port) (tag : Byte) (s : State) :
    handOn p kind tag payload s = request p tag r s := by
  obtain rfl := (kindOfByte_eq_some_iff kind k).1 hk
  obtain rfl := requestOf_kind hr
  have hserve : servePayload r.kind payload = serve r := by
    funext q t
    unfold servePayload
    rw [hr]
  unfold handOn request
  rw [hk]
  dsimp only
  rw [hserve]

/-- A telegram whose payload does not fit is answered BAD ARGUMENT where its kind is accepted. -/
theorem handOn_misfit {p : Port} {tag : Byte} {k : ReqKind} {payload : List Byte} {s : State}
    (hr : requestOf k payload = none) (h : Ready s p) (hv : s.ship.mode ≠ .verify)
    (hrole : roleAllows k (portRole p) = true) (hm : modeAnswer s.ship.mode k = none) :
    handOn p (kindByte k) tag payload s =
      { s with ports := answeredPorts s p k tag ⟨.badArgument, misfitBody s k⟩ } := by
  have hport : (nextCaller s p (kindByte k) tag).port = p := rfl
  have hmode : (openRequest (nextCaller s p (kindByte k) tag) s).ship.mode = s.ship.mode := rfl
  have hbody : misfitBody (openRequest (nextCaller s p (kindByte k) tag) s) k = misfitBody s k := by cases k <;> rfl
  have hanswered : servePayload k payload (nextCaller s p (kindByte k) tag)
      (openRequest (nextCaller s p (kindByte k) tag) s) =
      { s with ports := answeredPorts s p k tag ⟨.badArgument, misfitBody s k⟩ } := by
    unfold servePayload
    rw [hr]
    dsimp only
    rw [hbody, answer_open]
  unfold handOn receive
  rw [if_neg h.1, if_neg (by simp [h.2]), (Laws.RequestKind.kind_named k).1]
  dsimp only
  unfold receiveKnown
  rw [hmode, hport, if_neg (fun x => hv x.1), if_neg (by simp [hrole]), hm]
  dsimp only
  rw [hanswered]
  exact arbitrate_same rfl rfl rfl rfl rfl

/-- A telegram of an unknown kind is counted, and answered UNKNOWN. -/
theorem handOn_unknown {p : Port} {kind tag : Byte} {s : State} (payload : List Byte) (hk : kindOfByte kind = none)
    (h : Ready s p) :
    handOn p kind tag payload s =
      let t := countError p .unknown s
      { t with ports := t.ports.modify p (fun q => { q with
        outstanding := some ⟨p, kind, tag, q.nextMark⟩, nextMark := q.nextMark + 1,
        tx := q.tx ++ [⟨⟨replyKind kind, tag, ⟨.unknown, .statusOnly⟩⟩, some q.nextMark⟩] }) } := by
  unfold handOn receive
  rw [if_neg h.1, if_neg (by simp [h.2]), hk]
  dsimp only
  rw [countError_openRequest, ← nextCaller_countError p kind tag .unknown s]
  cases p <;> rfl

end Sys2Proof.Machine
end

section
/-!
SUPPORT. The bytes of telegrams (R9, R12, R178, R179): the payloads of the requests, the telegrams of the replies, and
the requests that telegrams spell.
-/

namespace Sys2Proof.Machine
open Sys2Proof

/-! ### Fields, high byte first (R178) -/

/-- A byte behind others counts in ones, and they in 256s. -/
theorem toNat_append_byte {n : Nat} (x : BitVec n) (b : Byte) : (x ++ b).toNat = x.toNat * 256 + b.toNat := by
  rw [BitVec.toNat_append, ← Nat.shiftLeft_add_eq_or_of_lt b.isLt, Nat.shiftLeft_eq]

/-- The four bytes of a field are the field (R9, R12). -/
theorem append_bytes4 (w : FieldWord) :
    byteOf (w.toInt / 16777216) ++ byteOf (w.toInt / 65536) ++ byteOf (w.toInt / 256) ++ byteOf w.toInt = w := by
  apply BitVec.eq_of_toNat_eq
  have hw := w.isLt
  rw [toNat_append_byte, toNat_append_byte, toNat_append_byte]
  simp only [toNat_byteOf, BitVec.toInt_eq_toNat_cond]
  split <;> omega

/-- The two bytes of a check word are the check word (R13). -/
theorem append_bytes2 (w : CheckWord) : byteOf ((w.toNat : Int) / 256) ++ byteOf (w.toNat : Int) = w := by
  apply BitVec.eq_of_toNat_eq
  have hw := w.isLt
  rw [toNat_append_byte, toNat_byteOf, toNat_byteOf]
  omega

theorem fieldWords_flatMap (words : List FieldWord) : fieldWords (words.flatMap (fun w => bytes4 w.toInt)) = some words := by
  induction words with
  | nil => rfl
  | cons w words ih =>
    have hcons : fieldWords ((w :: words).flatMap (fun w => bytes4 w.toInt)) =
        (fieldWords (words.flatMap (fun w => bytes4 w.toInt))).map
          (fun l => (byteOf (w.toInt / 16777216) ++ byteOf (w.toInt / 65536) ++ byteOf (w.toInt / 256) ++
            byteOf w.toInt) :: l) := rfl
    rw [hcons, ih, append_bytes4]
    rfl

/-- Fields fit where their bytes come in fours. -/
theorem fieldWords_eq_none_iff : ∀ l : List Byte, fieldWords l = none ↔ ∀ n, l.length ≠ 4 * n
  | [] => ⟨nofun, fun h => absurd rfl (h 0)⟩
  | [_] => ⟨fun _ n h => by simp at h; omega, fun _ => rfl⟩
  | [_, _] => ⟨fun _ n h => by simp at h; omega, fun _ => rfl⟩
  | [_, _, _] => ⟨fun _ n h => by simp at h; omega, fun _ => rfl⟩
  | a :: b :: c :: d :: rest => by
    have hrest := fieldWords_eq_none_iff rest
    refine Option.map_eq_none_iff.trans (hrest.trans ⟨fun h n hn => ?_, fun h n hn => h (n + 1) ?_⟩)
    · simp only [List.length_cons] at hn
      exact h (n - 1) (by omega)
    · simp only [List.length_cons]
      omega

theorem soundingPairs_flatMap (pairs : List (Byte × Byte × Byte)) :
    soundingPairs (pairs.flatMap (fun x => [x.1, x.2.1, x.2.2])) =
      some (pairs.map (fun x => (x.1.toNat, 256 * x.2.1.toNat + x.2.2.toNat))) := by
  induction pairs with
  | nil => rfl
  | cons x pairs ih =>
    have hcons : soundingPairs ((x :: pairs).flatMap (fun x => [x.1, x.2.1, x.2.2])) =
        (soundingPairs (pairs.flatMap (fun x => [x.1, x.2.1, x.2.2]))).map
          (fun l => (x.1.toNat, ofBytes2 x.2.1 x.2.2) :: l) := rfl
    rw [hcons, ih, ofBytes2, Nat.mul_comm]
    rfl

/-- Pairs fit where their bytes come in threes. -/
theorem soundingPairs_eq_none_iff : ∀ l : List Byte, soundingPairs l = none ↔ ∀ n, l.length ≠ 3 * n
  | [] => ⟨nofun, fun h => absurd rfl (h 0)⟩
  | [_] => ⟨fun _ n h => by simp at h; omega, fun _ => rfl⟩
  | [_, _] => ⟨fun _ n h => by simp at h; omega, fun _ => rfl⟩
  | a :: b :: c :: rest => by
    have hrest := soundingPairs_eq_none_iff rest
    refine Option.map_eq_none_iff.trans (hrest.trans ⟨fun h n hn => ?_, fun h n hn => h (n + 1) ?_⟩)
    · simp only [List.length_cons] at hn
      exact h (n - 1) (by omega)
    · simp only [List.length_cons]
      omega

/-! ### The payloads of the requests (R182, log 8) -/

theorem requestOf_writeData (kind index : Byte) (words : List FieldWord) :
    requestOf .writeData (kind :: index :: words.flatMap (fun w => bytes4 w.toInt)) =
      some (.writeData kind.toNat index.toNat words) := by
  show (fieldWords (words.flatMap (fun w => bytes4 w.toInt))).map (Request.writeData kind.toNat index.toNat) = _
  rw [fieldWords_flatMap]
  rfl

theorem requestOf_writeData_eq_none_iff :
    ∀ payload, requestOf .writeData payload = none ↔ ∀ n, payload.length ≠ 2 + 4 * n
  | [] => ⟨fun _ n h => by simp at h; omega, fun _ => rfl⟩
  | [_] => ⟨fun _ n h => by simp at h; omega, fun _ => rfl⟩
  | kind :: index :: rest => by
    refine Option.map_eq_none_iff.trans ((fieldWords_eq_none_iff rest).trans (forall_congr' fun n => not_congr ?_))
    simp only [List.length_cons]
    omega

theorem requestOf_closeData (w : CheckWord) : requestOf .closeData (bytes2 (w.toNat : Int)) = some (.closeData w) :=
  congrArg (fun x => some (Request.closeData x)) (append_bytes2 w)

theorem requestOf_closeData_eq_none_iff : ∀ payload, requestOf .closeData payload = none ↔ payload.length ≠ 2
  | [] => ⟨nofun, fun _ => rfl⟩
  | [_] => ⟨nofun, fun _ => rfl⟩
  | [_, _] => ⟨nofun, fun h => absurd rfl h⟩
  | _ :: _ :: _ :: _ => ⟨fun _ h => (by simp at h), fun _ => rfl⟩

/-- A request with no field is read from an empty payload alone. -/
theorem bareRequest_fits (r : Request) :
    bareRequest r [] = some r ∧ ∀ payload, payload ≠ [] → bareRequest r payload = none :=
  ⟨if_pos rfl, fun _ h => if_neg h⟩

/-- A request of one tag is read from two bytes alone. -/
theorem tagRequest_fits (f : Nat → Request) :
    (∀ hi lo : Byte, tagRequest f [hi, lo] = some (f (256 * hi.toNat + lo.toNat))) ∧
    ∀ payload, payload.length ≠ 2 → tagRequest f payload = none := by
  refine ⟨fun hi lo => ?_, fun payload h => ?_⟩
  · show some (f (ofBytes2 hi lo)) = _
    rw [ofBytes2, Nat.mul_comm]
  · unfold tagRequest
    split
    · exact absurd rfl h
    · rfl

theorem requestOf_soundings (pairs : List (Byte × Byte × Byte)) :
    requestOf .soundings (pairs.flatMap (fun x => [x.1, x.2.1, x.2.2])) =
      some (.change (.soundings (pairs.map (fun x => (x.1.toNat, 256 * x.2.1.toNat + x.2.2.toNat))))) := by
  show (soundingPairs _).map _ = _
  rw [soundingPairs_flatMap]
  rfl

theorem requestOf_soundings_eq_none_iff (payload : List Byte) :
    requestOf .soundings payload = none ↔ ∀ n, payload.length ≠ 3 * n :=
  Option.map_eq_none_iff.trans (soundingPairs_eq_none_iff payload)

/-! ### The telegrams of the replies (R178, R179, log 9) -/

/-- The fields of a reply: what follows the status byte of its payload. -/
theorem payload_fields (a : Answer) : ∃ fields : List Byte, a.payload = statusByte a.status :: fields ∧
    (a.body = .statusOnly → fields = []) ∧ (∀ bytes, a.body = .layout bytes → fields = bytes) ∧
    (∀ v, a.body = .version v → fields = bytes4 (v.toNat : Int)) ∧
    (∀ w, a.body = .committed w → fields = bytes2 (w.toNat : Int)) ∧
    ((∀ bytes, a.body ≠ .layout bytes) → fields.length ≤ 119) := by
  refine ⟨_, rfl, fun h => ?_, fun bytes h => ?_, fun v h => ?_, fun w h => ?_, fun h => ?_⟩
  · rw [h]
  · rw [h]
  · rw [h]
    rfl
  · rw [h]
    rfl
  · exact Nat.le_of_succ_le_succ ((payload_spec a).2 h)

/-- A reply's kind is the request's with its high bit set. -/
theorem toNat_replyKind (b : Byte) : (replyKind b).toNat = if b.toNat < 128 then b.toNat + 128 else b.toNat := by
  revert b
  decide

/-! ### A telegram is its request -/

/-- The four ways in which a whole telegram ends (the first part of the statement). -/
theorem telegram_ends (p : Port) (s : State) (kind tag : Byte) {payload : List Byte} (hp : payload.length ≤ 120)
    (h : (s.ports.get p).rx = .waiting) :
    let line (bytes : List Byte) : Instr := .telegramReceived p (bytes.map (fun b => ⟨b, true⟩))
    (∀ k r i, kindOfByte kind = some k → requestOf k payload = some r → requestRow i = some (p, tag, r) →
      ∃ t, exec (line (telegram kind tag payload)) s = .next t ∧ exec i s = .next t) ∧
    (∀ k, kindOfByte kind = some k → requestOf k payload = none → Ready s p → s.ship.mode ≠ .verify →
      roleAllows k (portRole p) = true → modeAnswer s.ship.mode k = none →
      exec (line (telegram kind tag payload)) s = answersOnly s p k tag ⟨.badArgument, misfitBody s k⟩) ∧
    (kindOfByte kind = none → Ready s p →
      exec (line (telegram kind tag payload)) s =
        let t := countError p .unknown s
        .next { t with ports := t.ports.modify p (fun q => { q with
          outstanding := some ⟨p, kind, tag, q.nextMark⟩, nextMark := q.nextMark + 1,
          tx := q.tx ++ [⟨⟨replyKind kind, tag, ⟨.unknown, .statusOnly⟩⟩, some q.nextMark⟩] }) }) ∧
    (∀ a b, [a, b] ≠ crcBytes (crc16 (kind :: tag :: byteOf payload.length :: payload)) →
      exec (line (kind :: tag :: byteOf payload.length :: payload ++ [a, b])) s = .next (countError p .check s)) := by
  intro line
  have hline : exec (line (telegram kind tag payload)) s = .next (handOn p kind tag payload s) := exec_telegram h kind tag hp
  rw [hline]
  refine ⟨fun k r i hk hr hi => ?fits, fun k hk hr hready hv hrole hm => ?misfit, fun hk hready => ?unknown,
    fun a b hab => ?check⟩
  case fits => exact ⟨_, rfl, by rw [handOn_fits hk hr, exec_requestRow s hi]⟩
  case misfit =>
    obtain rfl := (kindOfByte_eq_some_iff kind k).1 hk
    exact congrArg Host.Outcome.next (handOn_misfit hr hready hv hrole hm)
  case unknown => exact congrArg Host.Outcome.next (handOn_unknown payload hk hready)
  case check => exact congrArg Host.Outcome.next ((rxChars_telegram h kind tag hp a b).trans (if_neg hab))

/-- Settles O5: the ends of a telegram, the telegram of a reply, the kind numbers, the payloads, and replies to misfits. -/
theorem soundTelegramIsItsRequest : Obligations.SoundTelegramIsItsRequest := by
  refine ⟨fun p s kind tag payload hp h => telegram_ends p s kind tag hp h, ⟨fun r => ?reply, ?checkValue, ?statuses⟩,
    ⟨?kinds, kindOfByte_eq_some_iff, toNat_replyKind⟩, ⟨requestOf_writeData, requestOf_writeData_eq_none_iff,
    requestOf_closeData, requestOf_closeData_eq_none_iff, ?bare, ?tagged, requestOf_soundings,
    requestOf_soundings_eq_none_iff, fun k payload r => requestOf_kind⟩, fun s k => ?misfits⟩
  case reply =>
    obtain ⟨fields, hpayload, hrest⟩ := payload_fields r.answer
    refine ⟨fields, ?_, hrest⟩
    unfold Reply.telegram telegram
    rw [hpayload]
    rfl
  case checkValue => simp [crc16, crcByte, crcBit]
  case statuses => decide
  case kinds => decide
  case bare =>
    intro e he
    have hform : requestOf e.1 = bareRequest e.2 := by fin_cases he <;> rfl
    rw [hform]
    exact bareRequest_fits e.2
  case tagged =>
    intro e he
    have hform : requestOf e.1 = tagRequest e.2 := by fin_cases he <;> rfl
    rw [hform]
    exact tagRequest_fits e.2
  case misfits =>
    intro changes settings
    refine ⟨fun h => ?_, fun h => ?_, fun h => ?_, fun hadd hchange hsetting => ?_⟩
    · rw [h]
      rfl
    · simp only [changes, List.mem_cons, List.not_mem_nil, or_false] at h
      rcases h with rfl | rfl | rfl | rfl | rfl | rfl | rfl | rfl | rfl | rfl | rfl <;> rfl
    · simp only [settings, List.mem_cons, List.not_mem_nil, or_false] at h
      rcases h with rfl | rfl | rfl | rfl | rfl <;> rfl
    · cases k with
      | addItems => exact absurd rfl hadd
      | amendItem | planMove | cancelPlan | removeItem | setCompartment | clearCondition | setDensity | soundings | hookOn
      | hookAt | landed => exact absurd (by simp [changes]) hchange
      | setCriterion | setRange | resetSlot | inject | withdraw => exact absurd (by simp [settings]) hsetting
      | _ => rfl

end Sys2Proof.Machine
end

section
/-!
SUPPORT. The attention unit (R188 to R191): the line of one port after a cause raised or removed and after a new mask, and the
two requests that it answers.
-/

namespace Sys2Proof.Machine
open Sys2Proof

/-! ### A request answered outside VERIFY -/

/-- Every mode but VERIFY accepts the two requests to the attention unit (R15). -/
theorem attentionRequest_accepted {m : ServiceMode} {k : ReqKind} (hk : k = .attentionQuery ∨ k = .setAttention)
    (h : m ≠ .verify) : modeAnswer m k = none := by
  cases m with
  | verify => exact absurd rfl h
  | inService | dataLoading | dataFault => rcases hk with rfl | rfl <;> rfl

/-- A request that every mode but VERIFY accepts, whose block answers it at once leaving the ports and the evaluation unit, has
the block's effect and the answer. -/
theorem exec_answeredOutsideVerify {i : Instr} {p : Port} {tag : Byte} {r : Request} {s u : State} {a : Answer}
    (hi : requestRow i = some (p, tag, r)) (h : Ready s p) (hv : s.ship.mode ≠ .verify)
    (hr : roleAllows r.kind (portRole p) = true) (hm : modeAnswer s.ship.mode r.kind = none) (heval : u.eval = s.eval)
    (ha : ∀ q x, q.port = p → serve r q (s.withPorts x) = answer q a (u.withPorts x)) :
    exec i s = .next { u with ports := answeredPorts s p r.kind tag a } := by
  have hserve := ha (nextCaller s p (kindByte r.kind) tag) (openRequest (nextCaller s p (kindByte r.kind) tag) s).ports rfl
  rw [answer_opened] at hserve
  rw [exec_requestRow s hi, request_taken h (fun hverify => absurd hverify hv) hr hm]
  refine congrArg Host.Outcome.next ((congrArg (arbitrate s.eval) hserve).trans ?_)
  rw [← heval]
  exact arbitrate_quiet { u with ports := answeredPorts s p r.kind tag a }

/-! ### A cause raised or removed on one port (R188, R190) -/

theorem raise_pendingCause {c : Cause} {a : AttnPort} (h : c ∈ a.pending) : AttnPort.raise c a = a :=
  if_pos (List.contains_iff_mem.2 h)

/-- A new cause joins the pending set; in LEVEL mode the line follows, in PULSE mode an unmasked cause begins a pulse. -/
theorem raise_newCause {c : Cause} {a : AttnPort} (h : c ∉ a.pending) : AttnPort.raise c a = { a with
    pending := causeInsert c a.pending
    active := if a.mode = .level then levelOf (causeInsert c a.pending) a.unmasked else a.active || a.unmasked.contains c } := by
  unfold AttnPort.raise
  rw [if_neg (by simp [h])]
  cases hmode : a.mode with
  | level => rfl
  | pulse => rfl

/-- A cause leaves the pending set; the line follows in LEVEL mode alone. -/
theorem remove_eq (c : Cause) (a : AttnPort) : AttnPort.remove c a = { a with
    pending := causeRemove c a.pending
    active := if a.mode = .level then levelOf (causeRemove c a.pending) a.unmasked else a.active } := by
  unfold AttnPort.remove AttnPort.relevel
  cases hmode : a.mode with
  | level => rfl
  | pulse => rfl

/-! ### The end of a pulse (R190) -/

theorem pulseEnds_pulse {p : Port} {s : State} (h : (s.attn.get p).mode = .pulse) :
    pulseEnds p s = { s with attn := s.attn.set p { s.attn.get p with active := false } } :=
  if_pos h

theorem pulseEnds_level {p : Port} {s : State} (h : (s.attn.get p).mode = .level) : pulseEnds p s = s :=
  if_neg (by simp [h])

/-! ### ATTENTION QUERY (R191) -/

/-- OUTCOME READY persists on a crane's port alone, while the crane's record is DONE (R188). -/
theorem persists_outcomeReady (s : State) (p : Port) :
    persists s p .outcomeReady = (craneOf p).any (fun d => (s.record d).state == .done) := by
  cases p <;> rfl

/-- A query answers from the state that it leaves. -/
theorem takeAttentionQuery_eq {q : Caller} {s t : State} {c : Option Cause} (hhead : (s.attn.get q.port).head = c)
    (ht : queried q.port c s = t) :
    takeAttentionQuery q s = answer q ⟨.done, .attention c (t.attn.get q.port).pending⟩ t := by
  subst hhead ht
  rfl

section
variable {s : State} {p : Port} {tag : Byte}

/-- A query that returns no cause, or one that persists, changes nothing but the ports. -/
theorem exec_attentionQuery_stays {c : Option Cause} (h : Ready s p) (hv : s.ship.mode ≠ .verify)
    (hhead : (s.attn.get p).head = c) (hstays : c.all (persists s p) = true) :
    exec (.attentionQuery p tag) s =
      answersOnly s p .attentionQuery tag ⟨.done, .attention c (s.attn.get p).pending⟩ := by
  have hqueried (x) : queried p c (s.withPorts x) = s.withPorts x := by
    cases c with
    | none => rfl
    | some y => exact if_pos hstays
  refine exec_answeredOutsideVerify (r := .attentionQuery) rfl h hv rfl (attentionRequest_accepted (.inl rfl) hv) rfl
    fun q x hq => ?_
  subst hq
  exact takeAttentionQuery_eq hhead (hqueried x)

/-- A query that returns a cause which does not persist removes it from its port before it answers. -/
theorem exec_attentionQuery_removes {c : Cause} (h : Ready s p) (hv : s.ship.mode ≠ .verify)
    (hhead : (s.attn.get p).head = some c) (hgoes : persists s p c = false) :
    exec (.attentionQuery p tag) s = .next { s with
      attn := s.attn.set p (AttnPort.remove c (s.attn.get p))
      ports := answeredPorts s p .attentionQuery tag
        ⟨.done, .attention (some c) (causeRemove c (s.attn.get p).pending)⟩ } := by
  have hqueried (x) : queried p (some c) (s.withPorts x) = removeAt p c (s.withPorts x) :=
    if_neg (Bool.eq_false_iff.1 hgoes)
  have hleft : ((removeAt p c s).attn.get p).pending = causeRemove c (s.attn.get p).pending := by
    rw [removeAt_attn, PerPort.get_modify_same, remove_eq]
  rw [← hleft]
  refine exec_answeredOutsideVerify (r := .attentionQuery) (u := removeAt p c s) rfl h hv rfl
    (attentionRequest_accepted (.inl rfl) hv) rfl fun q x hq => ?_
  subst hq
  exact takeAttentionQuery_eq hhead (hqueried x)

end

/-- Settles O9: the cause at the head of the port's unmasked pending set, by whether it persists. -/
theorem attentionQueryReturns : Obligations.AttentionQueryReturns := by
  intro p tag s h
  refine ⟨fun hv => ?_, fun hv => ?_⟩
  · rw [exec_requestRow s (rfl : requestRow (.attentionQuery p tag) = some (p, tag, .attentionQuery)),
      request_verify h hv (by decide)]
    rfl
  · intro a c stays left
    have hhead : a.head = c := rfl
    have hstays : stays = c.all (persists s p) := by
      clear_value c
      cases c with
      | none => rfl
      | some y =>
        cases y with
        | outcomeReady => exact (persists_outcomeReady s p).symm
        | _ => rfl
    split
    · next hkept => exact exec_attentionQuery_stays h hv hhead (hstays.symm.trans hkept)
    · next hgone =>
      clear_value c
      cases c with
      | none => exact absurd rfl hgone
      | some y =>
        have hleft : left = causeRemove y a.pending := List.filter_congr fun x _ => by simp [bne]
        have hgoes : persists s p y = false := hstays.symm.trans (Bool.eq_false_iff.2 hgone)
        rw [exec_attentionQuery_removes h hv hhead hgoes, remove_eq, hleft]

/-! ### SET ATTENTION (R189, R190) -/

/-- The causes have the numbers 1 to 7. -/
theorem causeOfNumber_isSome_iff : ∀ n, (causeOfNumber n).isSome = true ↔ 1 ≤ n ∧ n ≤ 7
  | 0 => by decide
  | 1 | 2 | 3 | 4 | 5 | 6 | 7 => by decide
  | n + 8 => ⟨nofun, fun h => by omega⟩

theorem maskOk_iff (l : List Nat) : maskOk l = true ↔ ∀ n ∈ l, 1 ≤ n ∧ n ≤ 7 := by
  simp only [maskOk, List.all_eq_true, causeOfNumber_isSome_iff]

/-- A mode that is neither, or a mask with a number that no cause has, is refused. -/
theorem takeSetAttention_refused {l : List Nat} {mode : Option LineMode} (h : mode = none ∨ ∃ n ∈ l, n < 1 ∨ 7 < n)
    (q : Caller) (s : State) : takeSetAttention l mode q s = answer q (bare .badArgument) s := by
  cases mode with
  | none => rfl
  | some m =>
    obtain ⟨n, hn, hout⟩ := h.resolve_left nofun
    refine if_pos (Bool.eq_false_iff.2 fun hok => ?_)
    have hin := (maskOk_iff l).1 hok n hn
    omega

/-- A new mask and mode leave the pending set; the line takes its LEVEL value in LEVEL mode, falls where the mode turns to
PULSE, and stays where it is PULSE already. -/
theorem attnReset_eq (u : List Cause) (m : LineMode) (a : AttnPort) : AttnPort.reset u m a = { a with
    unmasked := u
    mode := m
    active := if m = .level then levelOf a.pending u else if a.mode = .level then false else a.active } := by
  unfold AttnPort.reset
  split
  · rfl
  · next hlevel => simp [hlevel]
  · next hpulse => simp [hpulse]

theorem takeSetAttention_taken {l : List Nat} (m : LineMode) (h : ∀ n ∈ l, 1 ≤ n ∧ n ≤ 7) (q : Caller) (s : State) :
    takeSetAttention l (some m) q s = answer q ⟨.done, .attentionSet (maskOf l) m (s.attn.get q.port).pending⟩
      (s.withAttn (s.attn.modify q.port (AttnPort.reset (maskOf l) m))) := by
  unfold takeSetAttention
  dsimp only
  rw [if_neg (by simp [(maskOk_iff l).2 h]), withAttn_attn, PerPort.get_modify_same, reset_pending]

/-- Settles O10: SET ATTENTION refused and taken, then a cause raised, a cause removed and the end of a pulse. -/
theorem attentionMasksModesAndPulses : Obligations.AttentionMasksModesAndPulses := by
  refine ⟨fun p tag unmasked mode s h hv => ⟨fun hbad => ?refused, fun m hmode hmask => ?taken⟩,
    fun a c p s => ⟨raise_pendingCause, fun hnew => ?raised, fun hnew hlevel => ?raisedLevel, fun hnew hpulse => ?raisedPulse,
      ⟨raise_unmasked a c, raise_mode a c⟩, ⟨remove_unmasked a c, remove_mode a c⟩, ?removed, fun hlevel => ?removedLevel,
      fun hpulse => ?removedPulse, fun hpulse => congrArg Host.Outcome.next (pulseEnds_pulse hpulse),
      fun hlevel => congrArg Host.Outcome.next (pulseEnds_level hlevel)⟩⟩
  case refused =>
    exact exec_answeredOutsideVerify (r := .setAttention unmasked mode) rfl h hv rfl (attentionRequest_accepted (.inr rfl) hv) rfl
      fun q x _ => takeSetAttention_refused hbad q (s.withPorts x)
  case taken =>
    subst hmode
    have hexec := exec_answeredOutsideVerify (i := .setAttention p tag unmasked (some m))
      (r := .setAttention unmasked (some m)) (u := s.withAttn (s.attn.modify p (AttnPort.reset (maskOf unmasked) m)))
      (a := ⟨.done, .attentionSet (maskOf unmasked) m (s.attn.get p).pending⟩) rfl h hv rfl
      (attentionRequest_accepted (.inr rfl) hv) rfl fun q x hq => hq ▸ takeSetAttention_taken m hmask q (s.withPorts x)
    rw [hexec, withAttn_attn, PerPort.modify, attnReset_eq]
    cases m with
    | level => rfl
    | pulse => cases (s.attn.get p).mode <;> rfl
  case raised =>
    rw [raise_newCause hnew]
    rfl
  case raisedLevel =>
    rw [raise_newCause hnew]
    exact if_pos hlevel
  case raisedPulse =>
    rw [raise_newCause hnew, hpulse]
    rfl
  case removed =>
    rw [remove_eq]
    rfl
  case removedLevel =>
    rw [remove_eq]
    exact if_pos hlevel
  case removedPulse =>
    rw [remove_eq, hpulse]
    rfl

end Sys2Proof.Machine
end

section
/-!
# The front command of the queue (log 2)

A step with a command waiting is that command's execution on the state that keeps the rest of the queue.
-/

namespace Sys2Proof.Machine
open Sys2Proof

theorem step_of_pending_cons {c : Instr} {rest : List Instr} {s : State} (hq : s.pending = c :: rest) :
    step s = exec c (s.withPending rest) := by
  unfold step
  rw [hq]

/-- Settles O1: the queue's second arm, with `withPending` the record update of the queue alone. -/
theorem stepTakesTheFrontCommand : Obligations.StepTakesTheFrontCommand :=
  fun _ _ _ hq => step_of_pending_cons hq

end Sys2Proof.Machine
end
